-- ==== Sys2Proof/Word.lean ====
section
/-! DEFINITION. The word types of the GLF-7240 (00_scope.md R4, R5, R9): bytes, the 32-bit register word, and the
(address, byte) cell of a memory. -/
namespace Sys2Proof

/-- One byte, bit 0 the least significant (R5). -/
abbrev Byte := BitVec 8

/-- A register of BAR0 or of the management space (R9). -/
abbrev Word := BitVec 32

/-- One descriptor of 64 bytes; byte b lies at bits [8b+7:8b] (R4, R339). -/
abbrev Desc := BitVec 512

/-- One byte of a memory at its address. -/
abbrev Cell := Host.Cell

end Sys2Proof
end

