-- ==== Sys2Proof/Syntax.lean ====
section
/-! DEFINITION. The commands of the block: `Instr`, one constructor for each row of the opcode table, and the plain data
that their operands are made of. -/
namespace Sys2Proof

/-- How a read that the device issued came back (R289, R291, R315). A page-table entry that was read wrong and corrected from its
mirror leaves the read as it is; where the mirror is lost too, the read is `tablesLost`. -/
inductive Rsp where
  | ok | corrected | uncorrectable | tablesLost | poisoned | unsupported | abort | timeout
  deriving DecidableEq, Repr

/-- Configuration-space fields whose value the spec states (R300, R305, R307–R314), and the controls software reads back. -/
inductive CfgField where
  | vendor | device | vfDevice | serialLo | serialHi | totalVfs | initialVfs | firstVfOffset | vfStride | pageSizes
  | portType | linkSpeeds | linkWidth | aspm | l0p | payload | tags | noSoftReset | aer | atsDepth | pageAligned | pri
  | pasidWidth | pasidModes | msixSize | msixTable | msixPba
  | functionMask | pasidEnable | atsEnable | readLimit | relaxed | tags10
  | barKind (bar : Nat) | barBytes (bar : Nat)
  deriving DecidableEq, Repr

/-- A write to a function's configuration space: MSI-X Function Mask (R310), PASID Enable (R314), ATS Enable (R312), Device
Control's Max_Read_Request_Size, Relaxed Ordering Enable and 10-bit tags (R305), an IDE stream's enable with the RID and address
ranges that it selects (R317, R318). -/
inductive CfgWrite where
  | msix (functionMask : Bool)
  | pasid (enable : Bool)
  | ats (enable : Bool)
  | device (readLimit : Nat) (relaxed tags10 : Bool)
  | ide (stream : Nat) (enable : Bool) (ridLo ridHi base limit : Nat)
  deriving DecidableEq, Repr

/-- A configuration request: a word at an offset, a field by its name (the spec places no capability; assumption 6), a write. -/
inductive CfgAccess where
  | read (off : Nat)
  | field (f : CfgField)
  | write (w : CfgWrite)
  deriving DecidableEq, Repr

/-- What a mount reads: whether the credential record reads well, and the copies of commit records, by spool and copy, whose digests
do not verify (R279, R449). -/
structure MountReads where
  credentialOk : Bool
  bad : List (Nat × Nat) := []
  deriving DecidableEq, Repr

/-- How a background read of a memory unit came out (R289, R290). -/
inductive ReadResult where
  | clean | corrected | uncorrectable
  deriving DecidableEq, Repr

/-- A status page: a function's or a context's (R353). -/
inductive PageSel where
  | function (fn : Fin 64)
  | context (n : Nat)
  deriving DecidableEq, Repr

/-- The roles of management accounts (R436). -/
inductive Role where
  | readOnly | operator | administrator | service
  deriving DecidableEq, Repr

/-- The components that send heartbeats and are partially reset (R26, R461). -/
inductive Proc where
  | thimble | management | housekeeping | vault | tailor | shuttle | tile | hubDie
  deriving DecidableEq, Repr

/-- A processor by its kind and instance (R26). -/
structure ProcAt where
  kind : Proc
  inst : Nat
  deriving DecidableEq, Repr

/-- A die with a root PLL of its own (R28, R35). -/
inductive Die where
  | converter (t : Fin 12) | hub (h : Fin 4) | iod
  deriving DecidableEq, Repr

/-- A power domain that can be powered down and woken (R382). -/
inductive Domain where
  | tile (t : Fin 12) | hub (h : Fin 4) | hbm (h : Fin 4) | lpddr
  deriving DecidableEq, Repr

/-- One image entry of a manifest (R406); `digest` is its SHA-512 value as a little-endian number. -/
structure ImageEntry where
  type        : Nat
  handoverMin : Nat
  handover    : Nat
  digest      : Nat
  deriving DecidableEq, Repr

/-- A bundle manifest (R405) as decoded from its bytes, with what they decide under each check of R407. -/
structure Manifest where
  /-- MAGIC, VERSION, N_IMAGES match and every reserved byte is 0 (check 1). -/
  formOk       : Bool
  keySlot      : Fin 4
  svn          : Nat
  revokeMask   : BitVec 4
  steppingMask : BitVec 2
  /-- SHA-384 of MLDSA_PUB, which must equal the slot's fused digest (check 4). -/
  pubDigest    : Nat
  /-- ED_SIG verifies (check 5). -/
  edOk         : Bool
  /-- MLDSA_SIG verifies (check 5). -/
  mldsaOk      : Bool
  /-- Every image entry lies within the image region, with no overlap (check 6). -/
  imagesFit    : Bool
  images       : List ImageEntry
  /-- SHA-512 of the manifest's bytes (R416). -/
  digest       : Nat
  deriving DecidableEq, Repr

/-- What Thimble reads as a bundle at STAGE (R411): the manifest's 8,192 bytes, or a failed host read (SOURCE_FAULT); and what the
key engine finds of them (R407 checks 4 and 5, R416). -/
structure BundleRead where
  bytes      : List Byte
  /-- SHA-384 of MLDSA_PUB. -/
  pubDigest  : Nat
  edOk       : Bool
  mldsaOk    : Bool
  /-- SHA-512 of the bytes. -/
  digest     : Nat
  fault      : Bool
  deriving DecidableEq, Repr

/-- A debug token: its 5,392 bytes as read from host memory (R426), and what the key engine finds of them. -/
structure TokenRead where
  readOk     : Bool
  bytes      : List Byte
  /-- SHA-384 of MLDSA_PUB. -/
  pubDigest  : Nat
  edOk       : Bool
  mldsaOk    : Bool
  deriving DecidableEq, Repr

/-- How a management request authenticates itself (R438). -/
inductive Auth where
  | none
  | certificate (authority subject : Nat)
  | token (session : Nat)
  | basic (user password : Nat)
  deriving DecidableEq, Repr

/-- A management request: its connection, its authentication, its If-Match ETag (R440), and the second of its arrival
in the management processor's own count (R36, R439). -/
structure Req where
  conn    : Nat
  auth    : Auth
  ifMatch : Option Nat
  second  : Nat
  deriving DecidableEq, Repr

/-- What a client shows in its TLS handshake (R437, R438). -/
inductive ConnCred where
  | noCertificate
  | certificate (authority : Nat)
  deriving DecidableEq, Repr

/-- The resources of the management service (R441, R442); `other` is any path outside them. -/
inductive Resource where
  | serviceRoot | sessions | accounts | roles | certificates | manager | network | eventLog
  | sensor (n : Nat) | environment | powerLimit | update | tasks | eventService | registries
  | tile (t : Fin 12) | core (c : Fin 48) | laser (t : Fin 12) (n : Fin 72) | calibration (t : Fin 12)
  | seam (t : Fin 12) (p : Fin 4) | vault | housekeeping | placement | serviceFacilities | other
  deriving DecidableEq, Repr

/-- CHALLENGE's measurement summary hash type (R420). -/
inductive SummaryHash where
  | none | tcb | all | other
  deriving DecidableEq, Repr

/-- One heater readback (R159): the current in nA, and whether the code changed within 10 µs or a range change runs. -/
structure HeaterRead where
  core     : Fin 4
  row      : Fin 67
  ch       : Fin 64
  nanoamps : Nat
  unstable : Bool
  deriving DecidableEq, Repr

/-- One back-facet monitor reading (R142), in parts per million of the laser's set point, and its driver's report (R143). -/
structure LaserRead where
  laser    : Fin 72
  ppm      : Nat
  driverOk : Bool
  deriving DecidableEq, Repr

/-- A drop peak of a ring's sweep (R151): the tone demodulated, the heater current in 0.125 µA, and its place by its order in the
sweep, counted from the position that the factory record predicts: 64 × resonance order + channel. -/
structure DropPeak where
  tone    : Fin 4
  place   : Nat
  current : Nat
  deriving DecidableEq, Repr

/-- Threading of one ring (R151): the peaks of its sweep. -/
structure RingThread where
  core    : Fin 4
  row     : Fin 67
  ch      : Fin 64
  peaks   : List DropPeak
  deriving DecidableEq, Repr

/-- One probe pass of a core (R164): its operand vector, 64 bytes or codes, and its ADC codes, laid out as those of a pass. -/
structure ProbePass where
  core    : Fin 4
  input   : List Nat
  samples : List Byte
  deriving DecidableEq, Repr

/-- The reads of a piece on the vector units (R104): good, a block that met a second Σw mismatch, or an uncorrectable error. -/
inductive VuReads where
  | ok
  | sigma (set pass : Nat)
  | uncorrectable
  deriving DecidableEq, Repr

/-- Heater centring of one ring (R208): the measured ΔQ in 10⁻⁶ mA², and the second measurement where one was made. -/
structure RingCentre where
  ch       : Fin 64
  dq       : Int
  again    : Option Int
  deriving DecidableEq, Repr

/-- Heater centring of a row: the row and its rings (R208). -/
structure RowCentre where
  row   : Fin 67
  rings : List RingCentre
  deriving DecidableEq, Repr

/-- A walk slot that opens: the core, and whether the tile controller makes the fix point (R202, R206). -/
structure WalkSlot where
  core : Fin 48
  made : Bool
  deriving DecidableEq, Repr

/-- One measurement of a half-row (R189): 33 mean codes and standard deviations, in 1/65,536 code. -/
structure HalfMeas where
  mu    : List Int
  sigma : List Nat
  deriving DecidableEq, Repr

/-- One measurement of a row (R189): both halves, and the analog residual in 1/65,536 LSB rms. -/
structure RowMeas where
  a     : HalfMeas
  b     : HalfMeas
  resid : Nat
  deriving DecidableEq, Repr

/-- What one power-up calibration step found on a tile (R190, R191). -/
structure CalResults where
  /-- Step 1: the ruler rings were found and the chiplet is sound. -/
  rulerOk     : Bool
  /-- Step 1: lasers that could not be characterised. -/
  badLasers   : List (Fin 72)
  /-- Step 3: rows with a ring beyond trim; steps 4, 6, 7: rows with an ADC trim beyond range; step 8: rows a probe found. -/
  badRows     : List (Fin 4 × Fin 67)
  /-- Step 3: channels whose modulator is beyond trim. -/
  badChannels : List (Fin 64)
  /-- Steps 4, 6, 7: the run's measurements. -/
  runs        : List (Fin 4 × Fin 67 × RowMeas)
  /-- Step 6: the tile's mean sensor temperature during run B, in 0.01 °C (R199). -/
  meanTemp    : Int
  /-- Step 1, at power-up: the digests of the vault's and of the NOR mirror's copy of the sets verify (R200). -/
  vaultSetsOk  : Bool := true
  mirrorSetsOk : Bool := true
  deriving DecidableEq, Repr

/-- A seam or die-to-die flit as received (R169, R170). -/
structure Flit where
  seqNo     : BitVec 16
  ackNo     : BitVec 16
  kind      : Byte
  cls       : Byte
  payload   : List Byte
  /-- FEC-corrected symbols in its codewords (R181). -/
  corrected : Nat
  /-- Its codewords were correctable. -/
  fecOk     : Bool
  crcOk     : Bool
  tagOk     : Bool
  deriving DecidableEq, Repr

/-- An event as a processor reports it (R450). -/
structure Event where
  source   : Byte
  inst     : Byte
  severity : Nat
  cls      : Nat
  code     : BitVec 16
  params   : BitVec 256
  localCount : Nat
  deriving DecidableEq, Repr

/-- The operations and events of the opcode table, one constructor a row; the operands are what the outside world
(the host, the management network, the physics of the module) supplies to that step. -/
inductive Instr where
  /-- NOP (R340): A NOP descriptor executes and completes with no other effect. -/
  | nop (q seq : Nat)
  /-- RUN_PATTERN (R343): A RUN_PATTERN descriptor starts one work item of a loaded pattern on its input and output regions. -/
  | runPattern (q seq : Nat) (hs : List Cell)
  /-- LOAD_PATTERN (R229): A LOAD_PATTERN descriptor reads a pattern file, checks it in order and places its pieces. -/
  | loadPattern (q seq : Nat) (hs : List Cell) (rsp : Rsp)
  /-- UNLOAD_PATTERN (R231): An UNLOAD_PATTERN descriptor releases a pattern's cores, buffers, cache and tracker state at the
  completion boundary of earlier work. -/
  | unloadPattern (q seq : Nat)
  /-- COPY (R344): A COPY descriptor moves bytes between DVAs and spools, staging 2 MiB segments. -/
  | copy (q seq : Nat) (hs : List Cell) (bad : Option (Nat × Rsp))
  /-- FILL (R344): A FILL descriptor writes a 64-bit value repeatedly over a destination range. -/
  | fill (q seq : Nat)
  /-- EXPERT_HINT (R255): An EXPERT_HINT descriptor queues prefetches of listed experts and pins or unpins them. -/
  | expertHint (q seq : Nat) (hs : List Cell)
  /-- FENCE (R352): A FENCE descriptor waits for all earlier commands of its queue and optionally for a memory condition. -/
  | fence (q seq : Nat) (hs : List Cell)
  /-- SIGNAL (R352): A SIGNAL descriptor waits for earlier commands and then writes an 8-byte value. -/
  | signal (q seq : Nat)
  /-- SCALE_FREEZE (R135): A SCALE_FREEZE descriptor freezes or resumes scale tracking of a pattern on the queue. -/
  | scaleFreeze (q seq : Nat)
  /-- SCALE_SET (R136): A SCALE_SET descriptor sets exponents of listed tracker slots and clears the windows. -/
  | scaleSet (q seq : Nat)
  /-- CALIBRATE (R211): A CALIBRATE descriptor runs ACCEL, RESTORE or RETHREAD actions on a tile mask. -/
  | calibrate (q seq : Nat)
  /-- SELF_TEST (R214): A SELF_TEST descriptor tests the named free tiles one at a time. -/
  | selfTest (q seq : Nat)
  /-- QUERY_STATUS (R346): A QUERY_STATUS descriptor writes a queue, tracker, spool or context block to a DVA. -/
  | queryStatus (q seq : Nat)
  /-- CREATE_CONTEXT (R347): An admin CREATE_CONTEXT creates a context with owner, weight, PASID, doorbell and status pages. -/
  | createContext (seq : Nat)
  /-- DESTROY_CONTEXT (R357): An admin DESTROY_CONTEXT destroys the context's queues, patterns, mappings and partitions. -/
  | destroyContext (seq : Nat)
  /-- CREATE_QUEUE (R347): An admin CREATE_QUEUE creates a queue at a doorbell slot with its rings and interrupt settings. -/
  | createQueue (seq : Nat)
  /-- DESTROY_QUEUE (R357): An admin DESTROY_QUEUE cancels all items of the queue and stops it. -/
  | destroyQueue (seq : Nat)
  /-- MAP (R263): An admin MAP creates page mappings for a context, all or nothing. -/
  | map (seq : Nat)
  /-- UNMAP (R264): An admin UNMAP removes mappings after invalidating cached translations and draining requests. -/
  | unmap (seq : Nat)
  /-- SET_PARTITION_ASSIGN (R360): SET_PARTITION Assign gives device-owned swatches or bolts to a context. -/
  | setPartitionAssign (seq : Nat)
  /-- SET_PARTITION_RELEASE (R360): SET_PARTITION Release scrubs a context's unused units and returns them to the device. -/
  | setPartitionRelease (seq : Nat)
  /-- SET_PARTITION_REASSIGN (R362): SET_PARTITION Reassign takes units from their owner, revokes it, scrubs and gives them to
  the target context. -/
  | setPartitionReassign (seq : Nat)
  /-- SET_PARTITION_CREATE (R360): SET_PARTITION Create makes a new spool of a reserved size for a context. -/
  | setPartitionCreate (seq : Nat)
  /-- SET_PARTITION_RESIZE (R360): SET_PARTITION Resize changes a spool's reserved size. -/
  | setPartitionResize (seq : Nat)
  /-- SET_PARTITION_DELETE (R360): SET_PARTITION Delete makes a spool unreachable and scrubs it in the background. -/
  | setPartitionDelete (seq : Nat)
  /-- SET_PARTITION_ATTACH (R360): SET_PARTITION Attach gives a parked spool to a context whose function and label match. -/
  | setPartitionAttach (seq : Nat)
  /-- SET_PRIORITY (R347): An admin SET_PRIORITY sets a queue's PRIORITY or a context's WEIGHT. -/
  | setPriority (seq : Nat)
  /-- CANCEL (R356): An admin CANCEL cancels named items of a queue according to their state. -/
  | cancel (seq : Nat)
  /-- NUDGE (R337): A write to the NUDGE word wakes the Shuttle of a sleeping queue of the writing function. -/
  | nudge (fn : Fin 64) (width : Nat) (value : Word)
  /-- DOORBELL_SLOT_READ (R335): The return of a Shuttle read of a doorbell slot yields a TAIL and CQ_HEAD for service. -/
  | doorbellSlotRead (q : Nat) (hs : List Cell) (rsp : Rsp)
  /-- DESCRIPTOR_ADMIT (R333): A descriptor fetched from the ring is copied into Shuttle memory and admitted. -/
  | descriptorAdmit (q : Nat) (hs : List Cell) (rsp : Rsp)
  /-- HEAD_WRITEBACK (R333): The Shuttle writes HEAD to the slot at least every 100 µs while it changes. -/
  | headWriteback (q : Nat)
  /-- COMPLETION_RECORD_WRITE (R351): A finished command's completion record is written in SEQ order once ring space allows. -/
  | completionRecordWrite (q elapsed : Nat)
  /-- COAL_TIME_EXPIRY (R355): COAL_TIME since the first pending record expires and the interrupt is sent. -/
  | coalTimeExpiry (q : Nat)
  /-- STATUS_PAGE_WRITE (R354): A changed function or context status page is written with the odd-even GEN protocol. -/
  | statusPageWrite (page : PageSel)
  /-- FENCE_POLL (R352): A waiting FENCE re-reads its address every 10 µs or after a SIGNAL writes it. -/
  | fencePoll (q seq : Nat) (hs : List Cell)
  /-- SELF_TEST_DEADLINE (R215): The SELF_TEST deadline passes with a tile untested and it completes NOT_RUN. -/
  | selfTestDeadline
  /-- SELF_TEST_TILE_DONE (R214): Testing of one tile ends and its result is recorded. -/
  | selfTestTileDone (tile : Fin 12) (failed : BitVec 4)
  /-- SELF_TEST_STOP (R215): The Tailor needs a tile under test and the test stops within 1 ms. -/
  | selfTestStop (tile : Fin 12)
  /-- AQ_ENABLE (R338): Writing AQ_CTRL.EN = 1 starts the admin queue afresh or resumes a draining one. -/
  | aqEnable (value : Word)
  /-- AQ_DISABLE (R338): Writing AQ_CTRL.EN = 0 stops admin admission at the next command boundary. -/
  | aqDisable (value : Word)
  /-- GLB_PLACEMENT_WRITE (R236): A write to GLB_PLACEMENT sets a new profile or reserve target reached through moves. -/
  | glbPlacementWrite (value : Word)
  /-- CLK_SSC_WRITE (R31): A write to CLK_SSC sets a new spread depth. -/
  | clkSscWrite (value : Word)
  /-- SSC_DEPTH_APPLY (R31): At the next modulation period every root PLL applies the new spread depth. -/
  | sscDepthApply
  /-- CLK_STATUS_READ (R34): A read of CLK_STATUS returns and clears LOCK_LOSS. -/
  | clkStatusRead (width off : Nat)
  /-- GLB_LINK_READ (R320): A read of GLB_LINK returns and clears RETRAINS. -/
  | glbLinkRead (width off : Nat)
  /-- PWR_EVENTS_READ (R397): A read of PWR_EVENTS returns and clears its counts. -/
  | pwrEventsRead (width off : Nat)
  /-- INT_CAUSE_WRITE (R481): Writing 1s to INT_CAUSE clears those event bits. -/
  | intCauseWrite (fn : Fin 64) (value : Word) (meets : BitVec 11)
  /-- INT_ENABLE_WRITE (R482): A write to INT_ENABLE sets the enables and sends a message for newly enabled set causes. -/
  | intEnableWrite (fn : Fin 64) (value : Word)
  /-- INT_TEST_WRITE (R481): Writing 1s to INT_TEST sets INT_CAUSE bits as if their events occurred. -/
  | intTestWrite (fn : Fin 64) (value : Word)
  /-- SAFELIGHT_ENTER (R464): GLB_SAFELIGHT.CMD ENTER records the command cause of SAFELIGHT. -/
  | safelightEnter
  /-- SAFELIGHT_EXIT (R467): GLB_SAFELIGHT.CMD EXIT starts a safelight exit or is refused. -/
  | safelightExit
  /-- SAFELIGHT_EXIT_DONE (R468): The exit's calibration ends and the module enters READY or records tile loss. -/
  | safelightExitDone
  /-- COOLING_CAUSE_CLEAR (R467): Sensors have stayed 10 °C below threshold for 60 s and the cooling cause clears. -/
  | coolingCauseClear
  /-- LASER_SUPPLY_CAUSE_CLEAR (R467): The laser supply has been within limits for 10 s and its cause clears. -/
  | laserSupplyCauseClear
  /-- POWER_TARGET_WRITE (R383): A write of PWR_CTRL.TARGET names the resting state or replaces the pending target. -/
  | powerTargetWrite (value : Word)
  /-- PWR_CAP_WRITE (R371): A write of PWR_CAP sets the host cap, entering the limit at the next tick. -/
  | pwrCapWrite (value : Word)
  /-- STAGE (R411): SEC_UPD_CMD STAGE writes a bundle into the inactive slot. -/
  | stage (src : BundleRead)
  /-- STAGE_DONE (R411): Staging ends with the manifest programmed and the slot STAGED. -/
  | stageDone (imagesOk : Bool)
  /-- ACTIVATE (R412): SEC_UPD_CMD ACTIVATE preloads the staged images and swaps domains live. -/
  | activate
  /-- PRELOAD_DONE (R412): Preload of all images to a system bolt completes and domain swaps begin. -/
  | preloadDone (imagesOk : Bool)
  /-- ABORT (R411): SEC_UPD_CMD ABORT stops a running STAGE or ACTIVATE. -/
  | abort
  /-- COMMIT (R415): SEC_UPD_CMD COMMIT blows SVN and REVOKE fuses to the running manifest. -/
  | commit
  /-- NEW_CHAL (R426): DBG_CMD NEW_CHAL draws a new debug challenge. -/
  | newChal
  /-- SUBMIT (R426): DBG_CMD SUBMIT reads a debug token from host memory. -/
  | submit
  /-- DEBUG_TOKEN_VERIFY (R426): A read token is verified and its requested debug change applied. -/
  | debugTokenVerify (tok : TokenRead)
  /-- REGISTER_WRITE (R7): A write to a register without behaviour of its own sets its RW fields. -/
  | registerWrite (fn : Fin 64) (bar off width : Nat) (value : BitVec 64) (poisoned : Bool)
  /-- MSIX_VECTOR_UNMASK (R310): Unmasking an MSI-X vector sends a message that fell due while it was masked. -/
  | msixVectorUnmask (fn : Fin 64) (vec : Nat)
  /-- PERST_N_ASSERT (R325): PERST_N asserted resets the module, losing all work. -/
  | perstNAssert (widthNs : Nat)
  /-- PERST_N_DEASSERT (R321): PERST_N deasserted starts the power-up timeline to READY. -/
  | perstNDeassert (digestA digestB : Bool) (provisionPin : Bool)
  /-- MEMORY_TRAINING_DONE (R321): HBM3E and LPDDR4X are trained and the Shuttles begin serving queues. -/
  | memoryTrainingDone
  /-- WAKE_N (R388): WAKE_N held low 100 µs in OFF starts a full power-up. -/
  | wakeN (lowUs : Nat)
  /-- HOT_RESET (R311): A hot reset or DL_Down acts as a PF FLR followed by link training. -/
  | hotReset
  /-- PF_FLR (R311): A PF Function Level Reset cancels all work and destroys all contexts. -/
  | pfFlr
  /-- VF_FLR (R311): A VF Function Level Reset destroys every context owned by that VF. -/
  | vfFlr (fn : Fin 64)
  /-- VF_ENABLE_CLEAR (R311): Clearing VF Enable resets every enabled VF in one step. -/
  | vfEnableClear
  /-- VF_ENABLE_SET (R309): Setting VF Enable creates the VFs. -/
  | vfEnableSet (num : Nat) (ari : Bool)
  /-- D3HOT_ENTRY (R301): A function in D3hot stops all host-memory service for its contexts. -/
  | d3hotEntry (fn : Fin 64)
  /-- D0_RETURN (R301): Return to D0 resumes service in SEQ order and re-reads doorbell slots. -/
  | d0Return (fn : Fin 64)
  /-- CONFIG_REQUEST (R323): A host configuration request is answered or given Retry Status by timeline step. -/
  | configRequest (fn : Fin 64) (access : CfgAccess) (sinceMs : Nat)
  /-- LINK_RETRAIN (R303): A host-directed retrain or link reset trains the link at the best common rate and width. -/
  | linkRetrain
  /-- LINK_TRAINING_DONE (R303): Link training ends and rate and width are recorded. -/
  | linkTrainingDone (speed width : Nat) (flit : Bool)
  /-- ATS_INVALIDATE (R313): An ATS Invalidate Request stops use of cached translations in a range. -/
  | atsInvalidate (fn : Fin 64) (base len : Nat)
  /-- ATS_INVALIDATE_COMPLETION (R313): The Invalidate Completion is sent once requests under the range have finished. -/
  | atsInvalidateCompletion (fn : Fin 64)
  /-- ATS_TRANSLATION_COMPLETION (R312): A Translation Completion is cached or treated as a faulting access. -/
  | atsTranslationCompletion (fn : Fin 64) (page host : Nat) (read write : Bool)
  /-- FEED_DOG_RESPONSE (R298): A feed-dog response arrives, returning its pin, and is used or discarded. -/
  | feedDogResponse (id : Nat) (hs : List Cell) (rsp : Rsp)
  /-- COMPLETION_TIMEOUT (R315): A host read times out, ending its work item with ACCESS_FAULT. -/
  | completionTimeout (id : Nat)
  /-- DOE_DISCOVERY (R316): A DOE Discovery object is answered. -/
  | doeDiscovery (index : Nat)
  /-- DOE_ABORT (R316): DOE Abort discards the object in progress and unread responses. -/
  | doeAbort
  /-- GET_VERSION (R420): SPDM GET_VERSION is answered with version 1.3. -/
  | getVersion
  /-- GET_CAPABILITIES (R420): SPDM GET_CAPABILITIES is answered with the supported capabilities. -/
  | getCapabilities
  /-- NEGOTIATE_ALGORITHMS (R420): SPDM NEGOTIATE_ALGORITHMS fixes the algorithms. -/
  | negotiateAlgorithms (supported : Bool)
  /-- GET_DIGESTS (R420): SPDM GET_DIGESTS returns the slot 0 digest. -/
  | getDigests
  /-- GET_CERTIFICATE (R420): SPDM GET_CERTIFICATE returns the slot 0 chain. -/
  | getCertificate (slot offset length : Nat)
  /-- CHALLENGE (R420): SPDM CHALLENGE is answered with a signed measurement summary. -/
  | challenge (slot : Nat) (summary : SummaryHash) (nonce : BitVec 256)
  /-- GET_MEASUREMENTS (R421): SPDM GET_MEASUREMENTS returns the named measurement blocks. -/
  | getMeasurements (index : Nat) (signed : Bool) (nonce : BitVec 256)
  /-- KEY_EXCHANGE (R422): SPDM KEY_EXCHANGE opens a session using the pending KEM secret. -/
  | keyExchange (mutualAuth : Bool)
  /-- FINISH (R420): SPDM FINISH completes session establishment. -/
  | finish (session : Nat) (verifies : Bool)
  /-- END_SESSION (R424): SPDM END_SESSION ends a session. -/
  | endSession (session : Nat)
  /-- CHUNK_SEND (R420): SPDM CHUNK_SEND delivers one chunk of a large request. -/
  | chunkSend (handle seqNo : Nat) (last : Bool) (bytes : List Byte)
  /-- CHUNK_GET (R420): SPDM CHUNK_GET returns one chunk of a large response. -/
  | chunkGet (handle seqNo : Nat)
  /-- KEM_GET (R422): KEM_GET makes an ML-KEM-768 key pair and returns its encapsulation key. -/
  | kemGet
  /-- KEM_CT (R422): KEM_CT decapsulates the requester's ciphertext to the pending KEM secret. -/
  | kemCt (ciphertext : List Byte)
  /-- KEY_PROG (R424): IDE_KM KEY_PROG programs an IDE stream key. -/
  | keyProg (session stream sub : Nat)
  /-- K_SET_GO (R424): IDE_KM K_SET_GO activates a key set, resuming held traffic. -/
  | kSetGo (session stream sub : Nat)
  /-- K_SET_STOP (R424): IDE_KM K_SET_STOP stops a key set. -/
  | kSetStop (session stream sub : Nat)
  /-- IDE_KM_QUERY (R424): IDE_KM QUERY reports IDE capability. -/
  | ideKmQuery (session : Nat)
  /-- SPDM_UNSUPPORTED (R420): Any other SPDM request is answered with ERROR UnsupportedRequest. -/
  | spdmUnsupported
  /-- IDE_STREAM_INSECURE (R318): An IDE integrity failure puts the stream Insecure and holds its traffic. -/
  | ideStreamInsecure (stream : Nat)
  /-- MGMT_CONNECTION (R439): A TCP and TLS connection on J3 is accepted or refused. -/
  | mgmtConnection (conn : Nat) (cred : ConnCred) (linkLocal : Bool)
  /-- MGMT_STARTUP_LIMIT_END (R324): 10 s after MGMT_UP the start-up limits give way to the normal limits. -/
  | mgmtStartupLimitEnd
  /-- REDFISH_GET (R441): A read request for a Redfish resource is answered. -/
  | redfishGet (r : Req) (res : Resource)
  /-- SESSION_CREATE (R438): A Redfish session is created with user name and password. -/
  | sessionCreate (r : Req) (user : Nat) (password : Nat)
  /-- SESSION_DELETE (R441): A Redfish session is deleted. -/
  | sessionDelete (r : Req) (session : Nat)
  /-- SESSION_IDLE_TIMEOUT (R438): A session closes after 1,800 s without a request. -/
  | sessionIdleTimeout (session : Nat)
  /-- PASSWORD_LOCKOUT_END (R438): An account's 300 s password lockout expires. -/
  | passwordLockoutEnd (user : Nat)
  /-- ACCOUNT_CREATE (R436): An account is created. -/
  | accountCreate (r : Req) (user : Nat) (role : Role) (password pwLen : Nat)
  /-- ACCOUNT_PATCH (R436): An account's password or role is changed. -/
  | accountPatch (r : Req) (user : Nat) (role : Option Role) (password : Option (Nat × Nat))
  /-- ACCOUNT_DELETE (R436): An account is deleted unless it is the last Administrator. -/
  | accountDelete (r : Req) (user : Nat)
  /-- GENERATE_CSR (R434): GenerateCSR returns a signing request for the server key. -/
  | generateCsr (r : Req)
  /-- REPLACE_CERTIFICATE (R434): ReplaceCertificate installs a server certificate. -/
  | replaceCertificate (r : Req) (cert : Nat) (matchesKey : Bool)
  /-- CLIENT_AUTHORITY_INSTALL (R438): A client certificate authority is installed. -/
  | clientAuthorityInstall (r : Req) (authority : Nat)
  /-- POWER_LIMIT_PATCH (R443): A PATCH of Controls/PowerLimit sets the management cap. -/
  | powerLimitPatch (r : Req) (watts : Nat)
  /-- POWER_STATE_ACTION (R443): The PowerState action names the resting state. -/
  | powerStateAction (r : Req) (target : Nat)
  /-- MGMT_SAFELIGHT_ENTER (R443): The management Safelight Enter action records the command cause. -/
  | mgmtSafelightEnter (r : Req)
  /-- MGMT_SAFELIGHT_EXIT (R443): The management Safelight Exit action starts an exit or is refused. -/
  | mgmtSafelightExit (r : Req)
  /-- RLI_ENABLE (R176): Writing LS_RLI_CTRL.EN = 1 moves PT0 to remote light. -/
  | rliEnable (r : Req) (shelfOk : Bool)
  /-- RLI_DISABLE (R176): Writing LS_RLI_CTRL.EN = 0 returns PT0 to its own lasers at the next fix point. -/
  | rliDisable (r : Req)
  /-- NETWORK_SETTINGS_PATCH (R443): New network settings are accepted. -/
  | networkSettingsPatch (r : Req) (settings : Nat)
  /-- NETWORK_SETTINGS_APPLY (R443): 1 s after the response the network settings take effect and connections close. -/
  | networkSettingsApply
  /-- MULTIPART_UPDATE_PUSH (R445): A multipart push starts STAGE from the management network. -/
  | multipartUpdatePush (r : Req) (src : BundleRead)
  /-- UPDATE_ACTIVATE_ACTION (R445): The UpdateService ACTIVATE action starts live activation. -/
  | updateActivateAction (r : Req)
  /-- UPDATE_ABORT_ACTION (R445): The UpdateService ABORT action stops a running update command. -/
  | updateAbortAction (r : Req)
  /-- UPDATE_COMMIT_ACTION (R445): The UpdateService COMMIT action blows SVN and REVOKE fuses. -/
  | updateCommitAction (r : Req)
  /-- ATTESTATION_ACTION (R419): The Attestation action returns a signed report for a nonce. -/
  | attestationAction (r : Req) (nonce : BitVec 256)
  /-- REGISTERS_ACTION (R442): The Registers action returns a management-space word. -/
  | registersAction (r : Req) (addr : Nat)
  /-- CONTACT_SHEET_GET (R444): A ContactSheet request returns complete maps read under the generation protocol. -/
  | contactSheetGet (r : Req) (tile : Option (Fin 12))
  /-- EVENT_STREAM_OPEN (R452): An event stream opens and replays entries after Last-Event-ID. -/
  | eventStreamOpen (r : Req) (lastId : Option Nat)
  /-- SERVICE_MEMORY_READ (R447): A Service account reads a processor's private memory in a debug state. -/
  | serviceMemoryRead (r : Req) (proc : ProcAt) (addr len : Nat)
  /-- SERVICE_LOG_DETAIL (R447): A Service account raises the event log's detail. -/
  | serviceLogDetail (r : Req) (raise : Bool)
  /-- SERVICE_ADC_CAPTURE (R447): A Service account captures raw ADC samples of a half-row. -/
  | serviceAdcCapture (r : Req) (core : Fin 48) (row : Fin 67) (half : Fin 2) (samples : List Byte)
  /-- PROVISION_ACCOUNT_CREATE (R437): The provisioning session creates the first Administrator account. -/
  | provisionAccountCreate (conn user password pwLen : Nat)
  /-- MGMT_PROVISION_DEASSERT (R437): Deasserting MGMT_PROVISION ends the provisioning session. -/
  | mgmtProvisionDeassert
  /-- CREDENTIAL_ERASE (R437): MGMT_PROVISION held 10 s from PERST_N deassertion erases the credential record. -/
  | credentialErase
  /-- SET_ENDPOINT_ID (R453): MCTP Set Endpoint ID assigns the responder's endpoint ID. -/
  | setEndpointId (eid : BitVec 8) (pecOk : Bool)
  /-- GET_ENDPOINT_ID (R453): MCTP Get Endpoint ID returns the endpoint ID. -/
  | getEndpointId (pecOk : Bool)
  /-- GET_MCTP_VERSION_SUPPORT (R453): MCTP Get MCTP Version Support returns supported versions. -/
  | getMctpVersionSupport (pecOk : Bool)
  /-- GET_MESSAGE_TYPE_SUPPORT (R453): MCTP Get Message Type Support returns supported types. -/
  | getMessageTypeSupport (pecOk : Bool)
  /-- GET_TID (R453): PLDM GetTID returns the terminus ID. -/
  | getTid (pecOk : Bool)
  /-- GET_PLDM_VERSION (R453): PLDM GetPLDMVersion returns versions. -/
  | getPldmVersion (type : Nat) (pecOk : Bool)
  /-- GET_PLDM_TYPES (R453): PLDM GetPLDMTypes returns supported types. -/
  | getPldmTypes (pecOk : Bool)
  /-- GET_PLDM_COMMANDS (R453): PLDM GetPLDMCommands returns supported commands. -/
  | getPldmCommands (type : Nat) (pecOk : Bool)
  /-- GET_SENSOR_READING (R455): PLDM GetSensorReading returns a numeric sensor and its operational state. -/
  | getSensorReading (sensor : Nat) (pecOk : Bool)
  /-- GET_STATE_SENSOR_READINGS (R454): PLDM GetStateSensorReadings returns a state sensor. -/
  | getStateSensorReadings (sensor : Nat) (pecOk : Bool)
  /-- GET_PDR_REPOSITORY_INFO (R454): PLDM GetPDRRepositoryInfo describes the ROM repository. -/
  | getPdrRepositoryInfo (pecOk : Bool)
  /-- GET_PDR (R454): PLDM GetPDR returns one PDR. -/
  | getPdr (record : Nat) (pecOk : Bool)
  /-- SMBUS_ALERT_RESPONSE (R456): A read of the Alert Response Address is answered while SMB_ALERT_N is asserted. -/
  | smbusAlertResponse
  /-- SIDEBAND_UNSUPPORTED (R453): Any other sideband command is answered as unsupported. -/
  | sidebandUnsupported (pldm pecOk : Bool)
  /-- AUX_VALID (R504): The auxiliary rail becomes valid and power sequencing starts. -/
  | auxValid (smbAddr : BitVec 2)
  /-- AUX_LOSS (R507): The auxiliary rail stays below 3.0 V for 20 µs and every rail goes off. -/
  | auxLoss
  /-- INPUT_48V_VALID (R504): The 48 V input reaches 39.5 V and the 12 V bus and rails are raised in order. -/
  | input48vValid
  /-- INPUT_48V_LOSS (R506): The 48 V input stays below 38.0 V for 20 µs and the module shuts down as at an IOD trip. -/
  | input48vLoss
  /-- INPUT_48V_OVERVOLTAGE (R506): The 48 V input stays above 62.0 V for 20 µs and the module shuts down. -/
  | input48vOvervoltage
  /-- INPUT_48V_RECOVERY (R506): The input has been in range for 100 ms and the module starts again. -/
  | input48vRecovery
  /-- HOLDUP_CHARGE_TIMEOUT (R509): The hold-up bank is not charged within 10 s, or falls low for 1 s, and the vault turns
  read-only. -/
  | holdupChargeTimeout
  /-- LASER_SUPPLY_FAULT (R464): Laser power-good is lost or its monitor inputs are out of limits, recording a safelight cause. -/
  | laserSupplyFault
  /-- SENSOR_CONVERSION (R364): Every 10 µs each sensor front-end converts and its comparator tests the result. -/
  | sensorConversion (sensor : Fin 282) (temp : Int)
  /-- THERMAL_RESTART (R379): All sensors below restart values for 60 s lets the module restart. -/
  | thermalRestart (digestA digestB : Bool)
  /-- SLOW_ROUND (R365): Every 10 ms housekeeping takes all sensors, cross-checks them and judges the thermal limit. -/
  | slowRound (now : Nat) (diodeFaults : List (Fin 282))
  /-- FAST_ROUND (R365): Every 1 ms housekeeping reads sensors near their throttle thresholds. -/
  | fastRound (now : Nat)
  /-- SENSOR_RETURN (R367): A failed sensor has passed every check for 10 s and returns to service. -/
  | sensorReturn (sensor : Fin 282)
  /-- RELAX_HOLD_EXPIRY (R368): The 1 s hold on limit rises after a sensor failure expires. -/
  | relaxHoldExpiry
  /-- COOLING_FAULT (R374): A sensor above threshold for 5 s at 405 W declares a cooling fault. -/
  | coolingFault
  /-- TILE_SAFELIGHT_END (R370): Every sensor of the tile is back in service and the tile re-calibrates. -/
  | tileSafelightEnd (tile : Fin 12)
  /-- MONITOR_ROUND (R391): Every 100 µs the round timer triggers both monitor converters' sequences. -/
  | monitorRound (a b : List Nat)
  /-- MC_SW_TRIGGER (R395): MC_CTRL.SW_TRIG starts a sequence or is dropped as an overlap. -/
  | mcSwTrigger (mon : Fin 2)
  /-- MC_INJECT (R394): MC_INJ.GO starts a single conversion if the converter is idle, or is dropped. -/
  | mcInject (mon : Fin 2) (value : Word)
  /-- MC_CONVERSION_DONE (R393): A conversion result lands in the data register, overrunning an unread one. -/
  | mcConversionDone (mon : Fin 2) (code : BitVec 16)
  /-- MC_DATA_READ (R393): A housekeeping read of MC_DATA returns and clears VALID and OVERRUN. -/
  | mcDataRead (mon : Fin 2)
  /-- MC_DROPS_READ (R398): A housekeeping read of MC_DROPS returns and clears its counts. -/
  | mcDropsRead (mon : Fin 2)
  /-- MC_PLAUS_READ (R398): A housekeeping read of MC_PLAUS returns and clears FAILS. -/
  | mcPlausRead
  /-- MONITOR_FAULT_CLEAR (R396): 100 consecutive valid rounds clear a monitor fault. -/
  | monitorFaultClear
  /-- REF_ENABLE (R392): HK_REF_CTRL.EN enables the monitor reference buffer. -/
  | refEnable
  /-- REF_SETTLED (R392): 500 µs after EN the reference is marked settled. -/
  | refSettled
  /-- DOMAIN_DEMAND_WAKE (R384): An access needing a powered-down domain wakes it and stalls. -/
  | domainDemandWake (dom : Domain) (imageOk : Bool)
  /-- DOMAIN_HOLD_EXPIRY (R383): A woken domain without demand for HOLD ms returns to the resting state. -/
  | domainHoldExpiry (dom : Domain)
  /-- DRAIN_RETRY (R385): A DRAINING domain retries its power-down after HOLD ms without access. -/
  | drainRetry (dom : Domain)
  /-- POWER_TRANSITION_DONE (R386): A transition completes and the module moves toward any pending target. -/
  | powerTransitionDone
  /-- TILE_SENSOR_READ (R154): Every 10 µs the tile controller reads its sensors and rewrites every heater. -/
  | tileSensorRead (tile : Fin 12) (temps : List Int)
  /-- FOG_SLOPE_SETTLED (R163): The temperature slope has stayed below 2 °C/ms for 1 ms and probes start. -/
  | fogSlopeSettled (tile : Fin 12)
  /-- PROBE_ROUND (R164): A probe round completes and the tile relocks or waits to retry. -/
  | probeRound (tile : Fin 12) (probes : List ProbePass) (foggedOver5K : Bool)
  /-- PROBE_RETRY_WAIT (R164): 1 ms after a failed round another probe round starts. -/
  | probeRetryWait (tile : Fin 12)
  /-- FOG_REPLACEMENT (R163): A tile FOGGED for 20 ms has its pieces re-placed. -/
  | fogReplacement (tile : Fin 12)
  /-- HEATER_SCAN (R159): Every 6 ms the readback ADCs scan the tile's heaters for mismatches. -/
  | heaterScan (tile : Fin 12) (reads : List HeaterRead)
  /-- HEATER_REREAD (R159): A heater read during a code change or range change is read again 20 µs later. -/
  | heaterReread (tile : Fin 12) (rd : HeaterRead)
  /-- HEATER_MISMATCH_CONFIRM (R159): A second reading confirms a mismatch and quarantines the row. -/
  | heaterMismatchConfirm (tile : Fin 12) (rd : HeaterRead)
  /-- LASER_POWER_LOOP (R142): Every 10 ms the loop compares monitor currents and requests bias steps. -/
  | laserPowerLoop (tile : Fin 12) (reads : List LaserRead)
  /-- SWAP_READY (R144): The spare is tuned and matched and the swap waits for a fix point. -/
  | swapReady (tile : Fin 12) (spare : Fin 8)
  /-- SWAP_FIX_POINT_TIMEOUT (R145): No fix point within 50 ms of swap ready and one is made. -/
  | swapFixPointTimeout (tile : Fin 12)
  /-- LASER_FREQUENCY_HOLD_FAIL (R141): A laser not held within ±2 GHz for 10 ms is declared FAILED. -/
  | laserFrequencyHoldFail (tile : Fin 12) (laser : Fin 72)
  /-- LASER_FAIL (R147): A laser loses output or its driver faults, fogging the tile and running the swap. -/
  | laserFail (tile : Fin 12) (laser : Fin 72)
  /-- THREADING_DONE (R152): Threading of a tile ends, quarantining rows of unthreadable rings. -/
  | threadingDone (tile : Fin 12) (rings : List RingThread) (chipletOk : Bool)
  /-- CONTACT_SHEET_MAP (R167): Every 100 ms the tile controller computes a contact-sheet map into its bank. -/
  | contactSheetMap (tile : Fin 12) (temps : List Int)
  /-- SEAM_FLIT_RECEIVE (R170): A seam flit is received, delivered in order or refused for replay. -/
  | seamFlitReceive (tile : Fin 12) (port : Fin 4) (flit : Flit)
  /-- SEAM_ACK_TIMEOUT (R170): A flit unacknowledged for 2 µs is replayed. -/
  | seamAckTimeout (tile : Fin 12) (port : Fin 4)
  /-- SEAM_LANE_LOS (R171): A lane shows loss of signal for 1 µs and is marked for dropping. -/
  | seamLaneLos (tile : Fin 12) (port : Fin 4) (lane : Fin 16)
  /-- SEAM_ERROR_WINDOW (R171): A 10 ms window ends and a lane above the error ratio is marked for dropping. -/
  | seamErrorWindow (tile : Fin 12) (port : Fin 4) (counts : List (Nat × Nat))
  /-- SEAM_RETRAIN_TIMEOUT (R172): No shared fix point within 100 µs and both tile controllers make one. -/
  | seamRetrainTimeout (tile : Fin 12) (port : Fin 4)
  /-- SWITCH_RECONFIGURATION (R174): A requested switch-matrix change runs once no affected flit is unacknowledged. -/
  | switchReconfiguration (tile : Fin 12) (paths : List (Fin 6 × Fin 6))
  /-- D2D_FLIT_RECEIVE (R286): A die-to-die flit is received and delivered or refused on tag failure. -/
  | d2dFlitReceive (link : Nat) (flit : Flit)
  /-- OPEN_FIBRE (R178): J4 power low for 100 µs declares an open fibre and PT0 returns to its lasers. -/
  | openFibre
  /-- ROOT_PLL_LOCK_LOSS (R35): A die's root PLL loses lock, stopping issue and fogging its tiles. -/
  | rootPllLockLoss (die : Die)
  /-- ROOT_PLL_RELOCK (R35): The root PLL relocks and probes start. -/
  | rootPllRelock (die : Die)
  /-- PLL_LOSS_PERSIST (R469): A lock loss persists past its limit, causing FAULT or tile quarantine. -/
  | pllLossPersist (die : Die)
  /-- FAULT_DOORBELL_POLL (R470): In FAULT each running Shuttle re-reads doorbell slots every 100 µs. -/
  | faultDoorbellPoll (q : Nat) (hs : List Cell) (rsp : Rsp)
  /-- WEIGHT_LOAD (R57): A core's gate closes and all 67 rows are written, checked and settled. -/
  | weightLoad (core : Fin 48) (pat piece set pass : Nat) (flips : List (List Cell))
  /-- PASS (R62): An operand vector is read from the tray and passes through the core to handoff. -/
  | pass (core : Fin 48) (q seq piece set pass vec : Nat) (samples : List (List Byte)) (words : Option (List Word)) (operandOk : Bool)
  /-- TILE_FIX_POINT (R202): A tile reaches a fix point and pending changes are applied in order. -/
  | tileFixPoint (tile : Fin 12)
  /-- CORE_FIX_POINT (R202): A core drains and a quarantine substitution is applied. -/
  | coreFixPoint (core : Fin 48)
  /-- FIX_POINT_LIMIT_EXPIRY (R204): A change has waited its limit and the tile controller makes a fix point. -/
  | fixPointLimitExpiry (tile : Fin 12)
  /-- QUANTUM_END (R359): A time-sharing quantum ends and the core switches resident. -/
  | quantumEnd (core : Fin 48) (savedOk : Bool)
  /-- POWERUP_CALIBRATION_STEP (R190): A power-up calibration step completes on a tile and the next begins. -/
  | powerupCalibrationStep (tile : Fin 12) (results : CalResults)
  /-- CALIBRATION_DEADLINE (R192): At 6.0 s or when all tiles end, the module leaves CALIBRATING. -/
  | calibrationDeadline
  /-- TILE_CALIBRATION_DEADLINE (R192): A tile not LOCKED by 12.0 s becomes QUARANTINED. -/
  | tileCalibrationDeadline (tile : Fin 12)
  /-- RECAL_SLOT (R206): A walk slot opens at a fix point with a single-row load. -/
  | recalSlot (slot : WalkSlot)
  /-- HEATER_CENTRING_DONE (R208): Heater centring of a row ends and ΔQ is adopted or re-measured. -/
  | heaterCentringDone (core : Fin 48) (centred : RowCentre)
  /-- CAL_MEASUREMENT_DONE (R197): A row measurement completes and is compared for bracketing. -/
  | calMeasurementDone (core : Fin 48) (row : Fin 67) (meas : RowMeas) (marginDb : List (Fin 64 × Nat))
  /-- CORE_SWEEP_REQUEST (R209): Every 55 s a walk-less core is vacated for a sweep. -/
  | coreSweepRequest (core : Fin 48)
  /-- CORE_SWEEP_DONE (R209): A core sweep ends and the core is offered back. -/
  | coreSweepDone (core : Fin 48) (rows : List (Fin 67 × RowMeas × RowMeas))
  /-- SET_COMMIT (R201): Hourly the temperature sets are folded and committed to the vault. -/
  | setCommit (tile : Fin 12)
  /-- SET_COMMIT_RETRY (R201): A TEMP_HOLD-refused commit is retried every 10 s. -/
  | setCommitRetry (tile : Fin 12)
  /-- MIRROR_WRITE (R201): After a vault commit, and when allowed, the NOR mirror is rewritten. -/
  | mirrorWrite (tile : Fin 12) (norTemp : Int)
  /-- TAILOR_HEARTBEAT_TIMEOUT (R27): No active-Tailor heartbeat for 2 ms and the standby takes over. -/
  | tailorHeartbeatTimeout
  /-- DUTY_REVISION (R245): Every 100 µs the Tailor revises tile issue duty within slew and budget. -/
  | dutyRevision (tile : Fin 12) (want : Nat)
  /-- PIECE_MOVE (R237): A piece is moved make-before-break to new cores. -/
  | pieceMove (pat piece : Nat) (fromCores toCores : List (Fin 48))
  /-- SNAG_SCAN (R249): Every 5 µs the snag detectors look for wait cycles and divert one stream. `first`: the order in which
  the detectors look at waiting streams, which settles which of two snags that share a stream is broken first. -/
  | snagScan (first : List (Nat × Nat))
  /-- STRIPE_NARROW (R257): Pins at 95 % for 2 ms narrow the stripe by one width. -/
  | stripeNarrow (pat : Nat)
  /-- STRIPE_WIDEN (R257): Pins below 70 % for 100 ms widen the stripe by one width. -/
  | stripeWiden (pat : Nat)
  /-- BATCH_WINDOW_EXPIRY (R258): The oldest query waits BATCH_WIN and a library chunk is loaded. -/
  | batchWindowExpiry (pat piece : Nat)
  /-- EXPERT_FETCH_DONE (R254): A cold expert fetch completes into the hot tier or fails. -/
  | expertFetchDone (pat expert : Nat) (rsp : Rsp)
  /-- WRITE_OUT (R292): After the last pass and fetch, staged outputs are written to target memory. -/
  | writeOut (q seq : Nat) (stagedOk rerunOk : Bool)
  /-- LPDDR4X_PATROL_SCRUB (R289): The patrol scrub visits LPDDR4X units once per 24 h. -/
  | lpddr4xPatrolScrub (unit : Nat) (result : ReadResult)
  /-- VAULT_BACKGROUND_SCAN (R289): The background scan reads committed pages and relocates weak ones. -/
  | vaultBackgroundScan (page : Nat) (strengthPct : Nat) (result : ReadResult)
  /-- VAULT_MOUNT (R279): The vault mounts, taking each spool's latest valid commit and freeing others. -/
  | vaultMount (spare : Nat) (reads : MountReads)
  /-- COMMIT_RECORD_PROGRAMMED (R278): A commit record copy programs and the spool write commits. -/
  | commitRecordProgrammed (spool : Nat) (copies : Nat)
  /-- VAULT_TEMPERATURE_READ (R280): Every 100 ms NAND temperatures open or close the write and read windows. -/
  | vaultTemperatureRead (coldest hottest : Int)
  /-- VAULT_HOLD_RELEASE (R280): Dies in range for 1 s reopen writes or reads. -/
  | vaultHoldRelease
  /-- SPOOL_SCRUB (R361): A deleted spool's pages are rewritten and erased in the background. -/
  | spoolScrub (units : Nat)
  /-- PARTITION_SCRUB_DONE (R362): A unit scrub ends and ownership is recorded. -/
  | partitionScrubDone
  /-- EVENT_REPORT (R448): A processor reports an event to the management log. -/
  | eventReport (e : Event) (now : Nat)
  /-- LOG_COMMIT (R448): Log entries are committed to the vault ring. -/
  | logCommit
  /-- LOG_UNANCHORED_TIMEOUT (R449): Vault not online 5 s after MGMT_UP, entries are numbered UNANCHORED. -/
  | logUnanchoredTimeout
  /-- SWAP_WINDOW_OPEN (R413): A domain's fix point opens its activation swap window. -/
  | swapWindowOpen
  /-- SWAP_WINDOW_CLOSE (R413): The new image runs and the window closes. -/
  | swapWindowClose (started : Bool)
  /-- PROCESSOR_HEARTBEAT_MISS (R461): Ten missed heartbeats partially reset a processor. -/
  | processorHeartbeatMiss (proc : Proc) (inst : Nat) (now : Nat)
  /-- PARTIAL_RESET_DONE (R461): A reset component is re-measured and back. -/
  | partialResetDone (proc : Proc) (inst : Nat)
  /-- TILE_LOSS (R464): A second tile lost for 1 s records the tile-loss cause. -/
  | tileLoss
  /-- MGMT_UP (R321): The management processor finishes starting, sets MGMT_UP and begins accepting connections. -/
  | mgmtUp
  /-- DIGITAL_FALLBACK_COMPUTE (R104): The hub-die vector units finish computing an exact or VU_ONLY piece's group sums for a
  work item. -/
  | digitalFallbackCompute (q seq piece : Nat) (reads : VuReads)
  /-- PRIVATE_MEMORY_UNCORRECTABLE (R461): A processor meets an uncorrectable error in its private memory and is partially
  reset, or for Thimble the module enters FAULT. -/
  | privateMemoryUncorrectable (proc : Proc) (inst : Nat) (now : Nat)
  /-- THIMBLE_WATCHDOG (R469): Thimble misses its own watchdog and the module enters FAULT. -/
  | thimbleWatchdog
  /-- LINK_RECOVERY (R304): The PCIe link enters recovery or equalisation on its own, for example after an ESD hit, and replays
  without losing transactions. -/
  | linkRecovery
  /-- ICMP_ECHO (R433): An ICMP or ICMPv6 echo request on J3 is answered. -/
  | icmpEcho (v6 : Bool)
  /-- MANAGEMENT_PORT_LINK_CHANGE (R433): The J3 Ethernet link comes up or goes down, with auto-negotiation to 1000BASE-T or
  fallback to 100BASE-TX. -/
  | managementPortLinkChange (up : Bool) (partner1000 : Bool) (partner100 : Bool)
  /-- MANAGEMENT_CONNECTION_CLOSE (R445): A management client's connection ends, so an upload cut short ends STAGE with ABORTED.
  -/
  | managementConnectionClose (conn : Nat)
  deriving DecidableEq, Repr

end Sys2Proof
end

