-- ==== Sys2Proof/Decode.lean ====
section
/-! DEFINITION. The decoder of the opcode table's words. No row of the table gives bits: the commands are the host's, the
network's and the module's own events, not words. So no word spells a command. The one encoding the spec gives, the 64-byte
descriptor (R339–R347), is read in Machine/Operands.lean. -/
namespace Sys2Proof

/-- The command a word spells by the table's bits: none, since the table gives no row bits. -/
def decodeTableWord (_nbits _w : Nat) : Option Instr := none

end Sys2Proof
end

