-- ==== Sys2Proof/Config.lean ====
section
/-! DEFINITION. What an implementation fixes and what the spec leaves open: uninterpreted constants, which no proof can
evaluate. Each is applied to the operands it depends on, or to the counter `State.free`. -/
namespace Sys2Proof.Config

/-- A random value of Thimble's DRBG (R402, R426, R427): free, one for each draw. Assumption 2. -/
opaque drbg : Nat → BitVec 256

/-- What a vector-unit program writes for a stream of `n` bytes (R225, R518): the spec gives the programs no content
format. Program bytes, input elements and the stream's length in; bytes out. Assumption 4. -/
opaque vuProgram : List Byte → List Int → Nat → List Byte

/-- Whether a filtered input accepts a pulse of 50–60 ns (R499: the host must not drive one). Assumption 5. -/
opaque filterAccepts : Nat → Bool

/-- The bytes of a vendor, subsystem or other configuration-space register whose value the spec does not give (R307).
Assumption 6. -/
opaque configSpace : Nat → Nat → Word

/-- The contents of a processor's private memory as a service read returns them (R447). Assumption 7. -/
opaque privateMemory : Nat → Nat → Byte

/-- A signed or cryptographic answer of Thimble: request kind and generation in, answer out (R416–R424). Assumption 8. -/
opaque thimbleAnswer : Nat → Nat → BitVec 256

/-- Byte n of such a value that is longer, a key, a secret or a signature: what it is, what it rests on, n. Assumption 8. -/
opaque thimbleByte : Nat → Nat → Nat → Byte

/-- PROGRESS of an update command in progress, in percent (R431): draw in. Assumption 38. -/
opaque updProgress : Nat → Nat

/-- Whether the NOR temperature, which no command brings, makes a running STAGE wait (R411): draw in. Assumption 38. -/
opaque norWaits : Nat → Bool

/-- Whether the gate closure of a core that ends has lasted more than 5 ms (R246): draw, core. Assumption 88. -/
opaque longClosure : Nat → Nat → Bool

/-- The issue cycles that a measurement claims (R207), which depend on the core's empty cycles: draw in. Assumption 87. -/
opaque claimedCycles : Nat → Nat

/-- A body the Redfish schema gives and the spec does not (R441). Assumption 9. -/
opaque redfishBody : Nat → Nat → Nat

/-- The sub-threshold bias code of a laser in warm-hold, by tile and laser (R140, R184). Assumption 10. -/
opaque warmHoldBias : Nat → Nat → Nat

/-- A laser's operating bias code as laser characterisation fixes it (R142, R190 step 1): tile, laser, draw. Assumption 31. -/
opaque operatingBias : Nat → Nat → Nat → Nat

/-- The tuning word that a tile controller gives a dither generator (R165): tile, generator, draw. Assumption 32. -/
opaque ditherTone : Nat → Nat → Nat → Word

/-- The amplitude that it gives it. Assumption 32. -/
opaque ditherAmp : Nat → Nat → Nat → BitVec 8

/-- A tile's idle power in units of 0.01 W (R245). Assumption 11. -/
opaque tileIdlePower : Nat → Nat

/-- An LPDDR4X frame that firmware chooses out of the free pool (R262, R269): the n-th choice. Assumption 12. -/
opaque frameChoice : Nat → Nat

/-- What the sideband responder's ROM holds (R453, R454): a byte of an answer whose content the spec does not give, by the
answer's kind and the byte's number. Assumption 13. -/
opaque pdrRom : Nat → Nat → Byte

/-- How many passes of a work item were in flight on a core at an event that discards such passes (R99, R100): the commands
of the model carry no time finer than themselves. Draw, core, queue, SEQ. Assumption 14. -/
opaque inFlight : Nat → Nat → Nat → Nat → Nat

/-- The CODE that the event registry gives an event of the management processor's own (R450–R452): the registry is not in the
spec. Kind 0: entries dropped; kind 1: entries overwritten. Assumption 27. -/
opaque eventCode : Nat → BitVec 16

/-- The management processor's cycle count (R36) when its own count of milliseconds stands at `now`. Assumption 27. -/
opaque localCount : Nat → Nat

/-- Whether step 8 of the timeline has passed (R321) when a mailbox request comes between steps 6 and 9. Assumption 69. -/
opaque stepEight : Nat → Bool

/-- The score that a router gives an expert of a set (R250): the spec gives vector-unit programs no content. Pattern file, input
elements, set, expert index. Assumption 29. -/
opaque score : List Byte → List Int → Nat → Nat → Int

/-- The initial value of an element of a stream that is fed back along a cycle of the graph, where no vector of the cycle comes
first (R228, R247): the spec does not state it. Pattern file, stream, element. Assumption 30. -/
opaque fedBack : List Byte → Nat → Nat → Byte

/-- Whether an uncorrectable error comes within 24 h of the row's last one (R290): the commands carry no such time. Draw. Assumption
122. -/
opaque withinDay : Nat → Bool

/-- The credit of a swatch in which a staged chunk failed (R293): draw. Assumption 57. -/
opaque creditFailed : Nat → Nat

/-- The root of a spool's translation after a commit (R278), which the spec does not lay out: spool, generation. Assumption 123. -/
opaque translationRoot : Nat → Nat → Nat

/-- Spare blocks, in percent of the reserve, that a weak or failed page of the vault costs (R284, R289): draw. Assumption 124. -/
opaque spareLost : Nat → Nat

/-- Bytes of a pattern's stripe buffers at a stripe width (R257): the spec does not give them. Pattern file, width. Assumption
108. -/
opaque stripeBytes : List Byte → Nat → Nat

/-- How many 4 KiB requests a feed dog runs ahead within a declared input, beyond what the pattern consumes (R297): draw.
Assumption 62. -/
opaque runAhead : Nat → Nat

/-- Whether a core whose load or pass has just been commanded still shows LOADING or RUNNING (R69): draw. Assumption 14. -/
opaque stillBusy : Nat → Bool

/-- η of a ring whose neighbour's peak was not found (R151): tile, ring, draw. Assumption 31. -/
opaque ringEta : Nat → Nat → Nat → Nat

/-- A laser's assigned frequency, in MHz from the grid, and its monitor set point as characterisation measures them (R141,
R142, R187): tile, laser, draw. Assumption 31. -/
opaque laserFreq : Nat → Nat → Nat → Int
opaque laserMonitor : Nat → Nat → Nat → Nat

/-- The span trims of modulators and rings, and the converter trims of half-rows (R187), as a calibration or a core sweep sets
them: tile, place, draw. Assumption 31. -/
opaque modSpan : Nat → Nat → Nat → Int
opaque ringSpan : Nat → Nat → Nat → Int
opaque convTrim : Nat → Nat → Nat → Int

/-- The calibration-symbol generator as a measurement leaves it (R188): the seeds and taps are not in the spec. Tile, draw.
Assumption 89. -/
opaque calGenerator : Nat → Nat → BitVec 64

/-- Control-clock cycles between two sensor reads, over which the dither accumulators advance (R165): draw. Assumption 32. -/
opaque controlCycles : Nat → Nat

/-- The lane groups that fail one training of a seam (R172), as the physics has it: draw. Assumption 90. -/
opaque trainFails : Nat → BitVec 4

end Sys2Proof.Config
end

