-- ==== Sys2Proof/Machine/State.lean ====
section
/-! DEFINITION. The state of the GLF-7240 as plain data. The default value of a field is its value at reset; a docstring
names the rule of the spec that gives the field, and assumption 47 names the fields whose reset value the spec does not give. -/
namespace Sys2Proof.Machine

/-- Why the block stops with a fault. No command of this block faults: an access outside every map reads 0, or ends its
work item with a status. -/
inductive Fault where
  /-- Raised by no command; kept so that the type has a name for a command whose operands make no sense (safe). -/
  | malformed
  deriving DecidableEq, Repr

/-- Why the block gives a command no meaning. -/
inductive Refusal where
  /-- Raised by the dispatch arm of a command that has no meaning yet (safe); no arm raises it now. -/
  | notModelled (mnemonic : String)
  deriving DecidableEq, Repr

/-- A memory: (address, byte) pairs, addresses strictly rising, no byte 0 listed; an unlisted address reads 0. -/
abbrev Memory := List Cell

/-- Module state (R319). -/
inductive MState where
  | powerup | calibrating | ready | safelight | fault
  deriving DecidableEq, Repr

/-- Tile light state (R160). -/
inductive TileState where
  | dark | threading | locked | fogged | quarantined
  deriving DecidableEq, Repr

/-- Core state (R69). -/
inductive CoreState where
  | dark | idle | loading | running | held | retired
  deriving DecidableEq, Repr

/-- Laser state (R140). -/
inductive LaserState where
  | off | warmHold | operating | fading | tuning | faded | failed
  deriving DecidableEq, Repr

/-- Power state (R381). -/
inductive PState where
  | run | idle | sleep | deep | off
  deriving DecidableEq, Repr

/-- Seam port state (R186). -/
inductive PortState where
  | unpartnered | down | training | active
  deriving DecidableEq, Repr

/-- Context state (R328). -/
inductive CtxState where
  | active | revoked | faulted
  deriving DecidableEq, Repr

/-- Why a tile fogged (R162). -/
inductive FogCause where
  | thermal | selvedge | laser | pll | openFibre | wake
  deriving DecidableEq, Repr

/-- Status codes of completion records (R348). -/
inductive Status where
  | ok | cancelled | notRun | accessFault | dataUncorrectable | integrityFail | scaleSkew | patternInvalid
  | modeRejected | tempHold | resourceShort | descInvalid | notPermitted | contextFaulted | moduleFault
  deriving DecidableEq, Repr

/-- Life of an admitted command (R322, R341, R356). -/
inductive EntryState where
  /-- Admitted, not begun. -/
  | admitted
  /-- Accepted and held (R322). -/
  | held
  /-- Begun. -/
  | begun
  /-- Finished: waits only for its record (R351). -/
  | finished
  deriving DecidableEq, Repr

/-- The flags of a completion record (R349) but LATE, which is judged when the record is written. -/
structure Flags where
  saturated : Bool := false
  replayed  : Bool := false
  degraded  : Bool := false
  deriving DecidableEq, Repr

/-- A command in Shuttle memory (R333): its SEQ, its 64 bytes, and its result once it has one. -/
structure Entry where
  seq    : Nat
  desc   : Desc
  st     : EntryState := .admitted
  status : Status := .ok
  info   : Nat := 0
  info2  : Nat := 0
  flags  : Flags := {}
  /-- The read of TAIL that showed it, counted over all queues: the order in which descriptors were submitted (R231). -/
  order  : Nat := 0
  deriving DecidableEq, Repr

/-- A queue (R329–R335). -/
structure Queue where
  num       : Nat
  ctx       : Nat
  slot      : Nat := 0
  sizeLog2  : Nat := 6
  vector    : Nat := 0
  priority  : Nat := 7
  coalCount : Nat := 0
  coalTime  : Nat := 0
  /-- Bus addresses of the descriptor ring and of the completion ring. -/
  ring      : Nat := 0
  cq        : Nat := 0
  /-- Last TAIL read by the Shuttle, as a count that does not wrap (R331). -/
  tail      : Nat := 0
  /-- The TAILs read that still cover descriptors not admitted, oldest first, each with the number of its read over all queues. -/
  seen      : List (Nat × Nat) := []
  /-- Descriptors admitted. -/
  head      : Nat := 0
  /-- HEAD as last written to the slot (R333). -/
  headOut   : Nat := 0
  /-- CQ_HEAD last read, as a count that does not wrap. -/
  cqHead    : Nat := 0
  /-- Completion records written. -/
  recs      : Nat := 0
  sleeping  : Bool := false
  cqWait    : Bool := false
  stopped   : Bool := false
  /-- The queue is being destroyed: TAIL is taken no more (R357). -/
  closing   : Bool := false
  /-- The last read of the descriptor ring failed (R462): what is left in it may never be read. -/
  ringLost  : Bool := false
  /-- The second read of R335 after a SLEEPING write, or the fresh read of R301 at D0, is outstanding. -/
  reread    : Bool := false
  /-- The same for a CQ_WAIT write (R335). -/
  cqReread  : Bool := false
  entries   : List Entry := []
  /-- Records written since the last interrupt (R355). -/
  pendInt   : Nat := 0
  /-- Ranges of SEQs named by a CANCEL before they were admitted (R356). -/
  doomed    : List (Nat × Nat) := []
  deriving DecidableEq, Repr

/-- A page mapped into a context (R261–R263): DVA of the page, 2 MiB or 64 KiB, target 0 host, 1 HBM, 2 LPDDR4X. -/
structure Page where
  dva    : Nat
  big    : Bool
  target : Nat
  addr   : Nat
  pasid  : Bool
  read   : Bool
  write  : Bool
  deriving DecidableEq, Repr

/-- A translation table below L0 (R261): its level, the DVA at which its range begins, and its offset in the table pool. -/
structure Table where
  level : Nat
  base  : Nat
  off   : Nat
  deriving DecidableEq, Repr

/-- A context (R326) with the counters of its status page (R353). -/
structure Ctx where
  num        : Nat
  owner      : Fin 64 := 0
  st         : CtxState := .active
  weight     : Nat := 16
  pasid      : Option Nat := none
  dbPage     : Nat := 0
  csp        : Nat := 0
  /-- Whether the device writes the status page (R338 for context 0). -/
  cspOn      : Bool := true
  gen        : BitVec 64 := 0
  dirty      : Bool := false
  pages      : List Page := []
  tables     : List Table := []
  completed  : BitVec 64 := 0
  saturated  : BitVec 64 := 0
  snags      : BitVec 64 := 0
  discarded  : BitVec 64 := 0
  replayed   : BitVec 64 := 0
  late       : BitVec 64 := 0
  errors     : BitVec 64 := 0
  switches   : BitVec 64 := 0
  deriving DecidableEq, Repr

/-- One tracker slot of a pattern on a queue (R127–R131). While tracking runs, `exps` holds the exponents fixed so far,
e(0), e(1), …, and `obs` the window entries of the work items that have completed; while frozen, `exps` holds the one
exponent in force. -/
structure SlotTrack where
  exps : List Int := []
  obs  : List (Option Nat) := []
  deriving DecidableEq, Repr

/-- Tracker state of one pattern on one queue (R130). -/
structure Tracker where
  pat    : Nat
  q      : Nat
  frozen : Bool := false
  /-- Work items completed since the numbering point. -/
  count  : Nat := 0
  slots  : List SlotTrack := []
  deriving DecidableEq, Repr

/-- Where one replica of a piece stands (R232), and, while it moves, the cores that it leaves (R237). -/
structure Place where
  piece : Nat
  cores : List (Fin 48)
  from_ : List (Fin 48) := []
  /-- The new cores have their weights and their gates have opened. -/
  opened : Bool := true
  /-- Work items dealt to the old and to the new cores since then. -/
  oldN  : Nat := 0
  newN  : Nat := 0
  /-- The replica goes once it holds no work: the profile wants fewer (R233, R236). -/
  leaving : Bool := false
  deriving DecidableEq, Repr

/-- Where a buffer or a block is held (R244): a tray or hub swatch by its number, or a tier below. -/
inductive Tier where
  | swatches (parts : List (Nat × Nat)) | hbm | lpddr | host
  deriving DecidableEq, Repr

/-- The way of a stream (R243): a tile's tray, a hub die's SRAM, seams into the consumer's tray, or a feed dog to or from host
memory, staged in a hub die's SRAM. -/
inductive Path where
  | tray (t : Nat) | hub (h : Nat) | seam (t : Nat) | feed (h : Nat)
  deriving DecidableEq, Repr

/-- Route and buffer tier of a stream. -/
structure Route where
  stream : Nat
  path   : Path
  tier   : Tier
  deriving DecidableEq, Repr

/-- The buffer of a stream for one work item (R247): the swatches it lies in, where it lies in some, the credits it holds, and
whether it lies in the escape buffer (R249). What it carries is the work item's: its input, elements and program outputs. -/
structure Buf where
  q       : Nat
  seq     : Nat
  ctx     : Nat
  pat     : Nat
  stream  : Nat
  /-- The swatches that it lies in, each with the credits held there. -/
  parts   : List (Nat × Nat) := []
  cls     : Nat
  credits : Nat
  esc     : Bool := false
  /-- It has found no credit (R248). -/
  waiting : Bool := false
  deriving DecidableEq, Repr

/-- A wait (R248): the stream that waits and one that it waits for, each by pattern and number, and the scans it has lasted. -/
structure Edge where
  from_ : Nat × Nat
  to_   : Nat × Nat
  scans : Nat := 0
  deriving DecidableEq, Repr

/-- An expert held in a pattern's cache (R253), with its bytes. -/
structure CacheEnt where
  expert  : Nat
  hot     : Bool
  pinned  : Bool
  lastUse : Nat
  data    : List Byte := []
  deriving DecidableEq, Repr

/-- A request in a pattern's expert queue (R254): prefetch or demand, and the work items that wait for it. -/
structure ExpertReq where
  expert   : Nat
  prefetch : Bool
  pin      : Bool
  waiters  : List (Nat × Nat)
  /-- Its fetch is in progress: it has stood at the head of the queue (R276); and the bytes that were committed then (R277). -/
  begun    : Bool := false
  data     : List Byte := []
  /-- Pins that it holds while it is in progress (R295). -/
  pins     : Nat := 0
  deriving DecidableEq, Repr

/-- A loaded pattern (R229–R232). -/
structure Pattern where
  handle    : Nat
  ctx       : Nat
  file      : List Byte
  hot       : Nat := 0
  warm      : Nat := 0
  /-- Expert spools, entry i being SPOOL value i (R343). -/
  spools    : List Nat := []
  /-- The LOAD_PATTERN that made it. -/
  byQueue   : Nat := 0
  bySeq     : Nat := 0
  /-- Its pieces are placed: the load has completed with OK. -/
  runnable  : Bool := false
  places    : List Place := []
  /-- Pieces on the digital fallback (R239). -/
  onFallback : List Nat := []
  cache     : List CacheEnt := []
  fetches   : List ExpertReq := []
  /-- Resident blocks that have been read and written to one of their cores: piece and block (R231, R241). -/
  written   : List (Nat × Nat) := []
  /-- Work items dealt so far, by piece (R232). -/
  turns     : List (Nat × Nat) := []
  /-- Routes and tiers of its streams (R243), and the tiers that hold its resident blocks (R241, R244): piece, block. -/
  routes    : List Route := []
  blocks    : List (Nat × Nat × Tier) := []
  /-- Index of the stripe width in force (R257), and of one asked for and not yet taken. -/
  stripe    : Nat := 0
  stripeWant : Option Nat := none
  /-- Streams diverted to their escape buffers (R249). -/
  diverted  : List Nat := []
  /-- Pieces whose library chunk is due (R258). -/
  batchDue  : List Nat := []
  /-- LPDDR4X frames of its warm expert cache (R343). -/
  frames    : List Nat := []
  deriving DecidableEq, Repr

/-- The reduction of one output element in progress (R102, R117, R122): groups handed off, the half-finished groups of
size 128 by number, and the 56-bit reduction sum. -/
structure Acc where
  piece : Nat
  vec   : Nat
  group : Nat
  count : Nat := 0
  open_ : List (Nat × Int) := []
  sum   : Int := 0
  deriving DecidableEq, Repr

/-- A finished output element (R123–R126). -/
structure Elem where
  piece : Nat
  vec   : Nat
  group : Nat
  value : Int
  deriving DecidableEq, Repr

/-- Passes of a reduction that have committed (R98, R232): piece, row-group set, operand vector, and which. -/
structure PassCount where
  piece : Nat
  set   : Nat
  vec   : Nat
  done  : List Nat
  deriving DecidableEq, Repr

/-- The cores that a work item has been dealt for a piece (R232, R237). -/
structure Dealt where
  piece : Nat
  cores : List (Fin 48)
  deriving DecidableEq, Repr

/-- Stage of a RUN_PATTERN work item (R292, R293). -/
inductive WorkStage where
  | fetching | running | writeOut
  deriving DecidableEq, Repr

/-- A RUN_PATTERN work item in progress. -/
structure Work where
  q        : Nat
  seq      : Nat
  ctx      : Nat
  pat      : Nat
  /-- Tracker number (R130) and exponents in force for it, by slot. -/
  k        : Nat
  exps     : List Int
  stage    : WorkStage := .fetching
  /-- Input bytes fetched so far, by offset in the input region. -/
  input    : Memory := []
  accs     : List Acc := []
  passes   : List PassCount := []
  dealt    : List Dealt := []
  elems    : List Elem := []
  /-- Streams that vector-unit programs have written, by stream identifier. -/
  vuOut    : List (Nat × List Byte) := []
  /-- VU_ONLY pieces that the vector units have finished. -/
  vuDone   : List Nat := []
  /-- Observations so far, by slot (R129). -/
  obs      : List (Nat × Nat) := []
  sat      : Nat := 0
  flags    : Flags := {}
  /-- Chunks of 4 KiB already written (R292). -/
  written  : Nat := 0
  /-- Input still to be requested: offset in the input region and length, at most 4 KiB each (R295). -/
  toFetch  : List (Nat × Nat) := []
  /-- It runs again after an uncorrectable error in a staged chunk (R293). -/
  rerun    : Bool := false
  /-- Run-ahead still to be requested within its declared input (R297), and its responses that nothing has consumed (R299). -/
  ahead    : List (Nat × Nat) := []
  unused   : Nat := 0
  /-- The feed dogs have run ahead of its demand, and what has come so of the input that it will demand: offset and bytes. -/
  ranAhead : Bool := false
  got      : List (Nat × List Byte) := []
  deriving DecidableEq, Repr

/-- A feed-dog request in flight (R295–R298): 4 KiB at `off` of the input region of a work item. -/
structure FdReq where
  id        : Nat
  q         : Nat
  seq       : Nat
  ctx       : Nat
  dva       : Nat
  off       : Nat
  len       : Nat
  target    : Nat
  addr      : Nat
  demand    : Bool
  cancelled : Bool := false
  /-- Its completion timeout has expired (R315): a later arrival is an Unexpected Completion. -/
  timedOut  : Bool := false
  /-- The Requester ID, and at the host a PASID and the translated address where the request has them (R312, R314, R326). -/
  fn         : Fin 64 := 0
  pasid      : Option Nat := none
  translated : Option Nat := none
  deriving DecidableEq, Repr

/-- Weights loaded into a core (R57, R83, R91, R226). -/
structure Block where
  pat    : Nat
  piece  : Nat
  set    : Nat
  pass   : Nat
  analog : Bool
  wb     : Nat
  /-- Row groups (exact) or rows (analog) in use. -/
  groups : Nat
  /-- Exact: the 64 payload bit-planes. -/
  planes : List (BitVec 64) := []
  /-- Analog: the 64 × 64 weight codes, row by row. -/
  codes  : List (List Nat) := []
  /-- The selvedge rows (R91). -/
  sel64  : BitVec 64 := 0
  sel65  : BitVec 64 := 0
  /-- Σw(j, h) at 2j + h (exact), or the rows' sums of codes (analog). -/
  sigma  : List Int := []
  /-- The work item whose stream brought the weights of a DYNAMIC_W piece (R242). -/
  item   : Option (Nat × Nat) := none
  /-- The expert that the weights belong to (R252). -/
  expert : Option Nat := none
  deriving DecidableEq, Repr

/-- Dodge and burn entry and residuals of a half-row (R65, R77, R87). -/
structure Half where
  k     : Nat := 16372
  o     : Int := 993
  delta : List Int := List.replicate 33 0
  deriving DecidableEq, Repr

/-- A row of a core (R49, R72, R76). -/
structure Row where
  quar   : Bool := false
  margin : Nat := 0xFFFF
  resid  : Nat := 0xFFFF
  a      : Half := {}
  b      : Half := {}
  /-- Measurements of the open slot, or of the power-up runs, in order (R197). -/
  meas   : List RowMeas := []
  /-- Received-power margins by channel, in 0.01 dB, of its latest measurement (R142). -/
  db     : List (Nat × Nat) := []
  /-- A RESTORE has still to measure it in its place (R211). -/
  restoreDue : Bool := false
  /-- Draws whose free values are its rings' span trims, and its half-rows' converter trims: TIA gain, ADC offset, gain,
  interleave skew and sampling instant (R187); none before the first. -/
  spanAt : Option Nat := none
  convAt : Option Nat := none
  deriving DecidableEq, Repr

/-- A core (R69–R77). -/
structure Core where
  st       : CoreState := .dark
  /-- The row row 66 stands in for, and whether it is quarantined (R50, R71). -/
  baste    : Option (Fin 67 × Bool) := none
  rows     : Vector Row 67 := Vector.replicate 67 {}
  passes   : Word := 0
  replays  : Word := 0
  selvFail : Word := 0
  wloads   : Word := 0
  adcClip  : Word := 0
  block    : Option Block := none
  /-- The gate stays closed until a load passes: the last one failed its comparison twice (R59), or its piece left with a
  load unfinished (R61). -/
  gateShut : Bool := false
  /-- HELD for its tile (R69): bit 0 a resting state's darkroom, bit 1 a scrub's, bit 2 an activation's window (R362, R382,
  R413). -/
  barred   : BitVec 3 := 0
  /-- The two operand registers, the latest vector first (R21, R62). -/
  operands : List (List Nat) := []
  /-- The modulator DACs and the ring weight drivers have had their first write since power-up (R157): before it they stand
  at mid-scale and at zero bias. -/
  modWritten  : Bool := false
  ringWritten : Bool := false
  /-- Rows found faulty that wait for the core fix point (R97). -/
  faulty   : List (Fin 67) := []
  /-- A diagnosed pass is replayed after the substitution (R97). -/
  replayDue : Bool := false
  /-- The row whose recalibration slot is open (R218). -/
  walk     : Option (Fin 67) := none
  /-- The row the next slot opens (R206). -/
  walkNext : Fin 67 := 0
  /-- A core sweep is in progress, or asked for and not yet begun (R209). -/
  sweep    : Bool := false
  vacate   : Bool := false
  /-- Heater centring runs on the row under recalibration (R208). -/
  centring : Bool := false
  /-- The row in its slot has been quarantined by calibration and stays substituted (R209). -/
  slotBad  : Bool := false
  /-- Entries, MARGIN and RESID that row 66's own slot has adopted: they come into force at its end (R78, R206). -/
  took     : Option (Half × Half × Nat × Nat) := none
  /-- Rows of a retired core that its sweep's centring has failed (R208, R211). -/
  sweepBad : List (Fin 67) := []
  /-- Each row found faulty with the results of checks 64 and 65 of its pass, bit (8 × half + slice) set where one failed
  (R93). -/
  checks   : List (Fin 67 × BitVec 16 × BitVec 16) := []
  /-- Slots left of an accelerated walk (R211, R212). -/
  accelLeft : Nat := 0
  /-- The residents that time-share the core: (context, pattern), and the one in its quantum (R358). -/
  residents : List (Nat × Nat) := []
  current   : Option (Nat × Nat) := none
  /-- Its issue duty times the power of its piece at full issue, in 1/1200 W (R245). -/
  drive     : Nat := 0
  deriving DecidableEq, Repr

/-- A laser (R139, R184, R187): `bias` is the code driven, `set` the stored operating bias. -/
structure Laser where
  st     : LaserState := .off
  chan   : Nat := 0
  margin : Nat := 0xFF
  bias   : Nat := 0
  set    : Nat := 0
  /-- It is selected at the combiner for its channel, whether it is lit now or not (R139). -/
  serving  : Bool := false
  /-- It has been declared fading since laser characterisation (R143). -/
  declared : Bool := false
  /-- A spare's channel has been measured at 1.5 dB or more since its swap (R150). -/
  proved   : Bool := false
  /-- Its assigned frequency, in MHz from the grid, and its monitor set point (R141, R142). -/
  freq   : Int := 0
  monitor : Nat := 0
  deriving DecidableEq, Repr

/-- A flit as a replay buffer or a receiver holds it (R169, R170). -/
structure FlitRec where
  seqNo   : BitVec 16
  kind    : Byte
  cls     : Byte
  payload : List Byte
  /-- Replays of it in succession. -/
  tries   : Nat := 0
  deriving DecidableEq, Repr

/-- A seam port (R169–R174, R181, R186). -/
structure Seam where
  st      : PortState := .down
  /-- Lane groups in use, bit g (R171). -/
  groups  : BitVec 4 := 0
  /-- Groups marked for dropping. -/
  drop    : BitVec 4 := 0
  /-- A lane with loss of signal stops the traffic (R171). -/
  halted  : Bool := false
  txSeq   : BitVec 16 := 0
  /-- Next sequence number to deliver, and flits delivered so far, newest first. -/
  rxSeq   : BitVec 16 := 0
  rx      : List FlitRec := []
  /-- Flits sent and not acknowledged, oldest first: the replay buffer of 256 flits. -/
  unacked : List FlitRec := []
  /-- The flit whose tag has failed, and on how many consecutive attempts (R170). -/
  tagSeq  : BitVec 16 := 0
  tagFails : Nat := 0
  corr    : Word := 0
  replay  : Word := 0
  drops   : Word := 0
  deriving DecidableEq, Repr

/-- A dither generator (R165, R182), with its phase accumulator. -/
structure Dith where
  acc    : Word := 0
  ftw    : Word := 0
  amp    : BitVec 8 := 0
  target : BitVec 2 := 0
  en     : Bool := false
  deriving DecidableEq, Repr

/-- A ring's heater (R151, R153, R156): table I_0–I_4 in 0.125 µA, ΔQ in 10⁻⁶ mA², η in 0.01 GHz per mA², and the DAC. -/
structure Ring where
  table : List Nat := [0, 0, 0, 0, 0]
  dq    : Int := 0
  eta   : Nat := 0
  /-- The resonance order assigned and the threading point's current, where it has been threaded (R151, R187). -/
  order : Option Nat := none
  point : Nat := 0
  code  : Nat := 0
  high  : Bool := false
  deriving DecidableEq, Repr

/-- One temperature set (R198): the dodge and burn entry of half-row ((core × 67 + row) × 2 + half), where not nominal. -/
structure TempSet where
  entries : List (Nat × Half) := []
  deriving DecidableEq, Repr

/-- A stored copy of a tile's sets (R200): generation, heater tables by ring, and the entries of each set. -/
structure SetCopy where
  gen    : Nat := 0
  tables : List (Nat × List Nat) := []
  sets   : Vector TempSet 5 := Vector.replicate 5 {}
  deriving DecidableEq, Repr

/-- A tile's calibration figures (R216–R220). -/
structure Cal where
  step     : Nat := 0
  runs     : Nat := 0
  stResult : Nat := 0
  restore  : Bool := false
  accel    : Bool := false
  setGen   : Nat := 0
  source   : Nat := 0
  nearest  : Nat := 7
  marginCore : Nat := 0
  marginRow  : Nat := 0x7F
  margin   : Nat := 0xFFFF
  residCore : Nat := 0
  resid    : Nat := 0xFFFF
  third    : Word := 0
  quar     : Word := 0
  claims   : Word := 0
  madeFp   : Word := 0
  sets     : Vector TempSet 5 := Vector.replicate 5 {}
  /-- The copies in the vault's system area and in the mirror area of each NOR slot (R200, R404); the factory record is
  `SetCopy`'s default. -/
  vaultCopy  : SetCopy := {}
  mirrors    : Vector SetCopy 2 := Vector.replicate 2 {}
  /-- A copy has been loaded since power-up (R200). -/
  loaded    : Bool := false
  /-- A mirror write, or a commit retry, is due (R201). -/
  mirrorDue : Bool := false
  retryDue  : Bool := false
  /-- Step 8's probes were repeated once (R191). -/
  probed    : Bool := false
  /-- Mean sensor temperature of run B (R199). -/
  meanTemp  : Int := 0
  deriving DecidableEq, Repr

/-- A change that waits for a tile fix point (R204, R205). -/
inductive Change where
  | restoreRow (core : Fin 4) (row : Fin 67)
  | darkChannel (ch : Fin 64)
  | swap (spare : Fin 8)
  | retrain (port : Fin 4)
  | reconfigure (paths : List (Fin 6 × Fin 6))
  | recalMove (core : Fin 4)
  | seed
  | bias (laser : Fin 72) (up : Bool)
  | takeover
  | leaveRli
  | rliChannel (ch : Fin 64)
  | darkroom
  | allOff (ctx : Nat)
  deriving DecidableEq, Repr

/-- A photonic tile with its converter die and laser chiplet. -/
structure Tile where
  st        : TileState := .dark
  cores     : Vector Core 4 := Vector.replicate 4 {}
  lasers    : Vector Laser 72 := Vector.replicate 72 {}
  seams     : Vector Seam 4 := Vector.replicate 4 {}
  dith      : Vector Dith 4 := Vector.replicate 4 {}
  dark      : BitVec 64 := 0
  fogCount  : Word := 0
  htrMismatch : Word := 0
  swaps     : Word := 0
  csGen     : Word := 0
  bank0     : List (Nat × Int) := []
  bank1     : List (Nat × Int) := []
  rli       : Bool := false
  /-- Channels of RLI mode that have moved to lasers of the tile (R177). -/
  rliMoved  : BitVec 64 := 0
  cal       : Cal := {}
  rings     : List (Nat × Ring) := []
  pend      : List Change := []
  /-- Paths of the switch matrix (R174): ports 0–3, the tile's transmit end 4 and its receive end 5. -/
  paths     : List (Fin 6 × Fin 6) := []
  /-- A requested change of them. -/
  pathsWant : Option (List (Fin 6 × Fin 6)) := none
  /-- Payloads of a port that went DOWN, resent over hub SRAM for want of another seam (R173). -/
  resent    : List FlitRec := []
  /-- Generator of calibration symbols of the converter die (R188), and the draw of the modulator span trims (R187). -/
  lfsr      : BitVec 64 := 0
  modAt     : Option Nat := none
  /-- The ring heaters have had their first write since the tile had its supply (R157, R159). -/
  heated    : Bool := false
  /-- QUARANTINED, as it is again after a power state in which it was DARK (R161). -/
  outOfService : Bool := false
  /-- The ruler reference rings' frequencies, in GHz from the factory record's (R15, R151). -/
  ruler     : List Int := [0, 0]
  fogCause  : Option FogCause := none
  /-- The cause of the fog has cleared and probes may run (R163). -/
  mayProbe  : Bool := false
  probeFails : Nat := 0
  waitRetry : Bool := false
  /-- The last readings of its 16 diode sensors, in 0.01 °C (R154). -/
  temps     : List Int := []
  /-- Swaps whose spare is tuned and matched (R144): spare and channel. -/
  swapping  : List (Fin 8 × Fin 64) := []
  /-- Tile safelight (R369). -/
  safelight : Bool := false
  /-- Under SELF_TEST and withheld from placement (R214). -/
  testing   : Bool := false
  /-- Its image failed a wake reload (R410). -/
  imageBad  : Bool := false
  /-- The issue duty that the Tailor wants of it, in 1/10,000 (R245). -/
  dutyWant  : Nat := 0
  /-- Heaters that mismatched once and wait for confirmation (R159). -/
  suspect   : List (Fin 4 × Fin 67 × Fin 64) := []
  /-- Cores with a selvedge failure since the last sensor read (R162). -/
  selvHit   : BitVec 4 := 0
  /-- The power state the tile rests in; RUN while it is awake (R382, R383). -/
  rest      : PState := .run
  /-- Its calibration steps follow a tile safelight (R370). -/
  slReturn  : Bool := false
  deriving DecidableEq, Repr

/-- A commit record (R278): what it names, the root of the new translation, the digest over these fields, and how many of its two
copies have been programmed. -/
structure CommitRec where
  spool  : Nat
  inc    : Nat
  gen    : Nat
  off    : Nat
  len    : Nat
  root   : Nat
  digest : List Byte
  copies : Nat := 0
  deriving DecidableEq, Repr

/-- What a spool held before its latest commit (R279). -/
structure Committed where
  record : Option CommitRec
  length : Nat
  gen    : Nat
  data   : Memory
  deriving DecidableEq, Repr

/-- A spool (R276): parked when `ctx` is none. -/
structure Spool where
  id     : Nat
  ctx    : Option Nat
  fn     : Nat
  label  : Nat
  size   : Nat
  length : Nat
  gen    : Nat
  inc    : Nat
  data   : Memory
  /-- A Delete or Reassign waits for the reads in progress (R276). -/
  closing : Bool := false
  /-- The record of its latest commit, and what it held before (R278, R279). -/
  record  : Option CommitRec := none
  prev    : Option Committed := none
  deriving DecidableEq, Repr

/-- A spool write in progress (R278): its command, the bytes to come, the transaction space in bytes that it reserved, and the
copies of the commit record programmed so far. -/
structure Xact where
  q      : Nat
  seq    : Nat
  spool  : Nat
  off    : Nat
  len    : Nat
  data   : Memory
  space  : Nat
  copies : Nat
  /-- It runs; one that waits for an earlier write to its spool does not (R277). -/
  started : Bool := true
  /-- Once it has committed: the reads that hold the pages it superseded (R277). -/
  readers : List (Nat × Nat) := []
  deriving DecidableEq, Repr

/-- An old incarnation of a spool under scrub (R361): units left, and whether its space returns to the free pool (it stays with
the new incarnation after a Reassign). -/
structure SpoolScrub where
  spool : Nat
  left  : Nat
  back  : Bool
  deriving DecidableEq, Repr

/-- The vault (R274–R284). -/
structure Vault where
  /-- 0 offline, 1 mounting, 2 online, 3 read-only, 4 failed. -/
  st        : Nat := 0
  tempMax   : Option Int := none
  tempMin   : Option Int := none
  writeHold : Bool := false
  readHold  : Bool := false
  replayed  : Bool := false
  free      : Nat := 0
  /-- Free transaction space, in bytes (R278). -/
  xact      : Nat := 0
  spare     : Nat := 0xFF
  commits   : Word := 0
  discard   : Word := 0
  corr      : Word := 0
  uncorr    : Word := 0
  spools    : List Spool := []
  /-- The last incarnation used for a spool ID (R276). -/
  incs      : List (Nat × Nat) := []
  writes    : List Xact := []
  /-- Transaction space of committed writes whose superseded pages reads still hold (R277, R278): the space, and the expert
  fetches, by pattern and record. -/
  owed      : List (Nat × List (Nat × Nat)) := []
  /-- Old incarnations that are scrubbed in the background, in turn (R361). -/
  scrubbing : List SpoolScrub := []
  /-- The hold-up bank is charged (R509). -/
  holdup    : Bool := true
  /-- It was not in time, or fell low: read-only until the next module reset (R509). -/
  holdupFault : Bool := false
  deriving DecidableEq, Repr

/-- A temperature sensor (R363–R368), readings in 0.01 °C. -/
structure Sensor where
  raw     : Option Int := none
  /-- The last conversion was above the shutdown threshold (R376). -/
  beyond    : Bool := false
  status  : Nat := 0xF
  subst   : Bool := false
  fast    : Bool := false
  /-- The value used (R368). -/
  used    : Option Int := none
  /-- Slow rounds in a row with neighbour disagreement (R367). -/
  disagree : Nat := 0
  /-- Milliseconds of the fast round more than 5 °C below the throttle threshold (R365). -/
  cool     : Nat := 0
  /-- Its values in the last slow rounds, newest first, each with twice the median of its working neighbours (R367). -/
  past     : List (Int × Option Int) := []
  /-- Contact-sheet maps in a row that disagree with a converter-die sensor (R367). -/
  maps     : Nat := 0
  /-- Slow rounds in a row in which a failed sensor has passed every check (R367). -/
  passed   : Nat := 0
  /-- Its comparator has tripped and the reading has not fallen back since (R376). -/
  tripped  : Bool := false
  deriving DecidableEq, Repr

/-- A monitor converter (R390–R398). -/
structure Mon where
  en       : Bool := false
  trig     : Nat := 0
  seqLen   : Nat := 0
  seqEnt   : Vector (BitVec 6) 48 := Vector.replicate 48 0
  seqBusy  : Bool := false
  /-- Entry of the sequence being converted. -/
  seqPos   : Nat := 0
  /-- The conversion in progress: input, injected, started unsettled. -/
  conv     : Option (BitVec 6 × Bool × Bool) := none
  valid    : Bool := false
  overrun  : Bool := false
  notSettled : Bool := false
  inj      : Bool := false
  input    : BitVec 6 := 0
  data     : BitVec 16 := 0
  overlap  : Nat := 0
  injDropped : Nat := 0
  /-- The values last kept, by input (R396). -/
  values   : List (Nat × Nat) := []
  deriving DecidableEq, Repr

/-- What the housekeeping processor holds (R364–R398). Powers in units of 0.5 W where noted. -/
structure Hk where
  sensors   : Vector Sensor 282 := Vector.replicate 282 {}
  /-- Thermal limit L in units of 0.5 W (R371). -/
  limit     : Nat := 2700
  /-- Caps in units of 0.5 W. -/
  hostCap   : Nat := 2700
  mgmtCap   : Nat := 2700
  /-- The limit in force, in units of 0.5 W, as of the last tick. -/
  inForce   : Nat := 2700
  /-- Housekeeping's own count in ms at the last fall and the last rise or fall. -/
  lastFall  : Option Nat := none
  lastChange : Option Nat := none
  relaxHold : Bool := false
  /-- Location class at the last fall (R373). -/
  fallClass : Nat := 0
  /-- PWR_LIMIT.CAUSE. -/
  cause     : Nat := 0
  rounds    : Nat := 0
  trip      : Word := 0
  sensFaults : Word := 0
  falls     : Word := 0
  /-- THROTTLES of PWR_EVENTS. -/
  throttles : Nat := 0
  mon       : Vector Mon 2 := Vector.replicate 2 {}
  plausFails : Nat := 0
  plausDiff : Nat := 0
  failsInRow : Nat := 0
  goodInRow : Nat := 0
  monitorFault : Bool := false
  refEn     : Bool := false
  refSettled : Bool := false
  /-- Input powers of the rounds of the last 100 ms, newest first, each times 2³². -/
  powers    : List Nat := []
  /-- Sums of the codes of inputs 4–15 of the rounds of the last 10 ms, newest first (R372). -/
  tileCodes : List Nat := []
  /-- Codes of inputs 0 and 1 of the rounds of the last 10 ms, newest first (R454). -/
  volts     : List Nat := []
  amps      : List Nat := []
  /-- The last valid non-tile power, in W × 2³² (R372, R396). -/
  nonTile   : Nat := 0
  /-- Consecutive monitor rounds with inputs 28 or 29 outside their limits (R464). -/
  laserOut  : Nat := 0
  laserSupplyOk : Bool := true
  coolingFault : Bool := false
  /-- Temperature of PWR_READING, in °C (R397). -/
  tempOut   : Option Int := none
  /-- Tile budget given to the Tailor, in units of 0.5 W (R372). -/
  budget    : Nat := 2700
  /-- Housekeeping is being partially reset: rounds stop (R461). -/
  halted    : Bool := false
  deriving DecidableEq, Repr

/-- Power states (R381–R389, R397). -/
structure Power where
  target    : PState := .run
  hold      : Nat := 10
  current   : PState := .run
  pending   : Option PState := none
  /-- The state a transition in progress moves to. -/
  moving    : Option PState := none
  tilesUp   : BitVec 12 := 0xFFF
  hubsUp    : BitVec 4 := 0xF
  hbmUp     : BitVec 4 := 0xF
  lpUp      : Bool := true
  /-- Hub dies whose vector units and fabric are off in SLEEP (R382). -/
  hubSleep  : BitVec 4 := 0
  draining  : List Domain := []
  /-- Domains that have drained and not powered down since: their next power-down is a retry (R385). -/
  retrying  : List Domain := []
  wakes     : Nat := 0
  retries   : Nat := 0
  deriving DecidableEq, Repr

/-- MSI-X table entry (R310, R486). -/
structure Msix where
  addr : BitVec 64 := 0
  data : Word := 0
  mask : Bool := true
  deriving DecidableEq, Repr

/-- A PCIe function: its own registers and configuration state (R307–R314, R481–R487). -/
structure Func where
  enabled   : Bool := false
  d3        : Bool := false
  fspLo     : Word := 0
  fspHi     : Word := 0
  fspGen    : BitVec 64 := 0
  dirty     : Bool := false
  intCause  : BitVec 11 := 0
  intEnable : BitVec 11 := 0
  intVector : BitVec 11 := 0
  msix      : List (Nat × Msix) := []
  pba       : List Nat := []
  fnMask    : Bool := false
  ats       : Bool := false
  pasidEn   : Bool := false
  /-- Translations cached for the function: page, host address, read, write (R312). -/
  atc       : List (Nat × Nat × Bool × Bool) := []
  /-- Invalidations accepted and not yet completed: base, length, and the requests then out under a cached translation (R313). -/
  invs      : List (Nat × Nat × List Nat) := []
  deriving DecidableEq, Repr

/-- An IDE stream (R317, R318): selective or link, key sets programmed, state. -/
structure Ide where
  id       : Nat
  keys     : List Nat
  secure   : Bool
  insecure : Bool
  deriving DecidableEq, Repr

/-- What a Selective IDE stream selects (R317): functions by RID, and host addresses `base` to `limit`. -/
structure IdeSel where
  stream : Nat
  ridLo  : Nat
  ridHi  : Nat
  base   : Nat
  limit  : Nat
  deriving DecidableEq, Repr

/-- An ATS translation request that is out (R312): the function, the host page, and the access that waits for it. -/
structure Xlat where
  fn     : Fin 64
  page   : Nat
  q      : Nat
  seq    : Nat
  dva    : Nat
  demand : Bool
  write  : Bool
  deriving DecidableEq, Repr

/-- A write that the device has sent to host memory, as the link carried it (R305, R312, R314, R326): its function, which is its
Requester ID, its bus address and length, a PASID and a translated address where it has them, Relaxed Ordering. -/
structure Posted where
  fn         : Fin 64
  addr       : Nat
  len        : Nat
  pasid      : Option Nat := none
  translated : Option Nat := none
  relaxed    : Bool := false
  deriving DecidableEq, Repr

/-- The PCIe link, its mailbox and its IDE streams (R300–R320). -/
structure Link where
  up        : Bool := false
  training  : Bool := false
  speed     : Nat := 0
  width     : Nat := 0
  flit      : Bool := false
  retrains  : Nat := 0
  vfEnable  : Bool := false
  numVfs    : Nat := 0
  ari       : Bool := false
  /-- Configuration requests are answered (R321 step 6). -/
  cfgUp     : Bool := false
  doeBusy   : Bool := true
  /-- Errors logged by AER (R315), newest first: function and kind, 0 Completion Timeout, 1 Poisoned TLP Received. -/
  aer       : List (Nat × Nat) := []
  ide       : List Ide := []
  ideSel    : List IdeSel := []
  /-- Max_Read_Request_Size, Relaxed Ordering Enable and 10-bit tags (R305): PCI Express's own reset values (assumption 16). -/
  readLimit : Nat := 512
  relaxed   : Bool := true
  tags10    : Bool := false
  xlats     : List Xlat := []
  deriving DecidableEq, Repr

/-- The fuse array (R399). -/
structure Fuses where
  serial     : BitVec 128 := 0
  revoke     : BitVec 4 := 0
  svn        : Nat := 0
  vdDisable  : Bool := false
  fa         : Nat := 0
  /-- DEVICE_SECRET and the two identity seeds; only Thimble's key engine reads them (R400). -/
  deviceSecret : BitVec 256 := 0
  edSeed     : BitVec 256 := 0
  mldsaSeed  : BitVec 256 := 0
  /-- VKEY[0]–VKEY[3]: the Ed25519 public key and the SHA-384 digest of the ML-DSA-65 public key. -/
  vkeys      : Vector (Nat × Nat) 4 := Vector.replicate 4 (0, 0)
  deriving DecidableEq, Repr

/-- A NOR slot (R404): its manifest where it has one, and its activation count. -/
structure Slot where
  manifest   : Option Manifest := none
  activation : Option Nat := none
  deriving DecidableEq, Repr

/-- An update command in progress (R411). -/
inductive UpdCmd where
  | none | stage (src : BundleRead) (fromHost : Bool) | activate | commit
  deriving DecidableEq, Repr

/-- Attested state of a component (R417). -/
inductive CompState where
  | running | staged | activating | activated | resetting | failed | off | pending
  deriving DecidableEq, Repr

/-- A DBG_ or SEC_UPD command that waits for a swap window to close (R432). -/
inductive SecCmd where
  | stage (src : BundleRead) (fromHost : Bool) | activate | abort | commit | newChal | submit
  deriving DecidableEq, Repr

/-- A context's entry of the attestation report (R416): spools and units by number. -/
structure CtxReport where
  ctx    : Nat
  fn     : Nat
  st     : CtxState
  spools : List Nat
  hub    : List Nat
  tray   : List Nat
  bolts  : List Nat
  deriving DecidableEq, Repr

/-- What a report attests (R416): the fields that GENERATION counts the changes of. -/
structure Attested where
  svn      : Nat
  revoked  : BitVec 4
  debug    : Nat
  mstate   : MState
  slots    : Nat
  runManifest   : Nat
  otherManifest : Nat
  runSvn   : Nat
  otherSvn : Nat
  /-- Type, instance, state, RUN_DIGEST and OTHER_DIGEST of the 34 components. -/
  comps    : List (Nat × Nat × CompState × Nat × Nat)
  ctxs     : List CtxReport
  deriving DecidableEq, Repr

/-- The attestation report (R416); keys and signatures are zero in FAILURE_ANALYSIS (R428). -/
structure Report where
  generation : Nat
  nonce    : BitVec 256
  serial   : BitVec 128
  edPub    : BitVec 256
  mldsaPub : List Byte
  att      : Attested
  sigs     : List Byte
  deriving DecidableEq, Repr

/-- What a BAR0 write asks of the housekeeping processor (R490): a resting state, ENTER or EXIT. -/
inductive Asked where
  | power (p : PState)
  | enter
  | leave
  deriving DecidableEq, Repr

/-- Thimble (R399–R432). -/
structure Sec where
  fuses     : Fuses := {}
  /-- Slots A and B. -/
  slots     : Vector Slot 2 := Vector.replicate 2 {}
  running   : Fin 2 := 0
  fallback  : Bool := false
  forced    : Bool := false
  /-- 0 LOCKED, 1 VENDOR_DEBUG, 2 FAILURE_ANALYSIS. -/
  debug     : Nat := 0
  hybridReq : Bool := true
  updLo     : Word := 0
  updHi     : Word := 0
  updLen    : Nat := 0
  updState  : Nat := 0
  updResult : Nat := 0
  progress  : Nat := 0
  cmd       : UpdCmd := .none
  /-- The erasure with which a STAGE begins waits for the NOR temperature (R281, R411). -/
  norDue    : Bool := false
  /-- Domains swapped so far in an ACTIVATE, in the order of R412 (0–22), and the domain whose window is open. -/
  swapped   : Nat := 0
  window    : Option Nat := none
  /-- The domains swapped are being reversed, and whether by ABORT (R414). -/
  rolling   : Bool := false
  aborting  : Bool := false
  /-- What housekeeping is asked during its own window (R490). -/
  asked     : List Asked := []
  /-- Commands and report requests (from management or not, nonce) that wait for the window to close (R418, R432). -/
  deferred  : List SecCmd := []
  heldReports : List (Bool × BitVec 256) := []
  generation : Nat := 0
  epoch     : BitVec 256 := 0
  challenge : Option (BitVec 256) := none
  dbgResult : Nat := 0
  tokLo     : Word := 0
  tokHi     : Word := 0
  /-- A SUBMIT reads its token, for this challenge (R426). -/
  submit    : Option (BitVec 256) := none
  /-- SPDM: version and algorithms agreed, sessions (established or in handshake), pending KEM secret. -/
  versioned : Bool := false
  negotiated : Bool := false
  sessions  : List (Nat × Bool) := []
  /-- The encapsulation key of the last KEM_GET, and the ciphertext once KEM_CT has brought it (R422). -/
  kem       : Option (List Byte × Option (List Byte)) := none
  /-- The secret in the place of the DHE secret of each session (R422, R423). -/
  secrets   : List (Nat × List Byte) := []
  /-- Chunks of a large request received so far: handle, next number, bytes. -/
  chunks    : Option (Nat × Nat × List Byte) := none
  /-- A large response to be fetched in chunks: handle, next number, the bytes left (R420). -/
  largeAns  : Option (Nat × Nat × List Byte) := none
  /-- ROM recovery runs (R410). -/
  recovery  : Bool := false
  deriving DecidableEq, Repr

/-- A management account (R436, R438); `password` names its digest. -/
structure Account where
  user     : Nat
  role     : Role
  password : Nat
  /-- Seconds of the failed attempts of the last minute. -/
  fails    : List Nat := []
  locked   : Bool := false
  deriving DecidableEq, Repr

/-- A management connection (R439): requests counted in one second. -/
structure Conn where
  id     : Nat
  stream : Bool := false
  /-- An event stream's next SEQ to deliver (R452). -/
  next   : Nat := 0
  prov   : Bool := false
  second : Nat := 0
  count  : Nat := 0
  deriving DecidableEq, Repr

/-- An entry of the event log (R450). -/
structure LogEntry where
  seq    : Option Nat
  e      : Event
  rep    : Nat
  at_    : Nat
  committed  : Bool
  unanchored : Bool
  restart    : Bool
  deriving DecidableEq, Repr

/-- The answer the module gave to its last request (the block's output port). -/
inductive Reply where
  | none
  | word (w : Word)
  | retryStatus
  | unsupportedRequest
  | http (status retryAfter : Nat) (body : Nat)
  | httpWords (body : List Int)
  /-- An event stream's replay (R452): the first SEQ still held, where older ones are gone, and the raw entries of 64 bytes. -/
  | events (marker : Option Nat) (entries : List (List Byte))
  /-- An attestation report, its bytes, to management or over DOE (R416, R419). -/
  | report (http : Bool) (bytes : List Byte)
  | tlsRefused
  | tcpRefused
  | accepted
  | spdm (code : Nat) (value : BitVec 256)
  | spdmBytes (code : Nat) (bytes : List Byte)
  /-- KEY_EXCHANGE_RSP: the session, its OpaqueData (R422), the rest. -/
  | keyExchanged (session : Nat) (opaqueData : List Byte) (value : BitVec 256)
  | spdmError (code : Nat)
  | doe (value : Nat)
  | doeBusy
  | mctp (bytes : List Nat)
  | pldm (completion : Nat) (values : List Int)
  | smbus (address : Nat)
  | noAck
  | echo
  deriving DecidableEq, Repr

/-- The management processor and the sideband (R433–R456). -/
structure Mgmt where
  up        : Bool := false
  /-- R324's limits apply. -/
  startup   : Bool := false
  accounts  : List Account := []
  sessions  : List (Nat × Nat) := []
  nextSession : Nat := 1
  conns     : List Conn := []
  authorities : List Nat := []
  tlsKey    : Bool := false
  cert      : Option Nat := none
  network   : Nat := 0
  networkNext : Option Nat := none
  /-- Requests of the current second, whole module (R439). -/
  second    : Nat := 0
  count     : Nat := 0
  etags     : List (Resource × Nat) := []
  detail    : Bool := false
  /-- 0 no link, 1 100BASE-TX, 2 1000BASE-T (R433). -/
  phy       : Nat := 0
  /-- Held in reset after a fourth partial reset (R463). -/
  dead      : Bool := false
  log       : List LogEntry := []
  nextSeq   : Option Nat := none
  /-- Numbering runs without an anchor in this boot (R449). -/
  unanchored : Bool := false
  dropped   : Nat := 0
  /-- Entries in the vault ring, newest first, and the highest committed SEQ plus 1 (R448, R449). -/
  ring      : List LogEntry := []
  anchor    : Nat := 0
  nudgeDiscards : Nat := 0
  /-- Entries delivered on event streams: connection and SEQ, newest first (R452). -/
  streamed  : List (Nat × Nat) := []
  /-- The connection of the last upload (R445). -/
  upload    : Option Nat := none
  eid       : BitVec 8 := 0
  smbAddr   : BitVec 2 := 0b11
  /-- MGMT_PROVISION is asserted, and has been since PERST_N deassertion (R437). -/
  provision : Bool := false
  /-- The credential record of the vault's system area reads and verifies (R435). -/
  credential : Bool := true
  deriving DecidableEq, Repr

/-- A CANCEL that waits for the records of the items it named (R356): queue, SEQs still without a record, items of it that
completed with CANCELLED. -/
structure Cancelling where
  seq   : Nat
  q     : Nat
  named : List Nat
  count : Nat
  deriving DecidableEq, Repr

/-- A SELF_TEST in progress (R214, R215). -/
structure SelfTest where
  q      : Nat
  seq    : Nat
  tiles  : BitVec 12
  tested : BitVec 12 := 0
  failed : BitVec 12 := 0
  /-- Tiles whose test was stopped and that have not been busy since (R215). -/
  passed : BitVec 12 := 0
  deriving DecidableEq, Repr

/-- A CALIBRATE run in progress, with the commands merged into it (R211, R213). -/
structure Calibrate where
  by_     : List (Nat × Nat)
  tiles   : BitVec 12
  opts    : BitVec 3
  skipped : BitVec 12
  /-- Tiles with an action still running. -/
  busy    : BitVec 12
  /-- Tiles whose RETHREAD waits for a self-test to end or for the tile to wake (R215, R384). -/
  waiting : BitVec 12 := 0
  /-- Tiles whose ACCEL or RESTORE follows their RETHREAD. -/
  after   : BitVec 12 := 0
  deriving DecidableEq, Repr

/-- A scrub in progress (R360–R362): kind 0 hub, 1 tray, 2 bolt; the admin command it belongs to. -/
structure Scrub where
  seq   : Option Nat
  kind  : Nat
  unit  : Nat
  from_ : Option Nat
  to_   : Option Nat
  deriving DecidableEq, Repr

/-- An event that a rule says is logged: reported to the management processor, which receives it as EVENT_REPORT (R448). -/
inductive Note where
  /-- R27. -/
  | tailorTakeover
  /-- R119: the piece, the row group, the expected count and the tag seen. -/
  | scaleSkew (piece rowGroup count tag : Nat)
  /-- R170, R286: four tag failures. -/
  | seamIntegrity (tile port : Nat)
  | d2dIntegrity (link : Nat)
  /-- R178. -/
  | openFibre
  /-- R208. -/
  | heaterCentring (core row : Nat)
  /-- R214. -/
  | selfTestFail (tile : Nat) (cores : Nat)
  /-- R249. -/
  | snag (pat stream : Nat)
  /-- R290: a soft or a hard repair, of HBM3E (1) or LPDDR4X (2). -/
  | repair (tier addr : Nat) (hard : Bool)
  /-- R303: a change of rate or width, or a retrain. -/
  | linkChange
  /-- R367, R368. -/
  | sensorFail (sensor : Nat)
  | sensorReturn (sensor : Nat)
  /-- R379: the trip that caused the restart, from HK_TRIP. -/
  | trip (word : Nat)
  /-- R410. -/
  | bootFallback
  | imageFail (tile : Nat)
  /-- R97: a row left service; with the failed checks 64 and 65 of the pass that found it, by half and slice (R93). -/
  | rowQuarantined (core row : Nat) (check64 check65 : BitVec 16)
  /-- R144 step 1. -/
  | laserFading (tile laser : Nat)
  /-- R362: a scrub of a unit starts or ends: kind, unit. -/
  | scrubStart (kind unit : Nat)
  | scrubEnd (kind unit : Nat)
  /-- R172: a port could not train at its width: the group dropped. -/
  | seamTraining (tile port group : Nat)
  /-- R465 and R470. -/
  | safelight (cause : Nat)
  | moduleFault (cause : Nat)
  /-- R506. -/
  | undervoltage
  /-- R509. -/
  | holdupLow
  /-- R334: a queue stopped. -/
  | queueStopped (queue : Nat)
  /-- R396. -/
  | monitorFault
  /-- R437. -/
  | credentialErased
  deriving DecidableEq, Repr

/-- Where data stays bad after an uncorrectable error (R291): an address of HBM3E (1) or LPDDR4X (2), or a 4 KiB codeword of a
spool. -/
inductive BadAt where
  | mem (tier addr : Nat) | cw (spool n : Nat)
  deriving DecidableEq, Repr

/-- A row of HBM3E (1) or LPDDR4X (2) that has given uncorrectable errors (R290): how many within 24 h, and whether it has had
its soft and its hard repair. DESIGN CHOICE: a row is named by the address that failed (assumption 122). -/
structure Repair where
  tier : Nat
  addr : Nat
  errs : Nat
  soft : Bool := false
  hard : Bool := false
  deriving DecidableEq, Repr

/-- Partial resets: those of the last hour, by component, instance and second (R463), and those that run (R461). -/
structure Resets where
  history : List (Proc × Nat × Nat) := []
  running : List (Proc × Nat) := []
  deriving DecidableEq, Repr

/-- The processors of the module and a count of 0 for each: type code, instance, count (R26, R36, R406). -/
def processorCounts : List (Nat × Nat × Nat) :=
  [(1, 0, 0), (2, 0, 0), (3, 0, 0), (4, 0, 0), (5, 0, 0), (5, 2, 0)]
    ++ (List.range 4).map (fun h => (6, h, 0)) ++ (List.range 12).map (fun t => (7, t, 0))

/-- Module-level state (R319, R464–R471, R498–R507). -/
structure Module where
  mstate    : MState := .powerup
  /-- PERST_N is asserted (R325). -/
  perst     : Bool := true
  auxOn     : Bool := true
  mainOn    : Bool := true
  /-- Main rails are up. -/
  rails     : Bool := true
  trained   : Bool := false
  sidebandUp : Bool := false
  /-- The module has entered READY or SAFELIGHT since the last module reset. -/
  served    : Bool := false
  /-- The module has been READY since power-up (R201). -/
  wasReady  : Bool := false
  slCause   : BitVec 4 := 0
  slResult  : Nat := 0
  slExit    : Bool := false
  faultCause : Nat := 0
  faultInst : Nat := 0
  /-- THERMTRIP_N and the trip that waits for its restart (R377–R379). -/
  thermtrip : Bool := false
  /-- The restart condition of R379 has held; with THERM_RESTART low the module waits for PERST_N. -/
  restartOk : Bool := false
  /-- PERST_N was asserted, or 48 V removed, after the restart condition held (R379). -/
  restartArmed : Bool := false
  /-- CLK_SSC and the depth applied (R33, R34). -/
  sscDepth  : BitVec 3 := 3
  sscActive : BitVec 3 := 0
  lockLoss  : Nat := 0
  pllLost   : List Die := []
  /-- Straps (R500), the open levels. -/
  thermRestart : Bool := true
  bootSlotForce : Bool := false
  /-- GLB_ID.STEPPING (R1). -/
  stepping  : BitVec 2 := 2
  rliStatus : Nat := 0
  rliEn     : Bool := false
  /-- The return path to the external shelf is open (R176, R178). -/
  rliReturn : Bool := false
  resets    : Resets := {}
  /-- The free-running cycle count of each processor, by type and instance, as it last stood (R36, R450). -/
  cycles    : List (Nat × Nat × Nat) := processorCounts
  deriving DecidableEq, Repr

/-- The Tailor (R27, R232–R239). -/
structure Tailor where
  profile   : BitVec 2 := 1
  reserve   : BitVec 4 := 0xF
  profileNow : BitVec 2 := 1
  reserveNow : Option (Fin 12) := none
  /-- The tile that a GLB_PLACEMENT write is emptying to make it the reserve (R235). -/
  toEmpty   : Option (Fin 12) := none
  onHd2     : Bool := false
  takeover  : Bool := false
  standbyUp : Bool := true
  /-- A GLB_PLACEMENT write or an unload lets pieces move (R238); which one, and the pieces moved since it. -/
  rebalance : Bool := false
  moved     : List (Nat × Nat) := []
  /-- Cores that the last unload has freed (R238). -/
  freed     : List (Fin 48) := []
  deriving DecidableEq, Repr

/-- PF registers of the admin queue and of the module interrupt (R338). -/
structure Admin where
  en       : Bool := false
  running  : Bool := false
  vector   : BitVec 11 := 0
  sizeLog2 : Nat := 6
  ringLo   : Word := 0
  ringHi   : Word := 0
  cqLo     : Word := 0
  cqHi     : Word := 0
  dbLo     : Word := 0
  dbHi     : Word := 0
  cspLo    : Word := 0
  cspHi    : Word := 0
  deriving DecidableEq, Repr

/-- The state of the module. -/
structure State where
  /-- Commands that wait, first in, first out. -/
  pending : List Instr := []
  mod     : Module := {}
  tailor  : Tailor := {}
  admin   : Admin := {}
  funcs   : Vector Func 64 := Vector.replicate 64 {}
  link    : Link := {}
  ctxs    : List Ctx := []
  queues  : List Queue := []
  pats    : List Pattern := []
  tracks  : List Tracker := []
  works   : List Work := []
  reqs    : List FdReq := []
  nextReq : Nat := 0
  /-- Reads of a TAIL so far that showed new descriptors, over all queues. -/
  tailReads  : Nat := 0
  tiles   : Vector Tile 12 := Vector.replicate 12 {}
  hk      : Hk := {}
  power   : Power := {}
  vault   : Vault := {}
  sec     : Sec := {}
  mgmt    : Mgmt := {}
  /-- Owners of swatches and bolts: (unit, context); unlisted units are the device's (R266). -/
  swatches : List (Nat × Nat) := []
  bolts   : List (Nat × Nat) := []
  /-- LPDDR4X frames in use by mappings and caches (R268, R269). -/
  frames  : List Nat := []
  scrubs  : List Scrub := []
  /-- Host memory, HBM3E by device HBM address, LPDDR4X by frame address. -/
  host    : Memory := []
  hbm     : Memory := []
  lp      : Memory := []
  selfTest : Option SelfTest := none
  cancelling : Option Cancelling := none
  /-- Buffers of streams in flight (R247), and the waits among streams (R248). -/
  bufs    : List Buf := []
  edges   : List Edge := []
  calib   : Option Calibrate := none
  /-- Die-to-die links: id, next sequence number, tag failures in a row, down (R286). -/
  d2d     : List (Nat × BitVec 16 × Nat × Bool) := []
  /-- Rows with uncorrectable errors, and their repairs (R290). -/
  repairs : List Repair := []
  /-- Data that met an uncorrectable error and has not been rewritten since (R291). -/
  bad     : List BadAt := []
  /-- Corrected errors of HBM3E and of LPDDR4X (R289). -/
  hbmCorr : Nat := 0
  lpCorr  : Nat := 0
  /-- Credits whose staged chunk has failed: swatch, credit, failures (R293). -/
  badCredits : List (Nat × Nat × Nat) := []
  /-- Writes sent to host memory, newest first. -/
  posted  : List Posted := []
  /-- The answer to the last request, and the MSI-X messages sent: (function, vector), newest first. -/
  reply   : Reply := .none
  msgs    : List (Nat × Nat) := []
  /-- Events logged by a rule's words, newest first. -/
  notes   : List Note := []
  /-- The model's own: draws of free values made so far. -/
  free    : Nat := 0
  deriving DecidableEq, Repr

/-- The vector whose element i is `f i`. -/
def vecOf (n : Nat) {α : Type} (f : Nat → α) : Vector α n :=
  ⟨((List.range n).map f).toArray, by simp⟩

/-- The ten ports without a partner (R18); ports 0 N, 1 E, 2 S, 3 W (R186). -/
def unpartnered (tile port : Nat) : Bool :=
  match port with
  | 0 => tile == 1 || tile == 2
  | 1 => tile == 3 || tile == 7 || tile == 11
  | 2 => tile == 9 || tile == 10
  | 3 => tile == 0 || tile == 4 || tile == 8
  | _ => false

/-- A tile after reset: DARK, ports with no partner shut (R18), laser n on channel n, spare k on 8k (R184). -/
def Tile.reset (tile : Nat) : Tile :=
  { seams := vecOf 4 (fun p => { st := if unpartnered tile p then .unpartnered else .down })
    lasers := vecOf 72 (fun n => { chan := if n < 64 then n else 8 * (n - 64) }) }

/-- The eight images of a bundle (R406), each accepting handover version 1 and producing it. -/
def factoryImages : List ImageEntry :=
  [1, 2, 3, 4, 5, 6, 7, 8].map fun n => { type := n, handoverMin := 1, handover := 1, digest := n }

/-- The bundle that a module of the model leaves the factory with, in slot A. DESIGN CHOICE, assumption 15. -/
def factoryManifest : Manifest :=
  { formOk := true, keySlot := 0, svn := 0, revokeMask := 0, steppingMask := 3, pubDigest := 0, edOk := true
    mldsaOk := true, imagesFit := true, images := factoryImages, digest := 0 }

/-- Context 0 (R327): owner the PF, weight 16, no PASID; its page is not written before AQ_CTRL.EN (R338). -/
def Ctx.zero : Ctx := { num := 0, cspOn := false }

/-- Queue 0 (R479): context 0, slot 0, PRIORITY 7, SIZE_LOG2 6; not served until enabled (R338). -/
def Queue.zero : Queue := { num := 0, ctx := 0 }

/-- The module right after reset (R473, R487, R325): module reset held by PERST_N, both inputs in range. -/
def State.reset : State :=
  { funcs := vecOf 64 (fun n => { enabled := n == 0 })
    ctxs := [Ctx.zero]
    queues := [Queue.zero]
    tiles := vecOf 12 Tile.reset
    sec := { slots := vecOf 2 (fun n => if n = 0 then { manifest := some factoryManifest, activation := some 1 } else {}) } }

end Sys2Proof.Machine
end

