-- ==== Sys2Proof/Machine/Ops.lean ====
section
/-! DEFINITION. The named operations over memory, the objects of the state and the host link, which the commands share. -/
namespace Sys2Proof

/-- The read brought its data, corrected or not (R289). -/
def Rsp.came (r : Rsp) : Bool := r == .ok || r == .corrected

end Sys2Proof

namespace Sys2Proof.Machine

/-- The answer of a command. -/
abbrev Out := Host.Outcome State Fault Refusal

/-! ### Bytes and memory -/

/-- The byte at an address; an unlisted address reads 0 (assumption 17). -/
def memRead : Memory → Nat → Byte
  | [], _ => 0
  | c :: m, a => if c.1 = a then c.2 else memRead m a

/-- Writes one byte; the list stays in its canonical form. -/
def memWrite : Memory → Nat → Byte → Memory
  | [], a, b => if b = 0 then [] else [(a, b)]
  | c :: m, a, b =>
    if c.1 < a then c :: memWrite m a b
    else if c.1 = a then (if b = 0 then m else (a, b) :: m)
    else (if b = 0 then c :: m else (a, b) :: c :: m)

/-- The canonical form: addresses strictly rising, no byte 0 listed. -/
def Memory.wf : Memory → Bool
  | [] => true
  | c :: m => c.2 != 0 && (match m with | [] => true | d :: _ => decide (c.1 < d.1)) && Memory.wf m

/-- `n` bytes from address `a` on. -/
def memReadN (m : Memory) (a : Nat) : Nat → List Byte
  | 0 => []
  | n + 1 => memRead m a :: memReadN m (a + 1) n

/-- Writes bytes from address `a` on. -/
def memWriteN (m : Memory) (a : Nat) : List Byte → Memory
  | [] => m
  | b :: bs => memWriteN (memWrite m a b) (a + 1) bs

/-- Host stores laid over host memory before the device reads it. -/
def overlay (hs : List Cell) (m : Memory) : Memory := hs.foldl (fun m c => memWrite m c.1 c.2) m

/-- Little-endian value of bytes (R4). -/
def leNat : List Byte → Nat
  | [] => 0
  | b :: bs => b.toNat + 256 * leNat bs

/-- The low `n` bytes of a value, little-endian. -/
def leBytes : Nat → Nat → List Byte
  | 0, _ => []
  | n + 1, v => BitVec.ofNat 8 v :: leBytes n (v / 256)

/-- Two's-complement value of the low `w` bits. -/
def signedOf (w v : Nat) : Int :=
  let x := v % 2 ^ w
  if 2 ^ w ≤ 2 * x then (x : Int) - 2 ^ w else x

/-- The low `w` bits of an integer. -/
def wrap (w : Nat) (v : Int) : Nat := (v % (2 ^ w : Int)).toNat

/-- A count that saturates (R397). -/
def satInc (v max : Nat) : Nat := if v < max then v + 1 else max

/-! ### Lists and vectors of objects -/

/-- Changes the elements that meet `p`. -/
def updWhere {α : Type} (p : α → Bool) (f : α → α) (l : List α) : List α := l.map fun x => if p x then f x else x

/-- The vector with every element changed, given its index. -/
def vecMap {α : Type} {n : Nat} (f : Nat → α → α) (v : Vector α n) : Vector α n :=
  ⟨(v.toList.mapIdx f).toArray, by simp⟩

def State.ctx? (s : State) (n : Nat) : Option Ctx := s.ctxs.find? (·.num == n)
def State.queue? (s : State) (q : Nat) : Option Queue := s.queues.find? (·.num == q)
def Queue.entry? (q : Queue) (seq : Nat) : Option Entry := q.entries.find? (·.seq == seq)
def State.pat? (s : State) (ctx h : Nat) : Option Pattern := s.pats.find? fun p => p.ctx == ctx && p.handle == h
/-- Work items in the order in which waiting ones are dealt: their queues' PRIORITY, 7 first, then as they began (R358). -/
def State.inOrder (s : State) : List Work :=
  [7, 6, 5, 4, 3, 2, 1, 0].flatMap fun k => s.works.filter fun w => ((s.queues.find? (·.num == w.q)).map (min 7 ·.priority)).getD 0 == k

def State.work? (s : State) (q seq : Nat) : Option Work := s.works.find? fun w => w.q == q && w.seq == seq
def State.spool? (s : State) (id : Nat) : Option Spool := s.vault.spools.find? (·.id == id)

def updCtx (n : Nat) (f : Ctx → Ctx) (s : State) : State := { s with ctxs := updWhere (·.num == n) f s.ctxs }
def updQueue (q : Nat) (f : Queue → Queue) (s : State) : State := { s with queues := updWhere (·.num == q) f s.queues }
def updEntry (q seq : Nat) (f : Entry → Entry) (s : State) : State :=
  updQueue q (fun x => { x with entries := updWhere (·.seq == seq) f x.entries }) s
def updPat (ctx h : Nat) (f : Pattern → Pattern) (s : State) : State :=
  { s with pats := updWhere (fun p => p.ctx == ctx && p.handle == h) f s.pats }
def updWork (q seq : Nat) (f : Work → Work) (s : State) : State :=
  { s with works := updWhere (fun w => w.q == q && w.seq == seq) f s.works }
def updSpool (id : Nat) (f : Spool → Spool) (s : State) : State :=
  { s with vault := { s.vault with spools := updWhere (·.id == id) f s.vault.spools } }
def updFunc (n : Fin 64) (f : Func → Func) (s : State) : State := { s with funcs := s.funcs.set n.val (f s.funcs[n]) }
def updTile (t : Fin 12) (f : Tile → Tile) (s : State) : State := { s with tiles := s.tiles.set t.val (f s.tiles[t]) }
def mapTiles (f : Nat → Tile → Tile) (s : State) : State := { s with tiles := vecMap f s.tiles }

/-- Core OC(4t + c) lies on tile t. -/
def coreTile (c : Fin 48) : Fin 12 := ⟨c.val / 4, by omega⟩
def coreSlot (c : Fin 48) : Fin 4 := ⟨c.val % 4, by omega⟩
def coreNum (t : Fin 12) (c : Fin 4) : Fin 48 := ⟨4 * t.val + c.val, by omega⟩

def Tile.updCore (c : Fin 4) (f : Core → Core) (t : Tile) : Tile := { t with cores := t.cores.set c.val (f t.cores[c]) }
def Core.updRow (r : Fin 67) (f : Row → Row) (c : Core) : Core := { c with rows := c.rows.set r.val (f c.rows[r]) }
def Tile.updLaser (l : Fin 72) (f : Laser → Laser) (t : Tile) : Tile := { t with lasers := t.lasers.set l.val (f t.lasers[l]) }
def Tile.updSeam (p : Fin 4) (f : Seam → Seam) (t : Tile) : Tile := { t with seams := t.seams.set p.val (f t.seams[p]) }
def State.core (s : State) (c : Fin 48) : Core := s.tiles[coreTile c].cores[coreSlot c]
def updCore (c : Fin 48) (f : Core → Core) (s : State) : State := updTile (coreTile c) (Tile.updCore (coreSlot c) f) s
def mapCores (f : Core → Core) (t : Tile) : Tile := { t with cores := vecMap (fun _ => f) t.cores }

/-! ### Processors (R26) -/

/-- The processor, or the hub die, that a component number names; Thimble is none that is reset or read. -/
def procExists (p : Proc) (i : Nat) : Bool :=
  match p with
  | .thimble => false
  | .management | .housekeeping | .vault => i = 0
  | .tailor => i = 0 || i = 2
  | .shuttle | .hubDie => decide (i < 4)
  | .tile => decide (i < 12)

/-- Bytes of a processor's private memory; Thimble's is its ROM and its SRAM. -/
def privateSize (p : Proc) : Nat :=
  match p with
  | .thimble => 640 * 2 ^ 10
  | .management => 8 * 2 ^ 20
  | .housekeeping => 2 ^ 20
  | .vault | .shuttle => 4 * 2 ^ 20
  | .tailor => 16 * 2 ^ 20
  | .tile => 2 * 2 ^ 20
  | .hubDie => 0

/-! ### Seams -/

/-- The port at the other end of a port (R17, R18). -/
def partner (t : Fin 12) (p : Fin 4) : Option (Fin 12 × Fin 4) :=
  match p.val with
  | 0 => if t.val = 0 then some (11, 2) else if t.val = 3 then some (8, 2)
         else if h : 4 ≤ t.val then some (⟨t.val - 4, by omega⟩, 2) else none
  | 1 => if h : t.val % 4 < 3 then some (⟨t.val + 1, by omega⟩, 3) else none
  | 2 => if t.val = 11 then some (0, 0) else if t.val = 8 then some (3, 0)
         else if h : t.val < 8 then some (⟨t.val + 4, by omega⟩, 0) else none
  | _ => if h : 0 < t.val % 4 then some (⟨t.val - 1, by omega⟩, 1) else none

/-! ### Log and messages -/

/-- An event logged by a rule's words. -/
def note (n : Note) (s : State) : State := { s with notes := n :: s.notes }

/-- A draw of a free value. -/
def draw (s : State) : State := { s with free := s.free + 1 }

/-! ### The host link -/

/-- A Selective stream's ranges take in an access (R317). -/
def IdeSel.covers (x : IdeSel) (fn a n : Nat) : Bool := x.ridLo ≤ fn && fn ≤ x.ridHi && x.base < a + n && a ≤ x.limit

/-- An IDE stream carries a function's access to `n` host bytes at `a` (R317): a Selective stream what it selects, the Link
stream what no Selective one does. -/
def ideCarries (s : State) (id fn a n : Nat) : Bool :=
  let sel := fun k => s.link.ideSel.any fun x => x.stream == k && x.covers fn a n
  if id = 0 then !(s.link.ide.any fun i => i.id != 0 && sel i.id) else sel id

/-- IDE traffic is held: an Insecure stream carries it (R318). -/
def ideHeld (s : State) (fn a n : Nat) : Bool := s.link.ide.any fun i => i.insecure && ideCarries s i.id fn a n

/-- The link carries traffic at all: up, module not held in reset, not OFF (R301, R325, R489). -/
def linkUsable (s : State) : Bool := s.link.up && !s.mod.perst && s.mod.rails

/-- The device may reach `n` bytes of host memory at `a` on a function's behalf (R301, R318). -/
def hostOk (s : State) (fn : Fin 64) (a n : Nat) : Bool :=
  linkUsable s && s.funcs[fn].enabled && !s.funcs[fn].d3 && !ideHeld s fn.val a n

/-- An MSI-X vector of a function: table entry, or its reset value (R486). -/
def Func.vector (f : Func) (v : Nat) : Msix := ((f.msix.find? (·.1 == v)).map (·.2)).getD {}

def Func.maskedVec (f : Func) (v : Nat) : Bool := f.fnMask || (f.vector v).mask

/-- A message cannot go: its vector is masked, or host memory is out of reach at its address (R301, R310, R318). -/
def vecWaits (s : State) (fn : Fin 64) (v : Nat) : Bool :=
  s.funcs[fn].maskedVec v || !hostOk s fn (s.funcs[fn].vector v).addr.toNat 4

/-- One MSI-X message (R310): sent, or its pending bit set while the vector is masked. A message that falls due in D3hot
or while the function's traffic is held waits as a pending bit too (R301, assumption 18). -/
def sendMsix (fn : Fin 64) (v : Nat) (s : State) : State :=
  if vecWaits s fn v then
    updFunc fn (fun f => { f with pba := if f.pba.contains v then f.pba else f.pba ++ [v] }) s
  else { s with msgs := (fn.val, v) :: s.msgs }

/-- Pending messages of a function whose vectors are not masked are sent, once each (R310). -/
def sendPending (fn : Fin 64) (s : State) : State :=
  { updFunc fn (fun f => { f with pba := f.pba.filter (vecWaits s fn) }) s with
    msgs := ((s.funcs[fn].pba.filter fun v => !vecWaits s fn v).map fun v => (fn.val, v)).reverse ++ s.msgs }

/-- Sets INT_CAUSE bits of a function, with one message for the bits that rise while enabled (R481, R482). A VF has bits
[10:9], [5] and [0] only (R484). -/
def raiseInt (fn : Fin 64) (bits : BitVec 11) (s : State) : State :=
  let f := s.funcs[fn]
  let b := if fn = 0 then bits else bits &&& 0x621#11
  let rising := b &&& ~~~f.intCause
  let s := updFunc fn (fun f => { f with intCause := f.intCause ||| b }) s
  if rising &&& f.intEnable = 0 then s else sendMsix fn f.intVector.toNat s

/-! ### Translation (R260–R265) -/

def Page.size (p : Page) : Nat := if p.big then 2 ^ 21 else 2 ^ 16
def Page.covers (p : Page) (a : Nat) : Bool := p.dva ≤ a && a < p.dva + p.size

/-- The page an access at a DVA reaches, where it permits the access; a page with PASID = 1 needs PASID Enable (R314). -/
def translate (s : State) (c : Ctx) (a : Nat) (write : Bool) : Option Page :=
  match c.pages.find? (·.covers a) with
  | some p =>
    if (if write then p.write else p.read) && !(p.pasid && p.target == 0 && !s.funcs[c.owner].pasidEn) then some p else none
  | none => none

/-- The first faulting DVA of a range, page by page. -/
def rangeFaultFrom (s : State) (c : Ctx) (fin : Nat) (write : Bool) : Nat → Nat → Option Nat
  | 0, a => if a < fin then some a else none
  | k + 1, a =>
    if a < fin then
      match translate s c a write with
      | some p => rangeFaultFrom s c fin write k (p.dva + p.size)
      | none => some a
    else none

/-- The first faulting DVA of `n` bytes from `a` on; a DVA above 2⁵² is itself at fault (R260). -/
def rangeFault (s : State) (c : Ctx) (a n : Nat) (write : Bool) : Option Nat :=
  if 2 ^ 52 ≤ a then some a else rangeFaultFrom s c (a + n) write (c.pages.length + 1) a

/-- Byte of the memory a page lies in. -/
def targetMem (s : State) (target : Nat) : Memory := if target = 0 then s.host else if target = 1 then s.hbm else s.lp

def setTargetMem (s : State) (target : Nat) (m : Memory) : State :=
  if target = 0 then { s with host := m } else if target = 1 then { s with hbm := m } else { s with lp := m }

/-- The target and address of a DVA, whatever the permission. -/
def dvaPlace (c : Ctx) (a : Nat) : Option (Nat × Nat) :=
  (c.pages.find? (·.covers a)).map fun p => (p.target, p.addr + (a - p.dva))

/-- One byte at a DVA; 0 where it is not mapped (no command reads such a byte). -/
def dvaRead (s : State) (c : Ctx) (a : Nat) : Byte :=
  match dvaPlace c a with
  | some (t, x) => memRead (targetMem s t) x
  | none => 0

def dvaReadN (s : State) (c : Ctx) (a : Nat) : Nat → List Byte
  | 0 => []
  | n + 1 => dvaRead s c a :: dvaReadN s c (a + 1) n

def dvaWrite (c : Ctx) (a : Nat) (b : Byte) (s : State) : State :=
  match dvaPlace c a with
  | some (t, x) => setTargetMem s t (memWrite (targetMem s t) x b)
  | none => s

def dvaWriteN (c : Ctx) (a : Nat) : List Byte → State → State
  | [], s => s
  | b :: bs, s => dvaWriteN c (a + 1) bs (dvaWrite c a b s)

/-- The DVA of a context at which an address of device memory appears. -/
def dvaOf (c : Ctx) (tier x : Nat) : Option Nat :=
  (c.pages.find? fun p => p.target == tier && p.addr ≤ x && x < p.addr + p.size).map fun p => p.dva + (x - p.addr)

/-- Data behind a DVA range that keeps failing (R291): its DVA. -/
def BadAt.inDva (c : Ctx) (a n : Nat) : BadAt → Option Nat
  | .mem t x => (dvaOf c t x).filter fun d => a ≤ d && d < a + n
  | .cw .. => none

/-- The first DVA of a range whose data keeps failing. -/
def badDva (s : State) (c : Ctx) (a n : Nat) : Option Nat :=
  (s.bad.filterMap (BadAt.inDva c a n)).foldl (fun best d => some (match best with | some b => min b d | none => d)) none

/-- The parts of a DVA range that lie in host memory: page, bus address, length. -/
def hostParts (c : Ctx) (a n : Nat) : List (Page × Nat × Nat) :=
  (c.pages.filter fun p => p.target == 0 && p.dva < a + n && a < p.dva + p.size).map fun p =>
    let lo := max a p.dva
    (p, p.addr + (lo - p.dva), min (a + n) (p.dva + p.size) - lo)

/-- An access must wait: it touches host memory that is out of reach (R301, R318). -/
def hostWaits (s : State) (c : Ctx) (a n : Nat) : Bool := (hostParts c a n).any fun x => !hostOk s c.owner x.2.1 x.2.2

/-- The translated address that the function holds for a host address, where ATS is on and the access is permitted (R312). -/
def atcAt (s : State) (fn : Fin 64) (a : Nat) (write : Bool) : Option Nat :=
  if s.funcs[fn].ats then
    (s.funcs[fn].atc.find? fun x => x.1 == a / 4096 && (if write then x.2.2.2 else x.2.2.1)).map fun x => x.2.1 + a % 4096
  else none

/-- The first host page of an access under ATS that has no translation yet (R312). -/
def pageWanted (s : State) (fn : Fin 64) (write : Bool) (a n : Nat) : Option Nat :=
  if s.funcs[fn].ats then
    ((List.range ((a % 4096 + n + 4095) / 4096)).map (a / 4096 + ·)).find? fun p => (atcAt s fn (4096 * p) write).isNone
  else none

/-- The first host page that an access of a DVA range still needs translated. -/
def wantedIn (s : State) (c : Ctx) (write : Bool) (a n : Nat) : Option Nat :=
  ((hostParts c a n).filterMap fun x => pageWanted s c.owner write x.2.1 x.2.2).head?

/-- A translation is asked for, once, with at most 32 requests out (R305, R312). -/
def askPage (x : Xlat) (s : State) : State :=
  if s.link.xlats.contains x || 32 ≤ s.link.xlats.length then s
  else { s with link := { s.link with xlats := s.link.xlats ++ [x] } }

/-- The PASID that requests under a page carry (R262, R314). -/
def Page.tag (p : Page) (c : Ctx) : Option Nat := if p.pasid then c.pasid else none

/-- Host writes of a context, as the link carries them (R305, R312, R314, R326). -/
def postWrites (c : Ctx) (a n : Nat) (relaxed : Bool) (s : State) : State :=
  { s with posted := (hostParts c a n).map (fun x =>
      { fn := c.owner, addr := x.2.1, len := x.2.2, pasid := x.1.tag c, translated := atcAt s c.owner x.2.1 true
        relaxed := relaxed && s.link.relaxed }) ++ s.posted }

/-- Bytes written through a context's mappings; data that kept failing there is rewritten (R291). -/
def storeDva (c : Ctx) (a : Nat) (relaxed : Bool) (bs : List Byte) (s : State) : State :=
  { dvaWriteN c a bs (postWrites c a bs.length relaxed s) with bad := s.bad.filter fun b => (b.inDva c a bs.length).isNone }

/-- A host read that ends in a completion timeout is logged by AER (R315). -/
def timedOutAt (fn : Fin 64) (target : Nat) (r : Rsp) (s : State) : State :=
  if target = 0 && r == .timeout then { s with link := { s.link with aer := (fn.val, 0) :: s.link.aer } } else s

/-! ### Bus addresses -/

/-- Host memory written for a function at a bus address: never relaxed, with no PASID (R305, R326). -/
def busWrite (fn : Fin 64) (a : Nat) (bs : List Byte) (s : State) : State :=
  { s with host := memWriteN s.host a bs, posted := { fn := fn, addr := a, len := bs.length } :: s.posted }

def seeHost (hs : List Cell) (s : State) : State := { s with host := overlay hs s.host }

/-! ### Commands in Shuttle memory -/

/-- The module holds commands for READY (R322). -/
def beforeReady (s : State) : Bool := s.mod.mstate == .powerup || s.mod.mstate == .calibrating

/-- Ends a command: its result waits for its record (R351). -/
def finish (q seq : Nat) (st : Status) (info : Nat) (s : State) : State :=
  updEntry q seq (fun e => { e with st := .finished, status := st, info := info }) s

def finishFlags (q seq : Nat) (st : Status) (info info2 : Nat) (fl : Flags) (s : State) : State :=
  updEntry q seq (fun e => { e with st := .finished, status := st, info := info, info2 := info2, flags := fl }) s

def begin_ (q seq : Nat) (s : State) : State := updEntry q seq (fun e => { e with st := .begun }) s
def hold (q seq : Nat) (s : State) : State := updEntry q seq (fun e => { e with st := .held }) s

def Entry.op (e : Entry) : Nat := (e.desc.extractLsb' 0 8).toNat
def descByte (d : Desc) (k : Nat) : Nat := (d.extractLsb' (8 * k) 8).toNat
def desc16 (d : Desc) (k : Nat) : Nat := (d.extractLsb' (8 * k) 16).toNat
def desc32 (d : Desc) (k : Nat) : Nat := (d.extractLsb' (8 * k) 32).toNat
def desc64 (d : Desc) (k : Nat) : Nat := (d.extractLsb' (8 * k) 64).toNat

/-- A feed-dog request of a work item is cancelled: a later arrival is discarded (R298). -/
def cancelReqs (q seq : Nat) (s : State) : State :=
  { s with reqs := updWhere (fun r => r.q == q && r.seq == seq) (fun r => { r with cancelled := true }) s.reqs }

/-- A pattern leaves: its cores' blocks, residents and trackers go with it (R231). -/
def Core.forget (ctx h : Nat) (c : Core) : Core :=
  { c with
    residents := c.residents.filter (· != (ctx, h))
    current := if c.current == some (ctx, h) then none else c.current
    block := match c.block with | some b => if b.pat = h then none else c.block | none => none }

def dropPattern (ctx h : Nat) (s : State) : State :=
  let own := (s.queues.filter (·.ctx == ctx)).map (·.num)
  let held := ((s.pats.filter fun p => p.ctx == ctx && p.handle == h).map (·.frames)).flatten
  { mapTiles (fun _ t => mapCores (Core.forget ctx h) t) s with
    pats := s.pats.filter fun p => !(p.ctx == ctx && p.handle == h)
    frames := s.frames.filter (!held.contains ·)
    tracks := s.tracks.filter fun t => !(t.pat == h && own.contains t.q)
    bufs := s.bufs.filter fun b => !(b.ctx == ctx && b.pat == h) }

/-- A pattern whose load has not completed goes with its command (R229). -/
def abandonLoad (q seq : Nat) (s : State) : State :=
  (s.pats.filter fun p => !p.runnable && p.byQueue == q && p.bySeq == seq).foldl (fun s p => dropPattern p.ctx p.handle s) s

/-- Run-ahead data that a work item has not consumed is discarded when it completes, and counted (R299). -/
def countUnused (q seq : Nat) (s : State) : State :=
  match s.work? q seq with
  | some w => updCtx w.ctx (fun c => { c with discarded := c.discarded + BitVec.ofNat 64 w.unused }) (updWork q seq (fun w => { w with unused := 0 }) s)
  | none => s

/-- A command that ended early leaves nothing behind: its work item, its spool write, its place in expert queues. -/
def dropWork (q seq : Nat) (s : State) : State :=
  let s := countUnused q seq (abandonLoad q seq s)
  { s with
    works := s.works.filter fun w => !(w.q == q && w.seq == seq)
    vault := { s.vault with writes := s.vault.writes.filter fun x => !(x.q == q && x.seq == seq) }
    pats := s.pats.map fun p =>
      { p with fetches := p.fetches.map fun f => { f with waiters := f.waiters.filter (· != (q, seq)) } } }

/-- The part of a write that replaces committed data of its spool (R278). -/
def Xact.inside (w : Xact) (x : Spool) : Nat := min x.length (w.off + w.len) - min x.length w.off

/-- A write that waited for an earlier one to its spool starts (R277): its checks are made now, and its space is reserved (R278,
R280, R284). -/
def startWrite (w : Xact) (x : Spool) (s : State) : State :=
  let mine := fun (y : Xact) => y.q == w.q && y.seq == w.seq
  let gone := { s with vault := { s.vault with writes := s.vault.writes.filter (!mine ·) } }
  if s.vault.writeHold then finish w.q w.seq .tempHold 0 gone
  else if s.vault.st == 3 || s.vault.xact < w.inside x then finish w.q w.seq .resourceShort 0 gone
  else
    { s with vault := { s.vault with
      writes := updWhere mine (fun y => { y with started := true, space := w.inside x }) s.vault.writes
      xact := s.vault.xact - w.inside x } }

/-- Writes that come first on their spools now start. -/
def startWritesN : Nat → State → State
  | 0, s => s
  | n + 1, s =>
    match s.vault.writes.find? fun w => !w.started && (s.vault.writes.find? (·.spool == w.spool)) == some w with
    | none => s
    | some w =>
      match s.spool? w.spool with
      | some x => startWritesN n (startWrite w x s)
      | none => s

def startWrites (s : State) : State :=
  if s.vault.st == 2 || s.vault.st == 3 then startWritesN s.vault.writes.length s else s

/-- Transaction space that the writes of one command reserved returns (R278). -/
def returnXact (q seq : Nat) (s : State) : State :=
  let back := ((s.vault.writes.filter fun x => x.q == q && x.seq == seq).map (·.space)).foldl (· + ·) 0
  { s with vault := { s.vault with xact := s.vault.xact + back } }

/-- Ends a command with a status other than OK: its requests are cancelled (R298), nothing more of it is written. -/
def failCmd (q seq : Nat) (st : Status) (info : Nat) (s : State) : State :=
  startWrites (finish q seq st info (dropWork q seq (returnXact q seq (cancelReqs q seq s))))

/-- Ends a work item keeping the flags it has gathered (R349). -/
def failWork (q seq : Nat) (st : Status) (info : Nat) (s : State) : State :=
  let fl := ((s.work? q seq).map (·.flags)).getD {}
  let sat := ((s.work? q seq).map (·.sat)).getD 0
  startWrites (finishFlags q seq st info sat { fl with saturated := 0 < sat } (dropWork q seq (returnXact q seq (cancelReqs q seq s))))

/-- Write-out has begun, a run again under R293 included. -/
def Work.inWriteOut (w : Work) : Bool := w.stage == .writeOut || w.rerun

/-- Cancels one item by its state (R356). An item in write-out goes on. -/
def cancelItem (q : Nat) (s : State) (e : Entry) : State :=
  match e.st with
  | .finished => s
  | .begun =>
    match s.work? q e.seq with
    | some w => if w.inWriteOut then s else failWork q e.seq .cancelled 0 s
    | none => failCmd q e.seq .cancelled 0 s
  | _ => failCmd q e.seq .cancelled 0 s

/-- Cancels items of a queue. -/
def cancelItems (q : Nat) (es : List Entry) (s : State) : State := es.foldl (cancelItem q) s

/-- Ends every command of a context that has not completed, with one status (R462). -/
def endAll (n : Nat) (st : Status) (s : State) : State :=
  s.queues.foldl (fun s q =>
    if q.ctx == n then q.entries.foldl (fun s e => if e.st == .finished then s else failWork q.num e.seq st 0 s) s else s) s

/-- A context becomes FAULTED (R328, R462); REVOKED and FAULTED do not replace one another. -/
def faultCtx (n : Nat) (s : State) : State :=
  match s.ctx? n with
  | some c => if c.st == .active then endAll n .contextFaulted (updCtx n (fun c => { c with st := .faulted }) s) else s
  | none => s

/-- An error ends a work item: with its status, or, where it had begun write-out, by faulting its context (R293, R462). -/
def errWork (q seq : Nat) (st : Status) (info : Nat) (s : State) : State :=
  match s.work? q seq with
  | some w =>
    if w.inWriteOut then
      let s := faultCtx w.ctx s
      if (s.work? q seq).isSome then failWork q seq .contextFaulted 0 s else s
    else failWork q seq st info s
  | none => s

/-- A queue goes, with the tracker state of its patterns on it (R138), and the space of its writes returns (R278). -/
def removeQueue (q : Nat) (s : State) : State :=
  { s with
    queues := s.queues.filter (·.num != q)
    tracks := s.tracks.filter (·.q != q)
    works := s.works.filter (·.q != q)
    reqs := updWhere (·.q == q) (fun r => { r with cancelled := true }) s.reqs
    vault := { s.vault with
      writes := s.vault.writes.filter (·.q != q)
      xact := s.vault.xact + ((s.vault.writes.filter (·.q == q)).map (·.space)).foldl (· + ·) 0 } }

/-- The owner of a unit of a partition list; unlisted units are the device's (R266). -/
def unitOwner (l : List (Nat × Nat)) (u : Nat) : Option Nat := (l.find? (·.1 == u)).map (·.2)

/-- Swatches and bolts of a context (R357: released and scrubbed with it). -/
def ctxUnits (l : List (Nat × Nat)) (n : Nat) : List Nat := (l.filter (·.2 == n)).map (·.1)

def bolt0 : Nat := 2 ^ 30

/-- A range of a memory reads 0 (R361). -/
def zeroRange (m : Memory) (a n : Nat) : Memory := m.filter fun c => c.1 < a || a + n ≤ c.1

/-- Frames of LPDDR4X of a list of pages: scrubbed, then free (R269). -/
def freeFrames (ps : List Page) (s : State) : State :=
  ps.foldl (fun s p =>
    if p.target == 2 then
      { s with
        frames := s.frames.filter (· != p.addr), lp := zeroRange s.lp p.addr (2 ^ 21)
        bad := s.bad.filter fun b => match b with | .mem t a => !(t == 2 && p.addr ≤ a && a < p.addr + 2 ^ 21) | _ => true }
    else s) s

/-- Spools of a context are parked (R360). -/
def parkSpools (n : Nat) (s : State) : State :=
  { s with vault := { s.vault with spools := updWhere (·.ctx == some n) (fun x => { x with ctx := none, closing := false }) s.vault.spools } }

/-! ### Module state and tile light -/

/-- Number of LOCKED tiles (R319). -/
def tilesLocked (s : State) : Nat := (s.tiles.toList.filter (·.st == .locked)).length

/-- Lasers of a tile switched off (R178, R465, R140); FAILED and FADED ones stay so. Which of them serve stays known. -/
def lasersOff (t : Tile) : Tile :=
  { t with lasers := vecMap (fun _ l => if l.st == .failed || l.st == .faded then l else { l with st := .off, bias := 0 }) t.lasers }

/-- A core leaves service for its tile: gate closed (R69). -/
def Core.darken (c : Core) : Core := if c.st == .retired then c else { c with st := .dark }

/-- A change that needs its spare tuned, or a light that is out (R144, R177). -/
def Change.ofLight : Change → Bool
  | .swap _ | .rliChannel _ => true
  | _ => false

/-- Its dies lose their supply: modulators and weight drivers are back at their first states (R157), and weights go. -/
def Core.unwritten (c : Core) : Core := { c with block := none, modWritten := false, ringWritten := false }

/-- Dither stops: no use of R166 is left. -/
def Tile.ditherOff (x : Tile) : Tile := { x with dith := vecMap (fun _ d => { d with en := false, target := 0 }) x.dith }

/-- The tile goes DARK (R161): power-down, shutdown or SAFELIGHT entry. Swaps in progress are over: their spares are off. -/
def tileDark (t : Tile) : Tile :=
  { mapCores (fun c => { c.darken with drive := 0 }) (lasersOff t).ditherOff with
    st := .dark, fogCause := none, mayProbe := false, probeFails := 0, waitRetry := false, testing := false
    swapping := [], pend := t.pend.filter (!·.ofLight) }

/-- What a core shows when its tile is LOCKED and no pass or load runs (R69): its gate stays closed after a load that failed or
was left unfinished (R59, R61), while rows wait for its fix point (R99), and while its tile is barred. -/
def Core.gateSt (c : Core) : CoreState := if c.gateShut || !c.faulty.isEmpty || c.barred != 0 then .held else .idle

/-- A load runs: LOADING, where nothing else keeps the gate closed (R69). -/
def Core.underLoad (c : Core) : Core := { c with st := if c.st == .idle || c.st == .running then .loading else c.st }

/-- A core leaves DARK, or a closed gate opens (R69). -/
def Core.openGate (c : Core) : Core := if c.st == .held || c.st == .dark then { c with st := c.gateSt } else c

/-- A core's gate is closed for its tile, for the reasons `b`. -/
def Core.bar (b : BitVec 3) (c : Core) : Core :=
  { c with barred := c.barred ||| b, st := if c.st == .idle || c.st == .running || c.st == .loading then .held else c.st }

/-- Reasons end; on a LOCKED tile the gate opens where none is left. -/
def Core.unbar (b : BitVec 3) (lit : Bool) (c : Core) : Core :=
  let c := { c with barred := c.barred &&& ~~~b }
  if lit then c.openGate else c

/-- The emitting lasers go to warm-hold (R140). -/
def Tile.dimmed (t : Nat) (x : Tile) : Tile :=
  { x with lasers := vecMap (fun n l =>
      if l.st == .operating || l.st == .fading then { l with st := .warmHold, bias := Config.warmHoldBias t n } else l) x.lasers }

/-- The reasons that close the tile's gates. -/
def Tile.barredBy (x : Tile) : BitVec 3 := (x.cores[0]).barred

/-- Darkroom (R140, R362, R382): gates closed, and lasers at warm-hold once the tile is LOCKED. -/
def Tile.darkroom (b : BitVec 3) (t : Nat) (x : Tile) : Tile :=
  mapCores (Core.bar b) (if x.st == .locked then x.dimmed t else x)

/-- One laser of a lit tile: the serving ones emit at their set point, FADING where they were declared so; the other spares, and
the working lasers that remote light replaces (R176), are in warm-hold; a dark channel's laser stays off (R140, R149). -/
def Laser.light (t n : Nat) (rli dark : Bool) (l : Laser) : Laser :=
  if l.st == .failed || l.st == .faded || l.st == .tuning then l
  else if l.serving then { l with st := if l.declared then .fading else .operating, bias := l.set }
  else if 64 ≤ n || (rli && !dark) then { l with st := .warmHold, bias := Config.warmHoldBias t n }
  else { l with st := .off, bias := 0 }

/-- The tile is lit. -/
def Tile.lit (t : Nat) (x : Tile) : Tile :=
  { x with lasers := vecMap (fun n l => l.light t n x.rli (x.dark.getLsbD n)) x.lasers }

/-- The end of a darkroom: lasers back at their set points and gates open, where no other darkroom holds. -/
def Tile.bright (b : BitVec 3) (t : Nat) (x : Tile) : Tile :=
  mapCores (Core.unbar b (x.st == .locked)) (if x.st == .locked && x.barredBy &&& ~~~b &&& 3 == 0 then x.lit t else x)

/-- A change waits for the tile's fix point; one already waiting is not repeated. -/
def Tile.await (c : Change) (x : Tile) : Tile := if x.pend.contains c then x else { x with pend := x.pend ++ [c] }

/-- Ports whose transmitters lose their supply go DOWN (R157, R171). -/
def Tile.seamsDown (x : Tile) : Tile :=
  { x with seams := vecMap (fun _ m => if m.st == .unpartnered then m else { m with st := .down, groups := 0, drop := 0, halted := false }) x.seams }

/-- A piece of the pattern stands on a core of the tile. -/
def Pattern.onTile (p : Pattern) (t : Nat) : Bool := p.places.any fun pl => (pl.cores ++ pl.from_).any fun c => c.val / 4 == t

def Pattern.onCore (p : Pattern) (c : Fin 48) : Bool := p.places.any fun pl => (pl.cores ++ pl.from_).contains c

/-! ### Scrubs -/

/-- The tile of a tray swatch. -/
def trayTile (u : Nat) : Nat := (u - 256) / 12

/-- A tile's darkroom for a scrub of its tray (R362 step 3): at its next fix point where it is LOCKED; another tile is idle. -/
def Tile.scrubRoom (t : Nat) (x : Tile) : Tile := if x.st == .locked then x.await .darkroom else x.darkroom 2 t

/-- Starts the scrub of units, which is logged; each tile that holds a tray swatch under scrub enters darkroom; an admin command
completes when its units are done (R362). -/
def startScrub (seq : Option Nat) (kind : Nat) (us : List Nat) (from_ : Nat → Option Nat) (to_ : Option Nat) (s : State) : State :=
  let s := if kind = 1 then mapTiles (fun t x => if us.any (trayTile · == t) then x.scrubRoom t else x) s else s
  us.foldl (fun s u => note (.scrubStart kind u) s)
    { s with scrubs := s.scrubs ++ us.map fun u => { seq := seq, kind := kind, unit := u, from_ := from_ u, to_ := to_ } }

/-- Units that a context leaves are released and scrubbed (R357, R361): hub and tray swatches, bolts. -/
def releaseUnits (n : Nat) (s : State) : State :=
  let sw := ctxUnits s.swatches n
  let s := startScrub none 0 (sw.filter (· < 256)) (fun _ => none) none s
  let s := startScrub none 1 (sw.filter (256 ≤ ·)) (fun _ => none) none s
  startScrub none 2 (ctxUnits s.bolts n) (fun _ => none) none s

/-- Destroys a context without records (R311): its queues, patterns, mappings; partitions released and scrubbed (R357,
R361), spools parked. -/
def wipeCtx (n : Nat) (s : State) : State :=
  match s.ctx? n with
  | none => s
  | some c =>
    let s := (s.queues.filter (·.ctx == n)).foldl (fun s q => removeQueue q.num s) s
    let s := (s.pats.filter (·.ctx == n)).foldl (fun s p => dropPattern n p.handle s) s
    let s := freeFrames c.pages s
    let s := releaseUnits n (parkSpools n s)
    { s with
      swatches := s.swatches.filter (·.2 != n)
      bolts := s.bolts.filter (·.2 != n)
      ctxs := s.ctxs.filter (·.num != n)
      scrubs := s.scrubs.map fun x =>
        { x with from_ := if x.from_ == some n then none else x.from_, to_ := if x.to_ == some n then none else x.to_ }
      reqs := updWhere (·.ctx == n) (fun r => { r with cancelled := true }) s.reqs }

end Sys2Proof.Machine
end

