-- ==== Sys2Proof/Machine/Operands.lean ====
section
/-! DEFINITION. Operand forms: descriptors (R339–R347, R520), pattern files (R222–R228), numbers (R109–R125) and the
layouts of operand vectors (R517–R519). -/
namespace Sys2Proof.Machine

/-! ### Descriptors -/

/-- Operand bytes of an opcode: (first byte, length); bytes 16–63 outside them are reserved (R342). -/
def operandSpans : Nat → Option (List (Nat × Nat))
  | 0x00 => some []
  | 0x01 => some [(16, 2), (24, 8), (32, 8), (40, 8), (48, 8)]
  | 0x02 => some [(16, 8), (24, 8), (32, 2), (34, 1), (36, 4), (40, 8), (48, 4)]
  | 0x03 => some [(16, 2)]
  | 0x04 => some [(16, 8), (24, 8), (32, 8), (40, 2), (42, 2)]
  | 0x05 => some [(16, 8), (24, 8), (32, 8), (40, 2)]
  | 0x06 => some [(16, 2), (18, 1), (20, 4), (24, 8), (32, 2)]
  | 0x07 => some [(16, 1), (24, 8), (32, 8)]
  | 0x08 => some [(24, 8), (32, 8)]
  | 0x09 => some [(16, 2), (18, 1)]
  | 0x0A => some [(16, 2), (20, 4), (24, 32)]
  | 0x0B => some [(16, 2), (18, 1)]
  | 0x0C => some [(16, 2)]
  | 0x0D => some [(16, 1), (18, 2), (24, 8), (32, 4)]
  | 0x40 => some [(16, 2), (18, 1), (19, 1), (20, 4), (24, 8), (32, 8)]
  | 0x41 => some [(16, 2)]
  | 0x42 => some [(16, 2), (18, 1), (19, 1), (20, 2), (22, 1), (23, 1), (24, 8), (32, 8), (40, 2)]
  | 0x43 => some [(16, 2)]
  | 0x44 => some [(16, 2), (18, 1), (20, 4), (24, 8), (32, 8)]
  | 0x45 => some [(16, 2), (18, 1), (20, 4), (24, 8), (32, 8)]
  | 0x46 => some [(16, 1), (17, 1), (18, 2), (20, 4), (24, 4), (28, 4), (32, 8)]
  | 0x47 => some [(16, 1), (18, 2), (20, 1)]
  | 0x48 => some [(16, 2), (18, 1), (24, 8), (32, 8)]
  | _ => none

/-- Every reserved byte or bit of the header and of the operand area is 0 (R339). -/
def reservedOk (d : Desc) (spans : List (Nat × Nat)) : Bool :=
  descByte d 1 < 2 && desc16 d 2 == 0 && desc32 d 12 == 0
    && (List.range 48).all fun i => spans.any (fun p => p.1 ≤ 16 + i && 16 + i < p.1 + p.2) || descByte d (16 + i) == 0

/-- A bus address of CREATE_CONTEXT or CREATE_QUEUE: 4 KiB aligned, below 2⁵² (R347). -/
def pageAddr (a : Nat) : Bool := a % 4096 == 0 && a < 2 ^ 52

/-- SET_PARTITION's own ranges (R347, R360, R520). -/
def partitionOk (d : Desc) : Bool :=
  let kind := descByte d 16
  let act := descByte d 17
  let unit := desc32 d 20
  let count := desc32 d 24
  let size := desc32 d 28
  desc16 d 18 < 1024 &&
  (match kind with
   | 0 => act < 3 && 1 ≤ count && count ≤ 856 && unit + count ≤ 256
   | 1 => act < 3 && 1 ≤ count && count ≤ 856 && 256 ≤ unit && unit + count ≤ 400
   | 2 => act < 3 && 1 ≤ count && count ≤ 856 && unit + count ≤ 864
   | 3 => 2 ≤ act && act ≤ 6 && count == 1
       && (if act == 3 || act == 4 then 1 ≤ size && size ≤ 262144 else true)
       && (if act == 3 then true else 1 ≤ unit && unit ≤ 4095)
   | _ => false)

/-- The fields of an opcode lie in their stated ranges (R341 check 1). -/
def rangesOk (op : Nat) (d : Desc) : Bool :=
  match op with
  | 0x00 => true
  | 0x01 => desc16 d 16 < 256
  | 0x02 => desc16 d 32 < 4096 && descByte d 34 ≤ 16
  | 0x03 => desc16 d 16 < 256
  | 0x04 => 1 ≤ desc64 d 32 && desc64 d 32 ≤ 2 ^ 52 && desc16 d 40 < 4096 && desc16 d 42 < 4096
  | 0x05 => desc64 d 24 % 8 == 0 && desc16 d 40 < 4096 && (desc16 d 40 != 0 || desc64 d 16 % 8 == 0)
  | 0x06 => desc16 d 16 < 256 && descByte d 18 < 3 && 1 ≤ desc32 d 20 && desc32 d 20 ≤ 65536
  | 0x07 => descByte d 16 < 2 && (descByte d 16 == 0 || desc64 d 24 % 8 == 0)
  | 0x08 => desc64 d 24 % 8 == 0
  | 0x09 => desc16 d 16 < 256 && descByte d 18 < 2
  | 0x0A => desc16 d 16 < 256 && (List.range 32).all fun i => (d.getLsbD (160 + i)) || descByte d (24 + i) == 0
  | 0x0B => desc16 d 16 < 4096 && descByte d 18 < 8
  | 0x0C => desc16 d 16 < 4096
  | 0x0D => descByte d 16 < 4 && desc64 d 24 % 8 == 0 && (descByte d 16 != 1 || desc16 d 18 < 256)
  | 0x40 => desc16 d 16 < 64 && descByte d 18 < 2 && 1 ≤ descByte d 19 && desc32 d 20 < 2 ^ 20 && pageAddr (desc64 d 24)
      && pageAddr (desc64 d 32)
  | 0x41 => desc16 d 16 < 1024
  | 0x42 => desc16 d 16 < 1024 && descByte d 18 < 64 && 6 ≤ descByte d 19 && descByte d 19 ≤ 16 && desc16 d 20 < 2048
      && descByte d 22 < 8 && pageAddr (desc64 d 24) && pageAddr (desc64 d 32)
  | 0x43 => desc16 d 16 < 4096
  | 0x44 => desc16 d 16 < 1024 && descByte d 18 < 64 && descByte d 18 / 2 % 4 != 3
      && (descByte d 18 / 2 % 4 != 2 || descByte d 18 % 2 == 1) && 1 ≤ desc32 d 20 && desc32 d 20 ≤ 65536
  | 0x45 => desc16 d 16 < 1024 && descByte d 18 < 64 && 1 ≤ desc32 d 20 && desc32 d 20 ≤ 65536
  | 0x46 => partitionOk d
  | 0x47 => if descByte d 16 == 0 then desc16 d 18 < 4096 && descByte d 20 < 8
      else descByte d 16 == 1 && desc16 d 18 < 1024 && 1 ≤ descByte d 20
  | 0x48 => desc16 d 16 < 4096 && descByte d 18 < 2
  | _ => false

/-- The opcode may stand on the queue (R340). -/
def opAllowed (op : Nat) (isAdmin pfOwned : Bool) : Bool :=
  if op == 0x00 || op == 0x07 || op == 0x08 || op == 0x0D then true
  else if 0x40 ≤ op then isAdmin
  else if op == 0x0B || op == 0x0C then !isAdmin && pfOwned
  else !isAdmin

/-- The admission checks of R341 in their order: the status of the first that fails. -/
def admitCheck (d : Desc) (q : Queue) (c : Ctx) : Option Status :=
  let op := descByte d 0
  match operandSpans op with
  | none => some .descInvalid
  | some spans =>
    if !(reservedOk d spans && rangesOk op d) then some .descInvalid
    else if !opAllowed op (q.num == 0) (c.owner == 0) then some .notPermitted
    else match c.st with
      | .revoked => some .cancelled
      | .faulted => some .contextFaulted
      | .active => none

/-! ### Pattern files -/

def fileN (f : List Byte) (off n : Nat) : List Byte := (f.drop off).take n
def fileNat (f : List Byte) (off n : Nat) : Nat := leNat (fileN f off n)

def patSize (f : List Byte) : Nat := fileNat f 8 8
def sectionCount (f : List Byte) : Nat := fileNat f 6 2

/-- A section: type, records, offset, size (R222). -/
structure Sect where
  type : Nat
  count : Nat
  off : Nat
  size : Nat
  deriving DecidableEq, Repr

def sectAt (f : List Byte) (i : Nat) : Sect :=
  { type := fileNat f (64 + 24 * i) 2, count := fileNat f (68 + 24 * i) 4, off := fileNat f (72 + 24 * i) 8
    size := fileNat f (80 + 24 * i) 8 }

def sects (f : List Byte) : List Sect := (List.range (sectionCount f)).map (sectAt f)

/-- The section of a type; an absent one is empty. -/
def sect (f : List Byte) (t : Nat) : Sect := ((sects f).find? (·.type == t)).getD { type := t, count := 0, off := 0, size := 0 }

def nPieces (f : List Byte) : Nat := (sect f 1).count
def pieceOff (f : List Byte) (p : Nat) : Nat := (sect f 1).off + 64 * p
def pieceStage (f : List Byte) (p : Nat) : Nat := fileNat f (pieceOff f p) 2
def pieceFlags (f : List Byte) (p : Nat) : Nat := fileNat f (pieceOff f p + 2) 2
def pieceDynamic (f : List Byte) (p : Nat) : Bool := (pieceFlags f p).testBit 0
def pieceExpert (f : List Byte) (p : Nat) : Bool := (pieceFlags f p).testBit 1
def pieceVuOnly (f : List Byte) (p : Nat) : Bool := (pieceFlags f p).testBit 2
def pieceSplit (f : List Byte) (p : Nat) : Bool := (pieceFlags f p).testBit 3
def pieceNum (f : List Byte) (p : Nat) : Nat := fileNat f (pieceOff f p + 8) 8
def pieceRed (f : List Byte) (p : Nat) : Nat := fileNat f (pieceOff f p + 16) 4
def pieceGroups (f : List Byte) (p : Nat) : Nat := fileNat f (pieceOff f p + 20) 2
def pieceVu (f : List Byte) (p : Nat) : Nat := fileNat f (pieceOff f p + 22) 2
def pieceBlock0 (f : List Byte) (p : Nat) : Nat := fileNat f (pieceOff f p + 24) 4
def pieceScale0 (f : List Byte) (p : Nat) : Nat := fileNat f (pieceOff f p + 28) 4
def pieceRq0 (f : List Byte) (p : Nat) : Nat := fileNat f (pieceOff f p + 32) 4
def pieceSet (f : List Byte) (p : Nat) : Nat := fileNat f (pieceOff f p + 36) 2
def pieceRepMin (f : List Byte) (p : Nat) : Nat := fileNat f (pieceOff f p + 38) 2
def pieceRepMax (f : List Byte) (p : Nat) : Nat := fileNat f (pieceOff f p + 40) 2
def piecePower (f : List Byte) (p : Nat) : Nat := fileNat f (pieceOff f p + 42) 2
def pieceBatch (f : List Byte) (p : Nat) : Nat := fileNat f (pieceOff f p + 48) 1

/-- Fields of the numeric record (R113). -/
def numAnalog (n : Nat) : Bool := n.testBit 0
def numAFmt (n : Nat) : Nat := n / 2 ^ 8 % 16
def numWFmt (n : Nat) : Nat := n / 2 ^ 12 % 16
def numGroup (n : Nat) : Nat := n / 2 ^ 18 % 4
def numOutFmt (n : Nat) : Nat := n / 2 ^ 24 % 16
def numRnd (n : Nat) : Bool := n.testBit 28
def numZx (n : Nat) : Nat := n / 2 ^ 32 % 256
def numZout (n : Nat) : Nat := n / 2 ^ 40 % 256
def numTrackOut (n : Nat) : Nat := n / 2 ^ 48 % 256
def numTrackIn (n : Nat) : Nat := n / 2 ^ 56 % 256

/-- Weight bits wb of a weight format (R83, R110). -/
def weightBits (w : Nat) : Nat := if w = 0 then 8 else if w = 1 then 4 else if w = 2 then 2 else 6

/-- Row groups that fit one core (R83, R226). -/
def setGroups (n : Nat) : Nat := if numAnalog n then 64 else 64 / weightBits (numWFmt n)

def nPasses (f : List Byte) (p : Nat) : Nat := (pieceRed f p + 63) / 64
def nSets (f : List Byte) (p : Nat) : Nat := (pieceGroups f p + setGroups (pieceNum f p) - 1) / setGroups (pieceNum f p)

/-- A piece has weights (R225). -/
def pieceWeights (f : List Byte) (p : Nat) : Bool :=
  pieceDynamic f p || pieceExpert f p || pieceBlock0 f p != 0xFFFFFFFF

/-- Record size of BLOCKS (R227): 3,200 when a piece with resident blocks is analog. -/
def blockRecord (f : List Byte) : Nat :=
  if (List.range (nPieces f)).any fun p =>
      numAnalog (pieceNum f p) && !pieceDynamic f p && !pieceExpert f p && pieceBlock0 f p != 0xFFFFFFFF
  then 3200 else 640

/-- Group size in elements (R115); no group scales count as 64. -/
def groupSize (n : Nat) : Nat := if numGroup n = 1 then 32 else if numGroup n = 3 then 128 else 64

/-- Groups of a reduction (R117). -/
def nGroups (f : List Byte) (p : Nat) : Nat := (pieceRed f p + groupSize (pieceNum f p) - 1) / groupSize (pieceNum f p)

def scaleWordAt (f : List Byte) (p j g : Nat) : Nat :=
  fileNat f ((sect f 3).off + 4 * (pieceScale0 f p + j * nGroups f p + g)) 4

def rqWordAt (f : List Byte) (p j : Nat) : Nat := fileNat f ((sect f 4).off + 8 * (pieceRq0 f p + j)) 8

/-- Tracker word of a slot and its fields (R127). -/
def nSlots (f : List Byte) : Nat := (sect f 5).count
def trackWord (f : List Byte) (i : Nat) : Nat := fileNat f ((sect f 5).off + 4 * i) 4
def trackN (w : Nat) : Nat := w % 16 + 1
def trackD (w : Nat) : Nat := w / 16 % 16 + 1
def trackLo (w : Nat) : Int := signedOf 5 (w / 2 ^ 8)
def trackHi (w : Nat) : Int := signedOf 5 (w / 2 ^ 13)
def trackInit (w : Nat) : Int := signedOf 5 (w / 2 ^ 18)

/-- GRAPH records (R228). -/
def nStreams (f : List Byte) : Nat := (sect f 7).count
def streamOff (f : List Byte) (i : Nat) : Nat := (sect f 7).off + 32 * i
def streamProd (f : List Byte) (i : Nat) : Nat := fileNat f (streamOff f i) 2
def streamCons (f : List Byte) (i : Nat) : Nat := fileNat f (streamOff f i + 2) 2
def streamClass (f : List Byte) (i : Nat) : Nat := fileNat f (streamOff f i + 4) 1
def streamPrio (f : List Byte) (i : Nat) : Nat := fileNat f (streamOff f i + 5) 1
def streamInflight (f : List Byte) (i : Nat) : Nat := fileNat f (streamOff f i + 8) 4
def streamEscape (f : List Byte) (i : Nat) : Nat := fileNat f (streamOff f i + 12) 4
def streamBytes (f : List Byte) (i : Nat) : Nat := fileNat f (streamOff f i + 16) 8

/-- An activation stream: not of class WEIGHT, SCALE or EXPERT (R519). -/
def streamActivation (f : List Byte) (i : Nat) : Bool :=
  streamClass f i != 0 && streamClass f i != 1 && streamClass f i != 6

/-- EXPERTS records (R251). -/
def nExperts (f : List Byte) : Nat := (sect f 8).count
def expertOff (f : List Byte) (i : Nat) : Nat := (sect f 8).off + 32 * i
def expertIndex (f : List Byte) (i : Nat) : Nat := fileNat f (expertOff f i) 4
def expertSet (f : List Byte) (i : Nat) : Nat := fileNat f (expertOff f i + 4) 2
def expertSpool (f : List Byte) (i : Nat) : Nat := fileNat f (expertOff f i + 6) 2
def expertFrom (f : List Byte) (i : Nat) : Nat := fileNat f (expertOff f i + 8) 8
def expertLen (f : List Byte) (i : Nat) : Nat := fileNat f (expertOff f i + 16) 8

/-- The EXPERTS record of an expert of a set. -/
def expertRec (f : List Byte) (set idx : Nat) : Option Nat :=
  (List.range (nExperts f)).find? fun i => expertSet f i == set && expertIndex f i == idx

/-- Stripe widths, widest first (R257). -/
def stripes (f : List Byte) : List Nat := (List.range (sect f 9).count).map fun i => fileNat f ((sect f 9).off + 4 * i) 4

/-- Whether the pattern holds an analog piece (R41). -/
def patAnalog (f : List Byte) : Bool := (List.range (nPieces f)).any fun p => numAnalog (pieceNum f p) && !pieceVuOnly f p

/-- The layout of the host input (PRODUCER = 0xFFFF) or output streams: (stream, offset), each from the next multiple of
4 KiB (R343). -/
def regionLayout (f : List Byte) (input : Bool) : List (Nat × Nat) × Nat :=
  (List.range (nStreams f)).foldl (fun acc i =>
    if (if input then streamProd f i else streamCons f i) == 0xFFFF then
      (acc.1 ++ [(i, (acc.2 + 4095) / 4096 * 4096)], (acc.2 + 4095) / 4096 * 4096 + streamBytes f i)
    else acc) ([], 0)

/-- Bytes of the input region and of the output region that a work item needs. -/
def inputSize (f : List Byte) : Nat := (regionLayout f true).2
def outputSize (f : List Byte) : Nat := (regionLayout f false).2

/-! ### Numbers (R109–R125) -/

def fmtBits4 (a : Nat) : Bool := a == 2 || a == 3

/-- Element `i` of a stream in an activation format (R517). -/
def elemAt (fmt : Nat) (bs : List Byte) (i : Nat) : Int :=
  match fmt with
  | 0 => ((bs.getD i 0).toNat : Int)
  | 1 => signedOf 8 (bs.getD i 0).toNat
  | 2 => (((bs.getD (i / 2) 0).toNat / 16 ^ (i % 2) % 16 : Nat) : Int)
  | 3 => signedOf 4 ((bs.getD (i / 2) 0).toNat / 16 ^ (i % 2))
  | _ => (((bs.getD i 0).toNat % 64 : Nat) : Int)

/-- Elements of a stream of bytes (R517). -/
def elems (fmt : Nat) (bs : List Byte) : List Int :=
  (List.range (if fmtBits4 fmt then 2 * bs.length else bs.length)).map (elemAt fmt bs)

/-- Activation format of a piece's A_FMT: how many input slices carry one element (R80). -/
def actBits (fmt : Nat) : Nat := if fmtBits4 fmt then 4 else 8

/-- round_shift (R125). -/
def roundShift (rnd : Bool) (p : Int) (s : Nat) : Int :=
  if s = 0 then p
  else
    let q := p / (2 ^ s : Int)
    let r := p - q * 2 ^ s
    let h : Int := 2 ^ (s - 1)
    if r > h || (r == h && (if rnd then 0 ≤ p else q % 2 == 1)) then q + 1 else q

def clampInt (lo hi v : Int) : Int := if v < lo then lo else if hi < v then hi else v

/-- Range of an output format (R111). -/
def outLo (fmt : Nat) : Int := match fmt with | 0 => 0 | 1 => -128 | 2 => 0 | 3 => -8 | _ => -2147483648
def outHi (fmt : Nat) : Int := match fmt with | 0 => 255 | 1 => 127 | 2 => 15 | 3 => 7 | _ => 2147483647

/-- Scaled term t of a group sum under a scale word (R115, R116). -/
def scaleTerm (rnd : Bool) (g : Int) (word : Nat) : Int := roundShift rnd (g * (word % 2 ^ 16 : Nat)) (word / 2 ^ 16 % 64)

/-- The accumulator value and whether its clamp acted (R122). -/
def accClamp (sum : Int) : Int × Bool :=
  (clampInt (-(2 ^ 47)) (2 ^ 47 - 1) sum, sum < -(2 ^ 47) || 2 ^ 47 - 1 < sum)

/-- An output element and whether it is saturated (R122–R126): the reduction sum, the numeric record, its requantisation
word, and the exponents in force for its output and input tensors. -/
def outputElem (num rq : Nat) (eOut eIn : Int) (sum : Int) : Int × Bool :=
  let (a, c) := accClamp sum
  if numOutFmt num = 4 then
    (clampInt (-(2 ^ 31)) (2 ^ 31 - 1) a, c || a < -(2 ^ 31) || 2 ^ 31 - 1 < a)
  else
    let v := roundShift (numRnd num) (a * (rq % 2 ^ 31 : Nat)) (((rq / 2 ^ 32 % 64 : Nat) : Int) + eOut - eIn).toNat + numZout num
    (clampInt (outLo (numOutFmt num)) (outHi (numOutFmt num)) v,
     c || v < outLo (numOutFmt num) || outHi (numOutFmt num) < v)

/-- One element's contribution to the observation of its slot (R129): |round_shift(A × M, S)|, clamped to 32 bits. -/
def observe (num rq : Nat) (sum : Int) : Nat :=
  min (roundShift (numRnd num) ((accClamp sum).1 * (rq % 2 ^ 31 : Nat)) (rq / 2 ^ 32 % 64)).natAbs 0xFFFFFFFF

/-- Packed bytes of output elements (R111, R518). -/
def packOut (fmt : Nat) : List Int → List Byte
  | [] => []
  | x :: xs =>
    if fmt = 4 then leBytes 4 (wrap 32 x) ++ packOut fmt xs
    else if fmtBits4 fmt then
      (match xs with
       | [] => [BitVec.ofNat 8 (wrap 4 x)]
       | y :: ys => BitVec.ofNat 8 (wrap 4 x + 16 * wrap 4 y) :: packOut fmt ys)
    else BitVec.ofNat 8 (wrap 8 x) :: packOut fmt xs

/-- Bytes that `n` output elements take. -/
def outBytes (fmt n : Nat) : Nat := if fmt = 4 then 4 * n else if fmtBits4 fmt then (n + 1) / 2 else n

end Sys2Proof.Machine
end

