-- ==== Sys2Proof/Machine/Digest.lean ====
section
/-! DEFINITION. The content digest of a pattern file (R224): SHA-384. The spec names the function and does not write it out; it is
taken from its defining standard, FIPS 180-4 (PRESUMED, assumption 3). -/
namespace Sys2Proof.Machine

/-- A word of the digest. -/
abbrev W64 := BitVec 64

/-- The eight working variables. -/
structure Sha where
  a : W64
  b : W64
  c : W64
  d : W64
  e : W64
  f : W64
  g : W64
  h : W64
  deriving DecidableEq, Repr

/-- The primes below 410: the first 80. -/
def shaPrimes : List Nat :=
  (List.range 410).filter fun n => 1 < n && (List.range 21).all fun d => d < 2 || n ≤ d || n % d != 0

/-- The largest r with r to the k-th at most n, found bit by bit from the top. -/
def rootFloor (k n : Nat) : Nat → Nat → Nat
  | 0, r => r
  | b + 1, r => rootFloor k n b (if (r + 2 ^ b) ^ k ≤ n then r + 2 ^ b else r)

/-- The first 64 bits of the fractional part of the k-th root of p, whose whole part is below 32. -/
def rootFraction (k p : Nat) : W64 := BitVec.ofNat 64 (rootFloor k (p * 2 ^ (64 * k)) 69 0)

/-- The digest's starting value: square roots of the 9th to the 16th prime. -/
def shaStart : Sha :=
  let v := fun i => rootFraction 2 (shaPrimes.getD i 0)
  { a := v 8, b := v 9, c := v 10, d := v 11, e := v 12, f := v 13, g := v 14, h := v 15 }

/-- The round constants: cube roots of the first 80 primes. -/
def shaK : List W64 := shaPrimes.map (rootFraction 3)

/-- One more word of the message schedule, the newest first. -/
def shaNext (w : List W64) : List W64 :=
  let mix := fun (x : W64) (r q n : Nat) => x.rotateRight r ^^^ x.rotateRight q ^^^ x >>> n
  (mix (w.getD 1 0) 19 61 6 + w.getD 6 0 + mix (w.getD 14 0) 1 8 7 + w.getD 15 0) :: w

/-- The 80 words of a block of 16, in order. -/
def shaSchedule (block : List W64) : List W64 := ((List.range 64).foldl (fun w _ => shaNext w) block.reverse).reverse

/-- One round, with its constant and its word. -/
def shaRound (v : Sha) (kw : W64 × W64) : Sha :=
  let turn := fun (x : W64) (p q r : Nat) => x.rotateRight p ^^^ x.rotateRight q ^^^ x.rotateRight r
  let t := v.h + turn v.e 14 18 41 + ((v.e &&& v.f) ^^^ (~~~v.e &&& v.g)) + kw.1 + kw.2
  let u := turn v.a 28 34 39 + ((v.a &&& v.b) ^^^ (v.a &&& v.c) ^^^ (v.b &&& v.c))
  ⟨t + u, v.a, v.b, v.c, v.d + t, v.e, v.f, v.g⟩

/-- One block taken into the digest. -/
def shaBlock (v : Sha) (block : List W64) : Sha :=
  let x := (shaK.zip (shaSchedule block)).foldl shaRound v
  ⟨v.a + x.a, v.b + x.b, v.c + x.c, v.d + x.d, v.e + x.e, v.f + x.f, v.g + x.g, v.h + x.h⟩

/-- Bytes as one number, the first the most significant. -/
def beNat (l : List Byte) : Nat := leNat l.reverse

/-- The message with its padding, in blocks of 128 bytes. -/
def shaPadded (l : List Byte) : List Byte :=
  l ++ ((0x80 : Byte) :: List.replicate ((239 - l.length % 128) % 128) 0) ++ (leBytes 16 (8 * l.length)).reverse

/-- The 16 words of block i. -/
def shaWords (l : List Byte) (i : Nat) : List W64 :=
  (List.range 16).map fun j => BitVec.ofNat 64 (beNat ((l.drop (128 * i + 8 * j)).take 8))

/-- The 48 bytes of the digest, in the standard's order (R4). -/
def sha384 (l : List Byte) : List Byte :=
  let m := shaPadded l
  let v := (List.range (m.length / 128)).foldl (fun v i => shaBlock v (shaWords m i)) shaStart
  let six := v.f.toNat + 2 ^ 64 * (v.e.toNat + 2 ^ 64 * (v.d.toNat + 2 ^ 64 * (v.c.toNat + 2 ^ 64 * (v.b.toNat + 2 ^ 64 * v.a.toNat))))
  (leBytes 48 six).reverse

end Sys2Proof.Machine
end

