-- ==== Sys2Proof/Machine/Check.lean ====
section
/-! DEFINITION. The content checks of LOAD_PATTERN on a pattern file (R114, R128, R222–R230, R251, R257, R517–R519). -/
namespace Sys2Proof.Machine

/-! ### The graph (R228) -/

/-- The graph's edges: streams between pieces, those without an escape buffer only where `bare`. -/
def graphEdges (f : List Byte) (bare : Bool) : List (Nat × Nat) :=
  ((List.range (nStreams f)).filter fun i =>
      streamProd f i != 0xFFFF && streamCons f i != 0xFFFF && !(bare && streamEscape f i != 0)).map
    fun i => (streamProd f i, streamCons f i)

/-- Nodes reachable from a list of nodes in at most k steps. -/
def reach (es : List (Nat × Nat)) : Nat → List Nat → List Nat
  | 0, l => l
  | k + 1, l => reach es k (l ++ ((es.filter fun e => l.contains e.1 && !l.contains e.2).map (·.2)).eraseDups)

/-- The edge lies on a cycle: its head reaches its tail. -/
def onCycle (es : List (Nat × Nat)) (e : Nat × Nat) : Bool := (reach es es.length [e.2]).contains e.1

/-- The stream is cyclic (R228). -/
def cyclicStream (f : List Byte) (i : Nat) : Bool :=
  streamProd f i != 0xFFFF && streamCons f i != 0xFFFF && onCycle (graphEdges f false) (streamProd f i, streamCons f i)

/-- A cyclic stream that does not lead to a later stage: it carries activations fed back (R247 class RECUR). -/
def fedBack (f : List Byte) (i : Nat) : Bool :=
  cyclicStream f i && pieceStage f (streamCons f i) ≤ pieceStage f (streamProd f i)

/-! ### Shapes (R517–R519) -/

/-- Activation streams that a piece consumes, in ascending order (R519). -/
def inStreams (f : List Byte) (p : Nat) : List Nat :=
  (List.range (nStreams f)).filter fun i => streamCons f i == p && streamActivation f i

/-- Streams of class WEIGHT, SCALE or EXPERT that a piece consumes (R519). -/
def weightStreams (f : List Byte) (p : Nat) : List Nat :=
  (List.range (nStreams f)).filter fun i => streamCons f i == p && !streamActivation f i

/-- The stream that brings a DYNAMIC_W piece its weights (R519, R242): one of class WEIGHT where there is one (assumption 93). -/
def weightStream (f : List Byte) (p : Nat) : Option Nat :=
  match (weightStreams f p).find? fun i => streamClass f i == 0 with
  | some i => some i
  | none => (weightStreams f p).head?

def outStreams (f : List Byte) (p : Nat) : List Nat := (List.range (nStreams f)).filter fun i => streamProd f i == p

/-- Elements of a piece's input (R517, R519). -/
def inputElems (f : List Byte) (p : Nat) : Nat :=
  ((inStreams f p).map fun i => if fmtBits4 (numAFmt (pieceNum f p)) then 2 * streamBytes f i else streamBytes f i).foldl (· + ·) 0

/-- Input vectors n_v, one output vector each (R517, R518). -/
def nVecs (f : List Byte) (p : Nat) : Nat := (inputElems f p + pieceRed f p - 1) / pieceRed f p

/-- Row groups in use in a set (R226). -/
def setRows (f : List Byte) (p j : Nat) : Nat := min (setGroups (pieceNum f p)) (pieceGroups f p - j * setGroups (pieceNum f p))

/-! ### Vector-unit programs (R223) -/

/-- Lengths of the programs of VUPROG from an offset on; none where they do not fill the section. -/
def vuProgs (f : List Byte) (fin : Nat) : Nat → Nat → Option (List (Nat × Nat))
  | 0, a => if a = fin then some [] else none
  | k + 1, a =>
    if fin < a + 4 then none
    else
      let n := fileNat f a 4
      if fin < a + 4 + n then none else (vuProgs f fin k (a + 4 + n)).map ((a + 4, n) :: ·)

def vuTable (f : List Byte) : Option (List (Nat × Nat)) := vuProgs f ((sect f 6).off + (sect f 6).size) (sect f 6).count (sect f 6).off

/-- Bytes of a vector-unit program. -/
def vuBytes (f : List Byte) (n : Nat) : List Byte :=
  match ((vuTable f).getD [])[n]? with
  | some (a, k) => fileN f a k
  | none => []

/-! ### Check 1 and the header (R222, R223, R229) -/

def zeroBytes (f : List Byte) (off n : Nat) : Bool := (fileN f off n).all (· == 0)

/-- Check 1 of R229: MAGIC, VERSION, FILE_SIZE equal to the bytes read, section bounds within it. -/
def headOk (f : List Byte) : Bool :=
  64 ≤ f.length && fileNat f 0 4 == 0x31465056 && fileNat f 4 2 == 1 && patSize f == f.length
    && 64 + 24 * sectionCount f ≤ f.length && (sects f).all fun x => x.off + x.size ≤ f.length

/-- The file with its DIGEST field at 0 (R224). -/
def digested (f : List Byte) : List Byte := f.take 16 ++ List.replicate 48 0 ++ f.drop 64

/-- Record bytes of a section type (R223); 0 where records vary. -/
def recordBytes_ (f : List Byte) (t : Nat) : Nat :=
  match t with
  | 1 => 64 | 2 => blockRecord f | 3 => 4 | 4 => 8 | 5 => 4 | 7 => 32 | 8 => 32 | 9 => 4 | _ => 0

/-- The section table (R222, R223): PIECES and GRAPH are there, each type once. DESIGN CHOICE: a section that the pattern does not
need is accepted, since no rule refuses it (assumption 107). -/
def sectionsOk (f : List Byte) : Bool :=
  2 ≤ sectionCount f && sectionCount f ≤ 16
    && (List.range (sectionCount f)).all (fun i => fileNat f (66 + 24 * i) 2 == 0)
    && (sects f).all (fun x => 1 ≤ x.type && x.type ≤ 9 && x.off % 64 == 0
        && (if x.type == 6 then (vuTable f).isSome else x.size == x.count * recordBytes_ f x.type))
    && ((sects f).map (·.type)).eraseDups.length == sectionCount f
    && (sects f).any (·.type == 1) && (sects f).any (·.type == 7)

/-! ### Pieces (R113, R114, R225, R230) -/

def zxMax (a : Nat) : Nat := match a with | 0 => 255 | 2 => 15 | 4 => 63 | _ => 0
def zoutMax (o : Nat) : Nat := match o with | 0 => 255 | 2 => 15 | _ => 0

/-- The numeric record (R113, R114). -/
def numOk (n : Nat) : Bool :=
  n / 2 % 2 ^ 7 == 0 && n / 2 ^ 16 % 4 == 0 && n / 2 ^ 20 % 16 == 0 && n / 2 ^ 29 % 8 == 0
    && numAFmt n ≤ 4 && numWFmt n ≤ 3 && numOutFmt n ≤ 4
    && (if numAnalog n then numAFmt n == 4 && numWFmt n == 3 && numGroup n != 1 else numAFmt n != 4 && numWFmt n != 3)
    && numZx n ≤ zxMax (numAFmt n) && numZout n ≤ zoutMax (numOutFmt n)
    && (numTrackIn n < 32 || numTrackIn n == 0xFF) && (numTrackOut n < 32 || numTrackOut n == 0xFF)

/-- A piece takes its blocks from BLOCKS (R225). -/
def pieceResident (f : List Byte) (p : Nat) : Bool := !pieceDynamic f p && !pieceExpert f p && pieceBlock0 f p != 0xFFFFFFFF

/-- Where a piece's weights come from, or that it has none (R225). -/
def weightsOk (f : List Byte) (p : Nat) : Bool :=
  if pieceDynamic f p || pieceExpert f p then
    pieceBlock0 f p == 0xFFFFFFFF && !(pieceExpert f p && pieceSet f p == 0xFFFF)
  else if pieceBlock0 f p == 0xFFFFFFFF then pieceVuOnly f p && pieceVu f p != 0xFFFF
  else pieceBlock0 f p + nPasses f p * nSets f p ≤ (sect f 2).count

/-- Every word of a section of n-byte words meets `p`. -/
def wordsOk (f : List Byte) (type n : Nat) (p : Nat → Bool) : Bool :=
  (List.range (sect f type).count).all fun i => p (fileNat f ((sect f type).off + n * i) n)

/-- Every scale word has its reserved bits 0 (R114, R116). -/
def scaleWordOk (w : Nat) : Bool := w / 2 ^ 22 % 4 == 0

/-- Every requantisation word has its reserved bits 0, M not 0 and S not 63 (R114, R124). -/
def rqWordOk (w : Nat) : Bool := w / 2 ^ 38 == 0 && !w.testBit 31 && w % 2 ^ 31 != 0 && w / 2 ^ 32 % 64 != 63

/-- A piece's scale words lie inside SCALES, each with its group's index mod 256 as its tag (R114, R116, R117). -/
def scalesOk (f : List Byte) (p : Nat) : Bool :=
  if numGroup (pieceNum f p) = 0 then pieceScale0 f p == 0xFFFFFFFF
  else
    pieceScale0 f p != 0xFFFFFFFF && pieceScale0 f p + pieceGroups f p * nGroups f p ≤ (sect f 3).count
      && (List.range (pieceGroups f p)).all fun j => (List.range (nGroups f p)).all fun g =>
        scaleWordAt f p j g / 2 ^ 24 == g % 256

/-- A piece's requantisation words lie inside REQUANT (R124). -/
def rqOk (f : List Byte) (p : Nat) : Bool :=
  if numOutFmt (pieceNum f p) = 4 then pieceRq0 f p == 0xFFFFFFFF
  else pieceRq0 f p != 0xFFFFFFFF && pieceRq0 f p + pieceGroups f p ≤ (sect f 4).count

/-- Exact blocks in 3,200-byte records end in zeros (R227). DESIGN CHOICE: stored check values of row groups that the block does
not use may hold anything, and no load compares them (assumption 120). -/
def paddingOk (f : List Byte) (p : Nat) : Bool :=
  if pieceResident f p && !numAnalog (pieceNum f p) && blockRecord f = 3200 then
    (List.range (nPasses f p * nSets f p)).all fun b => zeroBytes f ((sect f 2).off + 3200 * (pieceBlock0 f p + b) + 640) 2560
  else true

/-- Output streams of a piece without a program carry its tensor (R518). -/
def outBytesOk (f : List Byte) (p : Nat) : Bool :=
  pieceVu f p != 0xFFFF
    || (outStreams f p).all fun i => streamBytes f i == outBytes (numOutFmt (pieceNum f p)) (nVecs f p * pieceGroups f p)

/-- A piece record and all that it points at. -/
def pieceOk (f : List Byte) (p : Nat) : Bool :=
  pieceStage f p < 256 && pieceFlags f p < 16 && zeroBytes f (pieceOff f p + 4) 4 && zeroBytes f (pieceOff f p + 49) 15
    && numOk (pieceNum f p)
    && 1 ≤ pieceRed f p && pieceRed f p ≤ 1048576
    && (numGroup (pieceNum f p) != 3 || nPasses f p % 2 == 0)
    && 1 ≤ pieceGroups f p && 1 ≤ pieceRepMin f p && pieceRepMin f p ≤ 44 && pieceRepMin f p ≤ pieceRepMax f p
    && pieceRepMax f p ≤ 48
    && (pieceVu f p == 0xFFFF || decide (pieceVu f p < (sect f 6).count))
    && weightsOk f p && scalesOk f p && rqOk f p && paddingOk f p && outBytesOk f p

/-! ### The scale tracker (R127, R128) -/

/-- S + e_out − e_in stays in 0–62 for a reference shift S (R128). -/
def shiftOk (f : List Byte) (num s : Nat) : Bool :=
  let lo := fun (t : Nat) => if t = 0xFF then (0 : Int) else trackLo (trackWord f t)
  let hi := fun (t : Nat) => if t = 0xFF then (0 : Int) else trackHi (trackWord f t)
  let o := numTrackOut num
  let i := numTrackIn num
  if o = i then true
  else
    0 ≤ (s : Int) + lo o && (s : Int) + hi o ≤ 62 && 0 ≤ (s : Int) - hi i && (s : Int) - lo i ≤ 62
      && 0 ≤ (s : Int) + lo o - hi i && (s : Int) + hi o - lo i ≤ 62

/-- A piece's tracker references (R128). -/
def trackOk (f : List Byte) (p : Nat) : Bool :=
  let n := pieceNum f p
  if numTrackIn n = 0xFF && numTrackOut n = 0xFF then true
  else
    numOutFmt n != 4 && (numTrackIn n = 0xFF || numTrackIn n < nSlots f) && (numTrackOut n = 0xFF || numTrackOut n < nSlots f)
      && (numTrackOut n = 0xFF || numOutFmt n == 1 || numOutFmt n == 3 || numZout n == 0)
      && (List.range (pieceGroups f p)).all fun j => shiftOk f n (rqWordAt f p j / 2 ^ 32 % 64)

/-- A slot is the output of one producing piece, none of it a final output, which at least one piece takes as its input, with no
other activation stream beside it (R127; the last DESIGN CHOICE, assumption 113: the rule does not say that an input may mix). -/
def slotUse (f : List Byte) (i : Nat) : Bool :=
  match (List.range (nPieces f)).filter fun p => numTrackOut (pieceNum f p) == i with
  | [p] =>
    let takers := (List.range (nPieces f)).filter fun c => numTrackIn (pieceNum f c) == i
    (outStreams f p).all (fun j => streamCons f j != 0xFFFF) && !takers.isEmpty
      && takers.all fun c => !(inStreams f c).isEmpty && (inStreams f c).all fun j => streamProd f j == p
  | _ => false

def slotsOk (f : List Byte) : Bool :=
  nSlots f ≤ 32
    && ((List.range (nSlots f)).all fun i =>
      let w := trackWord f i
      w / 2 ^ 23 == 0 && trackLo w ≤ trackInit w && trackInit w ≤ trackHi w)
    && (List.range (nSlots f)).all (slotUse f)

/-! ### Streams, experts, stripes (R228, R229, R251, R257) -/

def streamOk (f : List Byte) (i : Nat) : Bool :=
  (streamProd f i < nPieces f || streamProd f i == 0xFFFF) && (streamCons f i < nPieces f || streamCons f i == 0xFFFF)
    && streamClass f i < 8 && streamPrio f i < 16 && zeroBytes f (streamOff f i + 6) 2 && zeroBytes f (streamOff f i + 24) 8
    && (streamProd f i == 0xFFFF || streamCons f i == 0xFFFF || cyclicStream f i
        || pieceStage f (streamProd f i) ≤ pieceStage f (streamCons f i))

def expertsOk (f : List Byte) : Bool :=
  nExperts f ≤ 1048576 && (List.range (nExperts f)).all fun i => expertSpool f i < 16 && zeroBytes f (expertOff f i + 24) 8

/-- Widths are nonzero multiples of 512 in strictly decreasing order. -/
def stripesFrom : List Nat → Bool
  | [] => true
  | w :: ws => w != 0 && w % 512 == 0 && (match ws with | [] => true | v :: _ => decide (v < w)) && stripesFrom ws

def stripesOk (f : List Byte) : Bool :=
  !(sects f).any (·.type == 9) || (!(stripes f).isEmpty && stripesFrom (stripes f))

/-- Check 3 of R229, the limits on loaded patterns apart. -/
def contentOk (f : List Byte) : Bool :=
  sectionsOk f && wordsOk f 3 4 scaleWordOk && wordsOk f 4 8 rqWordOk && nPieces f ≤ 65535 && nStreams f ≤ 65535 && (List.range (nPieces f)).all (pieceOk f) && slotsOk f
    && (List.range (nPieces f)).all (trackOk f) && (List.range (nStreams f)).all (streamOk f) && expertsOk f && stripesOk f

/-- Check 4: every cycle has a stream with an escape buffer. -/
def escapesOk (f : List Byte) : Bool :=
  let es := graphEdges f true
  es.all fun e => !onCycle es e

/-- Escape credits of a pattern in bytes (R228, R247). -/
def escapeBytes (f : List Byte) : Nat := ((List.range (nStreams f)).map fun i => 4096 * streamEscape f i).foldl (· + ·) 0

end Sys2Proof.Machine
end

