-- ==== Sys2Proof/Machine/Stream.lean ====
section
/-! DEFINITION. What work items have left to do, and the streams between their pieces (R228, R517–R519): what is ready, what it
carries, and the runs of a reduction that is split (R232). -/
namespace Sys2Proof.Machine

/-! ### Pieces of a work item -/

/-- Every element of a piece is finished. -/
def elemsDone (f : List Byte) (w : Work) (p : Nat) : Bool :=
  (w.elems.filter (·.piece == p)).length == nVecs f p * pieceGroups f p

/-- Every element of vector v of a piece is finished. -/
def vecDone (f : List Byte) (w : Work) (p v : Nat) : Bool :=
  (List.range (pieceGroups f p)).all fun j => w.elems.any fun e => e.piece == p && e.vec == v && e.group == j

/-- A piece has finished for the work item. -/
def pieceDone (f : List Byte) (w : Work) (p : Nat) : Bool :=
  if pieceVuOnly f p then w.vuDone.contains p else elemsDone f w p

def streamReady (f : List Byte) (w : Work) (i : Nat) : Bool :=
  if streamProd f i = 0xFFFF then w.stage != .fetching else pieceDone f w (streamProd f i)

/-- A piece's inputs are there: its activations, and every stream that brings a DYNAMIC_W piece its weights (R519). What is fed
back is asked for vector by vector. -/
def pieceReady (f : List Byte) (w : Work) (p : Nat) : Bool :=
  w.stage == .running && (inStreams f p).all (fun i => fedBack f i || streamReady f w i)
    && (!pieceDynamic f p || (!(weightStreams f p).isEmpty && (weightStreams f p).all (streamReady f w)))

/-- Every piece has finished: the last pass has committed (R292). -/
def workDone (f : List Byte) (w : Work) : Bool := (List.range (nPieces f)).all (pieceDone f w)

/-- The piece takes its blocks from an expert spool: each vector has its expert (R225, R250). -/
def pieceRouted (f : List Byte) (p : Nat) : Bool := pieceExpert f p && !pieceDynamic f p

/-- An operand vector carries two vectors: 4-bit activations (R79, R517). DESIGN CHOICE: an expert piece's is issued for each of
its two vectors apart, for their experts may differ (assumption 29). -/
def pairedVecs (f : List Byte) (p : Nat) : Bool := fmtBits4 (numAFmt (pieceNum f p)) && !pieceRouted f p

/-- Operand vectors of a piece. -/
def operandVecs (f : List Byte) (p : Nat) : Nat := if pairedVecs f p then (nVecs f p + 1) / 2 else nVecs f p

/-- The vectors that an issue of an operand vector is for: two for 4-bit activations. -/
def vecsOf (f : List Byte) (p vec : Nat) : List Nat :=
  (if pairedVecs f p then [2 * vec, 2 * vec + 1] else [vec]).filter (· < nVecs f p)

/-! ### Activations that are fed back (R228, R247)

A vector of a piece, and the vectors that it is made of. Where a vector would be made of itself no vector comes first, and
the elements concerned have an initial value, which the spec does not state (assumption 30). -/

/-- Elements of a stream as its consumer takes them. -/
def streamElems (f : List Byte) (p i : Nat) : Nat := if fmtBits4 (numAFmt (pieceNum f p)) then 2 * streamBytes f i else streamBytes f i

/-- Elements of the activation streams before stream i in a piece's input (R519). -/
def streamBase (f : List Byte) (p i : Nat) : Nat := (((inStreams f p).filter (· < i)).map (streamElems f p)).foldl (· + ·) 0

/-- The producing piece and vector of an element of a stream: none for host input. A program writes a whole tensor. -/
def elemNode (f : List Byte) (i k : Nat) : List (Nat × Nat) :=
  let q := streamProd f i
  if q = 0xFFFF then [] else if pieceVu f q != 0xFFFF then [(q, 0)] else [(q, k / max 1 (pieceGroups f q))]

/-- The elements of stream i that a node of its consumer takes. -/
def nodeElems (f : List Byte) (n : Nat × Nat) (i : Nat) : List Nat :=
  let r := pieceRed f n.1
  (List.range (streamElems f n.1 i)).filter fun k =>
    pieceVu f n.1 != 0xFFFF || (n.2 * r ≤ streamBase f n.1 i + k && streamBase f n.1 i + k < (n.2 + 1) * r)

/-- What a node is made of. -/
def nodeDeps (f : List Byte) (n : Nat × Nat) : List (Nat × Nat) :=
  ((inStreams f n.1).flatMap fun i => (nodeElems f n i).flatMap (elemNode f i)).eraseDups

/-- Nodes that a list of nodes is made of, in at most k steps. -/
def depReach (f : List Byte) : Nat → List (Nat × Nat) → List (Nat × Nat)
  | 0, l => l
  | k + 1, l => depReach f k (l ++ ((l.flatMap (nodeDeps f)).filter (!l.contains ·)).eraseDups)

/-- Vectors of all pieces. -/
def allVecs (f : List Byte) : Nat := ((List.range (nPieces f)).map (nVecs f)).foldl (· + ·) 0

/-- Element k of stream i would be made of vector v of its own consumer. -/
def selfFed (f : List Byte) (p v i k : Nat) : Bool :=
  (depReach f (allVecs f) (elemNode f i k)).contains (p, if pieceVu f p != 0xFFFF then 0 else v)

/-- The element has been written. -/
def elemReady (f : List Byte) (w : Work) (i k : Nat) : Bool :=
  let q := streamProd f i
  if q = 0xFFFF || pieceVu f q != 0xFFFF then streamReady f w i
  else w.elems.any fun e => e.piece == q && e.vec == k / max 1 (pieceGroups f q) && e.group == k % max 1 (pieceGroups f q)

/-- What is fed back to vector v of a piece is there. -/
def feedReady (f : List Byte) (w : Work) (p v : Nat) : Bool :=
  ((inStreams f p).filter (fedBack f)).all fun i =>
    (nodeElems f (p, v) i).all fun k => selfFed f p v i k || elemReady f w i k

/-! ### What streams carry (R517–R519) -/

/-- A list of exactly n bytes: cut, or filled with zeros. -/
def fitBytes (n : Nat) (l : List Byte) : List Byte := (l ++ List.replicate (n - l.length) 0).take n

/-- A finished element of a piece. -/
def elemOf (w : Work) (p v j : Nat) : Int :=
  ((w.elems.find? fun e => e.piece == p && e.vec == v && e.group == j).map (·.value)).getD 0

/-- The output tensor of a piece, vector by vector (R518). -/
def pieceTensor (f : List Byte) (w : Work) (p : Nat) : List Int :=
  ((List.range (nVecs f p)).map fun v => (List.range (pieceGroups f p)).map (elemOf w p v)).flatten

/-- Offset of a stream in the input region. -/
def inOffset (f : List Byte) (i : Nat) : Nat := (((regionLayout f true).1.find? (·.1 == i)).map (·.2)).getD 0

/-- What a stream carries for the work item. -/
def streamData (f : List Byte) (w : Work) (i : Nat) : List Byte :=
  if streamProd f i = 0xFFFF then memReadN w.input (inOffset f i) (streamBytes f i)
  else if pieceVu f (streamProd f i) = 0xFFFF then
    packOut (numOutFmt (pieceNum f (streamProd f i))) (pieceTensor f w (streamProd f i))
  else fitBytes (streamBytes f i) (((w.vuOut.find? (·.1 == i)).map (·.2)).getD [])

/-- The elements of an activation stream for its consumer; what has no first value is free (assumption 30). -/
def takenElems (f : List Byte) (w : Work) (p i : Nat) : List Int :=
  let fmt := numAFmt (pieceNum f p)
  let xs := elems fmt (streamData f w i)
  if fedBack f i then
    xs.mapIdx fun k x => if selfFed f p ((streamBase f p i + k) / pieceRed f p) i k then elemAt fmt [Config.fedBack f i k] 0 else x
  else xs

/-- A piece's input: its activation streams joined (R519). -/
def pieceInput (f : List Byte) (w : Work) (p : Nat) : List Int := ((inStreams f p).map (takenElems f w p)).flatten

/-- Exponent of a tracker slot for the work item; 0 where the tensor is not tracked (R124). -/
def expOf (w : Work) (slot : Nat) : Int := if slot = 0xFF then 0 else w.exps.getD slot 0

/-- Element x of logical vector v on each channel of a pass; 0 on unused channels, the zero point where missing (R85,
R517). -/
def passElems (f : List Byte) (p : Nat) (xs : List Int) (v pass : Nat) : List Int :=
  (List.range 64).map fun ch =>
    if 64 * pass + ch < pieceRed f p then xs.getD (v * pieceRed f p + 64 * pass + ch) (numZx (pieceNum f p)) else 0

/-! ### Runs (R232)

A replica's cores stand set by set, and within a set run by run. The reduction is cut into runs of whole scale groups. -/

/-- Passes of the smallest part that a run may hold: those of one scale group. -/
def runUnit (f : List Byte) (p : Nat) : Nat := if numGroup (pieceNum f p) = 3 then 2 else 1

/-- First pass of run r of `ways`; the pass after the last one for r = ways. -/
def runStart (f : List Byte) (p ways r : Nat) : Nat := min (nPasses f p) (runUnit f p * (r * ((nPasses f p + runUnit f p - 1) / runUnit f p) / ways))

/-- Runs into which a replica on these cores cuts the reduction. -/
def waysOf (f : List Byte) (p : Nat) (cores : List (Fin 48)) : Nat := max 1 (cores.length / max 1 (nSets f p))

/-- The run that a pass belongs to. -/
def runOf (f : List Byte) (p ways pass : Nat) : Nat :=
  ((List.range ways).filter fun r => runStart f p ways r ≤ pass).foldl max 0

/-- The cores that the work item has been dealt for a piece. -/
def Work.coresFor (w : Work) (p : Nat) : List (Fin 48) := ((w.dealt.find? (·.piece == p)).map (·.cores)).getD []

/-- On a replica's cores, the row-group set and the run that hold this pass stand on the core (R232). -/
def standsOn (f : List Byte) (p set pass : Nat) (core : Fin 48) (cores : List (Fin 48)) : Bool :=
  let ways := waysOf f p cores
  cores.zipIdx.any fun ci => ci.1 == core && ci.2 / ways == set && runOf f p ways pass == ci.2 % ways

/-- Passes committed for a set and vector. -/
def passSet (w : Work) (p set vec : Nat) : List Nat :=
  ((w.passes.find? fun x => x.piece == p && x.set == set && x.vec == vec).map (·.done)).getD []

/-- The next pass of the run that `pass` belongs to: its first that has not committed, or the one after its last. -/
def nextPass (f : List Byte) (w : Work) (p set pass vec : Nat) : Nat :=
  let ways := waysOf f p (w.coresFor p)
  let a := runStart f p ways (runOf f p ways pass)
  let b := runStart f p ways (runOf f p ways pass + 1)
  (((List.range (b - a)).map (a + ·)).find? fun q => !(passSet w p set vec).contains q).getD b

/-- Passes committed for a set and vector, over all runs. -/
def passesDone (w : Work) (p set vec : Nat) : Nat := (passSet w p set vec).length

/-- One more pass committed. -/
def Work.countPass (p set pass vec : Nat) (w : Work) : Work :=
  { w with passes := { piece := p, set := set, vec := vec, done := pass :: passSet w p set vec }
      :: w.passes.filter fun x => !(x.piece == p && x.set == set && x.vec == vec) }

/-- The other pass of a pass's group of 128. -/
def otherPass (q : Nat) : Nat := if q % 2 = 0 then q + 1 else q - 1

/-- Group sums in progress are given up: the next pass is the first of its group (R98). Only groups of 128 span passes. -/
def Work.rewind (f : List Byte) (p : Nat) (w : Work) : Work :=
  if numGroup (pieceNum f p) = 3 then
    { w with
      passes := w.passes.map fun x => if x.piece == p then { x with done := x.done.filter fun q => x.done.contains (otherPass q) } else x
      accs := w.accs.map fun a => if a.piece == p then { a with open_ := [] } else a }
  else w

/-- A group of 128 of the piece has had its first pass and not its second (R102). -/
def halfOpen (f : List Byte) (w : Work) (p : Nat) : Bool :=
  numGroup (pieceNum f p) == 3 && w.passes.any fun x => x.piece == p && x.done.any fun q => !x.done.contains (otherPass q)

end Sys2Proof.Machine
end

