-- ==== Sys2Proof/Machine/Place.lean ====
section
/-! DEFINITION. Passes discarded and reissued (R99, R100); issue duty (R245, R246); placement (R232–R239): which cores may take a
piece, how pieces are placed, dealt and moved, and how they leave cores. The spec leaves the choice among the cores that R232
allows to the Tailor; the model's choice is assumption 28. -/
namespace Sys2Proof.Machine

/-! ### Passes in flight -/

/-- A core may have passes of the work item in flight: it issues, it was dealt to the item, and the item has passes left with the
block it holds. -/
def mayFly (s : State) (core : Fin 48) (w : Work) : Bool :=
  let c := s.core core
  s.tiles[coreTile core].st == .locked && (c.st == .idle || c.st == .running)
    && (match c.block, s.pat? w.ctx w.pat with
      | some b, some x =>
        b.pat == x.handle && pieceReady x.file w b.piece && !pieceDone x.file w b.piece
          && standsOn x.file b.piece b.set b.pass core (w.coresFor b.piece)
          && (b.item.isNone || b.item == some (w.q, w.seq))
          && (List.range (operandVecs x.file b.piece)).any fun v => nextPass x.file w b.piece b.set b.pass v == b.pass
      | _, _ => false)

/-- Passes of a work item in flight on a core: a free number (assumption 14) of at most 44, one for each cycle of the path
(R62). -/
def flying (s : State) (core : Fin 48) (w : Work) : Nat :=
  if mayFly s core w then Config.inFlight s.free core.val w.q w.seq % 45 else 0

/-- Passes in flight on the cores are discarded and reissued (R99): each is a replay of its core, and the work items that had one
carry REPLAYED (R100). -/
def discardPasses (bad : Fin 48 → Bool) (s : State) : State :=
  let cores := (List.finRange 48).filter bad
  { cores.foldl (fun a c => updCore c (fun k => { k with
      replays := k.replays + BitVec.ofNat 32 ((s.works.map (flying s c)).foldl (· + ·) 0) }) a) s with
    works := s.works.map fun w =>
      if cores.any fun c => 0 < flying s c w then { w with flags := { w.flags with replayed := true } } else w
    free := s.free + 1 }

def onTile (t : Fin 12) (c : Fin 48) : Bool := coreTile c == t

/-- A LOCKED tile fogs (R161, R162): counted, cores DARK (R69), passes in flight discarded, dither on its rings stopped. -/
def fogTile (t : Fin 12) (cause : FogCause) (s : State) : State :=
  if s.tiles[t].st == .locked then
    updTile t (fun x =>
      let x := if (x.dith[0]).target = 1 then x.ditherOff else x
      { mapCores Core.darken x with
        st := .fogged, fogCause := some cause, fogCount := x.fogCount + 1, mayProbe := false, probeFails := 0
        waitRetry := false }) (discardPasses (onTile t) s)
  else s

/-- The tile relocks: LOCKED, gates open (R161, R164), in darkroom where one holds. -/
def lockTile (t : Fin 12) (s : State) : State :=
  updTile t (fun x => { mapCores Core.openGate (if x.barredBy &&& 3 == 0 then x else x.dimmed t.val) with
    st := .locked, fogCause := none, mayProbe := false, probeFails := 0, waitRetry := false }) s

/-- The tile is out of service until a calibration restores it (R161); its passes in flight are discarded (R99). -/
def quarantineTile (t : Fin 12) (s : State) : State :=
  updTile t (fun x => { tileDark x with st := .quarantined, outOfService := true }) (discardPasses (onTile t) s)

/-- The tile goes DARK; its passes in flight are discarded (R99). -/
def darkTile (t : Fin 12) (s : State) : State := updTile t tileDark (discardPasses (onTile t) s)

/-! ### Issue duty (R245, R246)

Powers in 1/1200 W, so that 0.40 W divides among one to four cores. A core's `drive` is POWER times its duty. -/

/-- The piece whose block a core holds: its power at full issue (R225). -/
def coreFull (s : State) (core : Fin 48) : Nat :=
  match (s.core core).block with
  | some b => (match s.pats.find? (·.handle == b.pat) with | some x => 12 * piecePower x.file b.piece | none => 0)
  | none => 0

def tileCores (t : Fin 12) : List (Fin 48) := (List.finRange 4).map (coreNum t)

/-- A tile's estimate: what its cores' duties draw, and its idle power. -/
def tileEstimate (s : State) (t : Fin 12) : Nat :=
  ((tileCores t).map fun c => (s.core c).drive).foldl (· + ·) 0 + 12 * Config.tileIdlePower t.val

/-- What the budget leaves to the cores of a tile, the other tiles' estimates and its own idle power apart. -/
def tileRoom (s : State) (t : Fin 12) : Nat :=
  s.hk.budget * 600 - (((List.finRange 12).filter (· != t)).map (tileEstimate s)).foldl (· + ·) 0 - 12 * Config.tileIdlePower t.val

/-- Values brought within a sum, in proportion. -/
def fitSum (room : Nat) (l : List Nat) : List Nat :=
  let sum := l.foldl (· + ·) 0
  if sum ≤ room then l else l.map fun v => v * room / sum

def CoreState.open_ (c : CoreState) : Bool := c == .idle || c == .loading || c == .running

/-- A higher controller has closed the core's gate, or the core waits for its resident's weights: no change of duty (R246). -/
def dutyKept (c : Core) : Bool := !c.st.open_ || (c.block.isNone && !c.residents.isEmpty)

/-- The drives that the Tailor's duty asks of the cores of a tile, within the budget; a closed core keeps its own. -/
def driveGoals (s : State) (t : Fin 12) : List Nat :=
  fitSum (tileRoom s t) ((tileCores t).map fun c =>
    if dutyKept (s.core c) then (s.core c).drive else coreFull s c * min s.tiles[t].dutyWant 10000 / 10000)

/-- The drives after one revision: 0.40 W at most in all, shared equally by the cores that move; a cut of the budget prevails. -/
def driveNext (s : State) (t : Fin 12) : List Nat :=
  let pairs := ((tileCores t).map fun c => (s.core c).drive).zip (driveGoals s t)
  let step := 480 / max 1 (pairs.filter fun p => p.1 != p.2).length
  fitSum (tileRoom s t) (pairs.map fun p => if p.1 ≤ p.2 then min p.2 (p.1 + step) else max p.2 (p.1 - step))

/-- One revision of a tile's duty. -/
def reviseTile (t : Fin 12) (s : State) : State :=
  updTile t (fun x => { x with cores := vecMap (fun i c => { c with drive := (driveNext s t).getD i 0 }) x.cores }) s

/-- The core runs at the duty that the Tailor set for it. -/
def atDuty (s : State) (core : Fin 48) : Bool := (driveGoals s (coreTile core)).getD (coreSlot core).val 0 ≤ (s.core core).drive

/-- A gate that opens after a closure of more than 5 ms opens at duty zero (R246). A core that was drained for its own fix point
is closed for less; of the other closures whose length no command tells, it is a free value (assumption 88). -/
def dutyFollow (a b : State) : State :=
  let opened := (List.finRange 48).filter fun c =>
    !(a.core c).st.open_ && (b.core c).st.open_ && (b.core c).drive != 0 && (a.core c).faulty.isEmpty
  if opened.isEmpty then b
  else
    { opened.foldl (fun s c => updCore c (fun k => { k with drive := if Config.longClosure b.free c.val then 0 else k.drive }) s) b with
      free := b.free + 1 }

/-! ### Placement -/

/-- The piece uses a dark channel of the tile (R149). -/
def usesDark (f : List Byte) (p : Nat) (t : Tile) : Bool :=
  (List.range 64).any fun ch => t.dark.getLsbD ch && decide (ch < pieceRed f p)

/-- The context holds a tray swatch on the tile (R232, R266). -/
def hasTray (s : State) (n t : Nat) : Bool := s.swatches.any fun x => x.2 == n && 256 + 12 * t ≤ x.1 && x.1 < 268 + 12 * t

/-- The tile is the reserve, or is being emptied to become it, and another tile is LOCKED (R43, R235). -/
def isReserve (s : State) (t : Fin 12) : Bool :=
  (s.tailor.reserveNow == some t || s.tailor.toEmpty == some t) && (List.finRange 12).any fun u => u != t && s.tiles[u].st == .locked

/-- The tile is out of the Tailor's hands: its image or its hub die is being reset (R461), or it is under test (R214). -/
def withheld (s : State) (t : Fin 12) : Bool :=
  s.tiles[t].testing || s.mod.resets.running.contains (.tile, t.val) || s.mod.resets.running.contains (.hubDie, t.val % 4)

/-- The core may take the piece (R232); a core under a sweep or vacated for one does not (R209). -/
def mayPlace (s : State) (ctx : Nat) (f : List Byte) (p : Nat) (c : Fin 48) : Bool :=
  let t := coreTile c
  (s.core c).st != .retired && !(s.core c).sweep && !(s.core c).vacate && s.tiles[t].st == .locked
    && !usesDark f p s.tiles[t] && !isReserve s t && !withheld s t && hasTray s ctx t.val

/-- A core before the cores with more residents, in order of number among equals. -/
def insertCore (s : State) (c : Fin 48) : List (Fin 48) → List (Fin 48)
  | [] => [c]
  | d :: ds => if (s.core c).residents.length ≤ (s.core d).residents.length then c :: d :: ds else d :: insertCore s c ds

/-- Cores that may take the piece, fewest residents first. -/
def candidates (s : State) (ctx : Nat) (f : List Byte) (p : Nat) : List (Fin 48) :=
  ((List.finRange 48).filter (mayPlace s ctx f p)).foldr (insertCore s) []

/-- Runs into which a reduction can be cut at most: four, and one for each part of whole scale groups. -/
def maxWays (f : List Byte) (p : Nat) : Nat :=
  if pieceSplit f p then min 4 ((nPasses f p + runUnit f p - 1) / runUnit f p) else 1

/-- Cores that one row-group set takes: under LATENCY a SPLIT_OK reduction is cut across up to 4 cores of the replica (R233). -/
def splitWays (s : State) (f : List Byte) (p : Nat) : Nat :=
  if s.tailor.profile = 2 then max 1 (min (4 / max 1 (nSets f p)) (maxWays f p)) else 1

/-- Replicas of a piece. -/
def replicas (x : Pattern) (p : Nat) : Nat := (x.places.filter (·.piece == p)).length

/-- Cores of a replica, those it leaves included. -/
def Place.all (pl : Place) : List (Fin 48) := pl.cores ++ pl.from_

/-- Cores of a piece's replicas. -/
def pieceCores (x : Pattern) (p : Nat) : List (Fin 48) := ((x.places.filter (·.piece == p)).map Place.all).flatten

/-- The cores of one more replica: none while every candidate has one already; cores are shared when they are fewer than
needed. With `free`, only cores without a resident. -/
def replicaCores (s : State) (x : Pattern) (p : Nat) (free : Bool) : List (Fin 48) :=
  let have_ := pieceCores x p
  let cand := candidates s x.ctx x.file p
  let fresh := cand.filter fun c => !have_.contains c && !(free && !(s.core c).residents.isEmpty)
  let pool := fresh ++ (if free then [] else cand.filter (have_.contains ·))
  let n := nSets x.file p * splitWays s x.file p
  if fresh.isEmpty || (free && fresh.length < n) then [] else (List.range n).map fun i => pool.getD (i % pool.length) 0

/-- Patterns with a piece on a core. -/
def coreResidents (s : State) (n : Nat) : List (Nat × Nat) :=
  (s.pats.filter fun x => x.places.any fun pl => pl.all.any (·.val == n)).map fun x => (x.ctx, x.handle)

/-- A core's residents follow the placement. A piece that leaves during its load leaves the gate closed until the core's next load
(R61); whether the load is still running is a free value (assumption 14). The operand registers are reloaded where the resident
changes (R21). DESIGN CHOICE: MODE reads none once the loaded piece has left (assumption 92). -/
def Core.tidy (s : State) (n : Nat) (c : Core) : Core :=
  let on := coreResidents s n
  let res := c.residents.filter (on.contains ·) ++ on.filter (!c.residents.contains ·)
  let cur := match c.current with | some r => if res.contains r then some r else res.head? | none => res.head?
  let stays := match c.block with
    | some b => s.pats.any fun x => x.handle == b.pat && x.places.any fun pl => pl.piece == b.piece && pl.all.any (·.val == n)
    | none => true
  let open_ := c.st == .loading && !stays && Config.stillBusy s.free
  { c with
    residents := res, current := cur
    block := if cur == c.current && stays then c.block else none
    operands := if cur == c.current then c.operands else []
    gateShut := c.gateShut || open_
    st := if open_ then .held else c.st }

def tidyCores (s : State) : State :=
  mapTiles (fun t x => { x with cores := vecMap (fun i c => Core.tidy s (4 * t + i) c) x.cores }) s

/-- A replica is placed on cores; it takes part in the dealing once they stand ready (R237). -/
def putReplica (ctx h p : Nat) (cs : List (Fin 48)) (s : State) : State :=
  tidyCores (updPat ctx h (fun x => { x with
    places := x.places ++ [{ piece := p, cores := cs, opened := false }], onFallback := x.onFallback.filter (· != p) }) s)

/-- One more replica of a piece, where cores are to be had. -/
def addReplica (ctx h p : Nat) (free : Bool) (s : State) : State :=
  match s.pat? ctx h with
  | none => s
  | some x =>
    match replicaCores s x p free with
    | [] => s
    | cs => putReplica ctx h p cs s

/-- A piece gets the replicas it lacks of REPLICA_MIN; an exact piece that no core may take goes to the digital fallback, an
analog one waits (R239). -/
def placePiece (ctx h : Nat) (s : State) (p : Nat) : State :=
  match s.pat? ctx h with
  | none => s
  | some x =>
    if pieceVuOnly x.file p then s
    else
      let s := (List.range (pieceRepMin x.file p - replicas x p)).foldl (fun s _ => addReplica ctx h p false s) s
      updPat ctx h (fun y =>
        if replicas y p = 0 && !numAnalog (pieceNum y.file p) && !y.onFallback.contains p
        then { y with onFallback := y.onFallback ++ [p] } else y) s

def pieceCycles (f : List Byte) (p : Nat) : Nat := fileNat f (pieceOff f p + 44) 4

/-- Cores that work on a piece at once, over its replicas and their runs. -/
def pieceShare (x : Pattern) (p : Nat) : Nat :=
  ((x.places.filter (·.piece == p)).map fun pl => waysOf x.file p pl.cores).foldl (· + ·) 0

/-- The piece among some with the largest CYCLES ÷ share, the lowest among equals. -/
def slowest (x : Pattern) (ps : List Nat) : Option Nat :=
  ps.foldl (fun best p =>
    match best with
    | none => some p
    | some b => if pieceCycles x.file b * pieceShare x p < pieceCycles x.file p * pieceShare x b then some p else best) none

/-- Pieces that stand on optical cores. -/
def opticalPieces (x : Pattern) : List Nat := (List.range (nPieces x.file)).filter fun p => !pieceVuOnly x.file p && 0 < replicas x p

/-- The piece with the largest CYCLES ÷ replicas that may still grow on cores without a resident (R232, R233). -/
def growNext (s : State) (x : Pattern) : Option Nat :=
  slowest x ((opticalPieces x).filter fun p => replicas x p < pieceRepMax x.file p && !(replicaCores s x p true).isEmpty)

/-- A replica's cores with one more core in each row-group set. -/
def widened (f : List Byte) (p : Nat) (cores new : List (Fin 48)) : List (Fin 48) :=
  let ways := waysOf f p cores
  (List.range (nSets f p)).flatMap fun j => (cores.drop (j * ways)).take ways ++ (new.drop j).take 1

/-- A stage that cannot otherwise keep pace (R233): the slowest of its pattern, with REPLICA_MAX replicas, is cut into one more
run where SPLIT_OK and cores without a resident allow it for a replica. -/
def splitMore (ctx h : Nat) (s : State) : Option State :=
  match s.pat? ctx h with
  | none => none
  | some x =>
    match slowest x (opticalPieces x) with
    | none => none
    | some p =>
      let fresh := (candidates s ctx x.file p).filter fun c => (s.core c).residents.isEmpty
      match x.places.find? fun pl => pl.piece == p && pl.from_.isEmpty && waysOf x.file p pl.cores < maxWays x.file p with
      | none => none
      | some pl =>
        if replicas x p < pieceRepMax x.file p || fresh.length < nSets x.file p then none
        else
          let new := { pl with cores := widened x.file p pl.cores fresh }
          some (tidyCores (updPat ctx h (fun y => { y with places := y.places.map fun q => if q == pl then new else q }) s))

/-- Replicas up to REPLICA_MAX while cores are free, then the runs of a stage that holds the others up; neither under
LATENCY. -/
def growPattern (ctx h : Nat) : Nat → State → State
  | 0, s => s
  | k + 1, s =>
    match s.pat? ctx h with
    | none => s
    | some x =>
      if s.tailor.profile = 2 then s
      else
        match growNext s x with
        | some p => growPattern ctx h k (addReplica ctx h p true s)
        | none => (match splitMore ctx h s with | some s' => growPattern ctx h k s' | none => s)

/-- Exact pieces on the digital fallback, analog ones nowhere: no optical core serves (R465, R466). -/
def Pattern.darkPlaced (x : Pattern) : Pattern :=
  { x with
    places := []
    onFallback := (List.range (nPieces x.file)).filter fun p => !pieceVuOnly x.file p && !numAnalog (pieceNum x.file p) }

/-- Pieces are on optical cores only in READY; in SAFELIGHT exact pieces are on the fallback (R466). -/
def placePattern (ctx h : Nat) (s : State) : State :=
  match s.pat? ctx h with
  | none => s
  | some x =>
    if s.mod.mstate == .ready then
      growPattern ctx h 48 ((List.range (nPieces x.file)).foldl (placePiece ctx h) s)
    else updPat ctx h Pattern.darkPlaced s

/-! ### Dealing (R232, R237) -/

/-- The item's passes of the piece are not done. -/
def holdsWork (s : State) (x : Pattern) (p : Nat) (cores : List (Fin 48)) : Bool :=
  s.works.any fun w => w.ctx == x.ctx && w.pat == x.handle && w.stage == .running && w.coresFor p == cores && !pieceDone x.file w p

/-- The duty that a set of cores offers: its drive, the piece being the same. -/
def offered (s : State) (cores : List (Fin 48)) : Nat := (cores.map fun c => (s.core c).drive).foldl (· + ·) 0

/-- A moving replica deals this item to its new cores: they stand ready, and run at their duty, or the shares dealt stay in
proportion to the duty that each set offers. -/
def dealsNew (s : State) (pl : Place) : Bool :=
  pl.from_.isEmpty || (pl.opened && (pl.cores.all (atDuty s)
    || (pl.newN * offered s pl.from_ ≤ pl.oldN * offered s pl.cores && 0 < offered s pl.cores)))

/-- The replica whose turn it is (R232): those that stay, in rotation; one whose cores are not ready only where all wait. -/
def turnOf (x : Pattern) (p : Nat) : Option Place :=
  let all := x.places.filter fun pl => pl.piece == p && !pl.leaving
  let ready := all.filter fun pl => pl.opened || !pl.from_.isEmpty
  let stay := if ready.isEmpty then all else ready
  stay[((x.turns.find? (·.1 == p)).map (·.2)).getD 0 % max 1 stay.length]?

/-- The item takes its cores for a piece: passes that have committed stand, however the new cores cut the reduction (R98). -/
def Work.take (p : Nat) (cores : List (Fin 48)) (w : Work) : Work :=
  { w with dealt := { piece := p, cores := cores } :: w.dealt.filter (·.piece != p) }

/-- A piece that a work item has reached is dealt to cores (R232, R237); one whose cores have left is dealt anew. -/
def dealPiece (q seq : Nat) (s : State) (p : Nat) : State :=
  match s.work? q seq with
  | none => s
  | some w =>
    match s.pat? w.ctx w.pat with
    | none => s
    | some x =>
      let now := w.coresFor p
      let stands := !now.isEmpty && x.places.any fun pl => pl.piece == p && (pl.cores == now || pl.from_ == now)
      if stands || pieceVuOnly x.file p || !pieceReady x.file w p || pieceDone x.file w p then s
      else
        match turnOf x p with
        | none => s
        | some pl =>
          let new := dealsNew s pl
          updWork q seq (Work.take p (if new then pl.cores else pl.from_)) (updPat x.ctx x.handle (fun y => { y with
            turns := (p, ((y.turns.find? (·.1 == p)).map (·.2)).getD 0 + 1) :: y.turns.filter (·.1 != p)
            places := y.places.map fun r => if r == pl && !pl.from_.isEmpty then
                (if new then { r with newN := r.newN + 1 } else { r with oldN := r.oldN + 1 }) else r }) s)

/-- Every work item is dealt the pieces it has reached. -/
def dealFollow (s : State) : State :=
  s.inOrder.foldl (fun s w =>
    match s.pat? w.ctx w.pat with
    | some x => (List.range (nPieces x.file)).foldl (dealPiece w.q w.seq) s
    | none => s) s

/-- A core holds weights of the piece and its gate is open. -/
def holdsPiece (s : State) (x : Pattern) (p : Nat) (c : Fin 48) : Bool :=
  (s.core c).st.open_ && (match (s.core c).block with | some b => b.pat == x.handle && b.piece == p | none => false)

/-- The new cores of a moving replica are ready: a resident piece has its weights there (R237). -/
def newReady (s : State) (x : Pattern) (pl : Place) : Bool :=
  pl.opened || !pieceResident x.file pl.piece || pl.cores.all (holdsPiece s x pl.piece)

/-- A move ends once the new cores run at their duty and the old ones hold no work (R237). -/
def Place.settled (s : State) (x : Pattern) (pl : Place) : Place :=
  let pl := { pl with opened := newReady s x pl }
  if pl.from_.isEmpty then pl
  else
    if pl.opened && pl.cores.all (atDuty s) && !holdsWork s x pl.piece pl.from_ then { pl with from_ := [], oldN := 0, newN := 0 } else pl

/-- Moves go on, and replicas that leave go once they hold no work. -/
def moveFollow (s : State) : State :=
  let next := s.pats.map fun x => { x with places :=
    (x.places.map (Place.settled s x)).filter fun pl => !(pl.leaving && !holdsWork s x pl.piece pl.cores) }
  if next == s.pats then s else tidyCores { s with pats := next }

/-! ### Leaving cores -/

/-- Pieces of a pattern with a replica on a bad core. -/
def hitPieces (x : Pattern) (bad : Fin 48 → Bool) : List Nat := ((x.places.filter fun pl => pl.all.any bad).map (·.piece)).eraseDups

/-- Replicas with a bad core go; a move whose old cores are bad goes on without them. -/
def dropReplicas (bad : Fin 48 → Bool) (s : State) : State :=
  tidyCores { s with pats := s.pats.map fun x => { x with
    places := (x.places.filter fun pl => !pl.cores.any bad).map fun pl => if pl.from_.any bad then { pl with from_ := [] } else pl } }

/-- Group sums in progress on the bad cores are redone (R98): a first pass that was discarded sets REPLAYED (R100). -/
def rewindWorks (bad : Fin 48 → Bool) (s : State) : State :=
  { s with works := s.works.map fun w =>
      match s.pat? w.ctx w.pat with
      | some x =>
        let hit := (hitPieces x bad).filter fun p => (w.coresFor p).any bad && !pieceDone x.file w p
        { hit.foldl (fun w p => Work.rewind x.file p w) w with
          flags := { w.flags with replayed := w.flags.replayed || hit.any (halfOpen x.file w) } }
      | none => w }

/-- Replicas that a pattern's pieces have lost stand again elsewhere: up to REPLICA_MIN on any cores, the others on cores
without a resident. -/
def replace (ctx h : Nat) (lost : List Nat) (s : State) : State :=
  lost.foldl (fun s p =>
    match s.pat? ctx h with
    | none => s
    | some x => if replicas x p < pieceRepMin x.file p then placePiece ctx h s p else addReplica ctx h p true s) s

/-- Pieces of the replicas of a pattern that meet `p`, one for each. -/
def lostPieces (x : Pattern) (p : Place → Bool) : List Nat := (x.places.filter p).map (·.piece)

/-- The pieces on bad cores are placed again on others (R237, R238). -/
def moveOff (bad : Fin 48 → Bool) (s : State) : State :=
  let hit := s.pats.map fun x => (x, lostPieces x fun pl => pl.cores.any bad)
  hit.foldl (fun s xh => replace xh.1.ctx xh.1.handle xh.2 s) (dropReplicas bad s)

/-- The same where the cores cannot finish: their work is redone elsewhere and carries REPLAYED (R98, R100, R237). -/
def loseCores (bad : Fin 48 → Bool) (s : State) : State :=
  moveOff bad (rewindWorks bad (discardPasses bad s))

/-- A core of a tile, or the core in its place on another. -/
def swapCore (t r : Fin 12) (c : Fin 48) : Fin 48 := if coreTile c = t then coreNum r (coreSlot c) else c

/-- A replica on tile t goes over to tile r, where it may stand there. -/
def Place.handOver (s : State) (x : Pattern) (t r : Fin 12) (pl : Place) : Place :=
  let new := pl.cores.map (swapCore t r)
  if pl.cores.any (onTile t) && new.all (fun c => !onTile r c || mayPlace s x.ctx x.file pl.piece c)
  then { pl with cores := new, from_ := [], opened := false } else pl

/-- A tile leaves service: the reserve takes its pieces, and the module has none until a tile qualifies again (R235). A replica
that the reserve may not take is left to be placed elsewhere. -/
def releaseReserve (t : Fin 12) (s : State) : State :=
  match s.tailor.reserveNow with
  | none => s
  | some r =>
    if r == t || !s.pats.any (·.onTile t.val) then s
    else
      let s := { s with tailor := { s.tailor with reserveNow := none } }
      tidyCores { s with pats := s.pats.map fun x => { x with places := x.places.map (Place.handOver s x t r) } }

/-- All pieces of a tile leave it. -/
def evacuate (t : Fin 12) (s : State) : State := moveOff (onTile t) (releaseReserve t s)

/-- The same where the tile has already left LOCKED. -/
def loseTile (t : Fin 12) (s : State) : State :=
  moveOff (onTile t) (releaseReserve t (rewindWorks (onTile t) (discardPasses (onTile t) s)))

/-- A tile that has powered down: the reserve takes its pieces (R235), and its other replicas go over to cores of others (R238).
One that no other core may take stays, for its weights are kept or reloaded (R382, R387; assumption 54). -/
def restPieces (t : Fin 12) (s : State) : State :=
  let s := releaseReserve t s
  s.pats.foldl (fun s x => x.places.foldl (fun s pl =>
    if pl.all.any (onTile t) then
      let s' := replace x.ctx x.handle [pl.piece] (tidyCores (updPat x.ctx x.handle (fun y => { y with places := y.places.erase pl }) s))
      if ((s'.pat? x.ctx x.handle).map (replicas · pl.piece)).getD 0 < replicas x pl.piece then s else s'
    else s) s) s

/-- A core leaves service for good (R51, R98). -/
def loseCore (c : Fin 48) (s : State) : State := loseCores (· == c) s

/-- Pieces of a tile that use its dark channels leave it (R149, R238). -/
def leaveDark (t : Fin 12) (s : State) : State :=
  let hits := fun (x : Pattern) (pl : Place) => pl.all.any (onTile t) && usesDark x.file pl.piece s.tiles[t]
  let hit := s.pats.map fun x => (x, lostPieces x (hits x))
  let s := tidyCores { s with pats := s.pats.map fun x => { x with places := x.places.filter fun pl => !hits x pl } }
  hit.foldl (fun s xh => replace xh.1.ctx xh.1.handle xh.2 s) s

/-- Every placed pattern is placed afresh: at READY, and after a safelight exit (R235, R468). -/
def placeAll (s : State) : State :=
  let s := tidyCores { s with pats := s.pats.map fun x => { x with places := [], onFallback := [] } }
  s.pats.foldl (fun s x => placePattern x.ctx x.handle s) s

/-- Spares are exhausted (R458): no reserve stands, or a placed piece runs on fewer than REPLICA_MIN replicas. -/
def sparesExhausted (s : State) : Bool :=
  s.tailor.reserveNow == none || s.pats.any fun x => x.runnable && x.places.any fun pl => replicas x pl.piece < pieceRepMin x.file pl.piece

/-- Pieces with fewer replicas than REPLICA_MIN take cores: a sweep has given its core back (R209). -/
def fillCores (s : State) : State :=
  if s.mod.mstate == .ready then
    s.pats.foldl (fun s x => (List.range (nPieces x.file)).foldl (placePiece x.ctx x.handle) s) s
  else s

/-- The same where a tile has returned to LOCKED, with a reserve already held (R238). -/
def refill (s : State) : State := if s.tailor.reserveNow.isSome then fillCores s else s

/-- A piece that stands nowhere while a core may take it is placed (R239). -/
def placeFollow (s : State) : State :=
  if s.mod.mstate == .ready then
    s.pats.foldl (fun s x =>
      ((List.range (nPieces x.file)).filter fun p =>
          !pieceVuOnly x.file p && replicas x p = 0 && !(candidates s x.ctx x.file p).isEmpty).foldl
        (placePiece x.ctx x.handle) s) s
  else s

/-- Exact pieces go to the fallback as the optics go dark (R465 step 4); analog pieces stand nowhere. -/
def allToFallback (s : State) : State := tidyCores { s with pats := s.pats.map Pattern.darkPlaced }

/-- The replicas follow a new profile (R233, R236): more of them on free cores, or, under LATENCY, those above REPLICA_MIN
leave. -/
def retarget (s : State) : State :=
  if s.mod.mstate != .ready then s
  else if s.tailor.profile = 2 then
    { s with pats := s.pats.map fun x => { x with places := x.places.zipIdx.map fun pi =>
        let before := ((x.places.take pi.2).filter (·.piece == pi.1.piece)).length
        ({ pi.1 with leaving := decide (pieceRepMin x.file pi.1.piece ≤ before) } : Place) } }
  else
    s.pats.foldl (fun s x => growPattern x.ctx x.handle 48 s)
      { s with pats := s.pats.map fun x => { x with places := x.places.map fun pl => { pl with leaving := false } } }

/-- A replica has the shape that the profile wants (R233). -/
def shapeOk (s : State) (x : Pattern) (pl : Place) : Bool :=
  let ways := waysOf x.file pl.piece pl.cores
  if s.tailor.profile = 2 then ways == splitWays s x.file pl.piece
  else ways == 1 || pieceRepMax x.file pl.piece ≤ replicas x pl.piece

/-- Moves in flight. -/
def movesNow (s : State) : Nat := ((s.pats.map fun x => (x.places.filter fun pl => !pl.from_.isEmpty).length)).foldl (· + ·) 0

/-- The placement is as the profile wants it, and no move is left (R236). -/
def movesDone (s : State) : Bool :=
  s.tailor.toEmpty.isNone && s.pats.all fun x => x.places.all fun pl => pl.from_.isEmpty && !pl.leaving && shapeOk s x pl

/-- Cores that hold weights of the context are loaded all-OFF (R362 step 3). -/
def allOffCore (s : State) (ctx : Nat) (c : Core) : Core :=
  match c.block with
  | some b => if s.pats.any fun x => x.handle == b.pat && x.ctx == ctx then { c with block := none, wloads := c.wloads + 1 } else c
  | none => c

end Sys2Proof.Machine
end

