-- ==== Sys2Proof/Machine/Flow.lean ====
section
/-! DEFINITION. Streams in flight: their routes and the tiers of buffers and blocks (R241, R243, R244), credits (R247), waits and
snags (R248, R249), and the loads that complete (R231). -/
namespace Sys2Proof.Machine

/-! ### Routes (R243) -/

/-- The tile of a piece on optical cores. DESIGN CHOICE: where its replicas or cores stand on several tiles, that of the first
replica's first core decides (assumption 119). -/
def endTile (x : Pattern) (p : Nat) : Option (Fin 12) :=
  if p = 0xFFFF then none
  else (x.places.find? (·.piece == p)).bind fun pl => pl.cores.head?.map coreTile

/-- Tiles within one hop more, over ports that are ACTIVE and have room in their replay buffers. -/
def seamStep (s : State) (ts : List (Fin 12)) : List (Fin 12) :=
  ts ++ (ts.flatMap fun t => (List.finRange 4).filterMap fun p =>
    match partner t p with
    | some (u, _) => if (s.tiles[t].seams[p]).st == .active && (s.tiles[t].seams[p]).unacked.length < 256 then some u else none
    | none => none).filter (!ts.contains ·)

/-- Seams with room lead from one tile to another: no pair of tiles is more than three hops apart (R17, R174). -/
def seamRoom (s : State) (t u : Fin 12) : Bool := (seamStep s (seamStep s (seamStep s [t]))).contains u

/-! ### Tiers (R244) -/

/-- Bytes of a context's bolts that are not spoken for: by its mapped pages, by its patterns' escape buffers and hot caches, and
by what has spilled there (R229 check 5, R244, R247, R253). -/
def boltRoom (s : State) (n : Nat) (skip : Nat) : Int :=
  let own := (ctxUnits s.bolts n).length * bolt0
  let pages := (((s.ctx? n).map (·.pages)).getD []).filter fun p => p.target == 1
  let pats := s.pats.filter fun p => p.ctx == n && p.handle != skip
  let spilt := fun (p : Pattern) =>
    ((p.routes.filter (·.tier == .hbm)).map fun r => 4096 * streamInflight p.file r.stream).foldl (· + ·) 0
      + (p.blocks.filter (·.2.2 == .hbm)).length * blockRecord p.file
  own - ((pages.map Page.size).foldl (· + ·) 0 : Nat)
    - ((pats.map fun p => p.hot * 2 ^ 26 + escapeBytes p.file + spilt p).foldl (· + ·) 0 : Nat)

/-- Bytes of LPDDR4X that are free, what has spilled there apart (R269). -/
def frameRoom (s : State) : Int :=
  let spilt := fun (p : Pattern) =>
    ((p.routes.filter (·.tier == .lpddr)).map fun r => 4096 * streamInflight p.file r.stream).foldl (· + ·) 0
      + (p.blocks.filter (·.2.2 == .lpddr)).length * blockRecord p.file
  ((249856 - s.frames.length) * 2 ^ 21 : Nat) - ((s.pats.map spilt).foldl (· + ·) 0 : Nat)

/-- Bytes that a tier holds in a swatch. -/
def Tier.bytesIn (u : Nat) : Tier → Nat
  | .swatches parts => ((parts.filter (·.1 == u)).map (·.2)).foldl (· + ·) 0
  | _ => 0

/-- Bytes placed in a swatch. -/
def swatchBytes (s : State) (u : Nat) : Nat :=
  (s.pats.map fun p =>
    (p.routes.map (·.tier.bytesIn u)).foldl (· + ·) 0 + (p.blocks.map (·.2.2.bytesIn u)).foldl (· + ·) 0).foldl (· + ·) 0

/-- Hub swatches of a context, those of one hub die first. -/
def hubUnits (s : State) (ctx h : Nat) : List Nat :=
  let own := (ctxUnits s.swatches ctx).filter (· < 256)
  own.filter (· / 64 == h) ++ own.filter (· / 64 != h)

/-- Tray swatches of a context on a tile. -/
def trayUnits (s : State) (ctx t : Nat) : List Nat := (ctxUnits s.swatches ctx).filter fun u => 256 ≤ u && trayTile u == t

/-- `n` bytes laid into swatches, in whole credits, as far as each has room: what each takes, and the bytes left over. -/
def laySwatches (s : State) : List Nat → Nat → List (Nat × Nat) × Nat
  | [], n => ([], n)
  | u :: us, n =>
    let take := min n ((2 ^ 22 - swatchBytes s u) / 4096 * 4096)
    let r := laySwatches s us (n - take)
    (if take = 0 then r.1 else (u, take) :: r.1, r.2)

/-- The highest tier that holds `n` bytes: the swatches given, one where it can be and several together otherwise, then HBM,
LPDDR4X, host memory. -/
def tierFor (s : State) (ctx : Nat) (units : List Nat) (n : Nat) : Tier :=
  match units.find? fun u => swatchBytes s u + n ≤ 2 ^ 22 with
  | some u => .swatches [(u, n)]
  | none =>
    let l := laySwatches s units n
    if l.2 = 0 then .swatches l.1
    else if (n : Int) ≤ boltRoom s ctx 256 then .hbm else if (n : Int) ≤ frameRoom s then .lpddr else .host

/-- The way of a stream, by where its ends lie; under LATENCY hub SRAM comes before seams while it has room (R233). DESIGN
CHOICE: a piece on the vector units lies at the hub die of its stream's other end, or at HD0 (assumption 104). -/
def pathOf (s : State) (x : Pattern) (i : Nat) : Path :=
  let a := endTile x (streamProd x.file i)
  let b := endTile x (streamCons x.file i)
  let hub := ((b <|> a).map (·.val % 4)).getD 0
  let hubFull := (laySwatches s (hubUnits s x.ctx hub) (4096 * streamInflight x.file i)).2 != 0
  if streamProd x.file i = 0xFFFF || streamCons x.file i = 0xFFFF then .feed hub
  else
    match a, b with
    | some t, some u =>
      if t = u then .tray t.val
      else if t.val % 4 != u.val % 4 && (s.tailor.profile != 2 || hubFull) && seamRoom s t u then .seam u.val
      else .hub hub
    | _, _ => .hub hub

/-- Swatches that a stream on a path may lie in, the best first. -/
def pathUnits (s : State) (ctx : Nat) : Path → List Nat
  | .tray t | .seam t => trayUnits s ctx t ++ hubUnits s ctx (t % 4)
  | .hub h | .feed h => hubUnits s ctx h

/-- A stream gets its route and tier; class ESCAPE is held in HBM only (R247). -/
def routeStream (ctx h : Nat) (s : State) (i : Nat) : State :=
  match s.pat? ctx h with
  | none => s
  | some x =>
    let path := pathOf s x i
    let tier := if streamClass x.file i = 7 then Tier.hbm
      else tierFor s ctx (pathUnits s ctx path) (4096 * streamInflight x.file i)
    updPat ctx h (fun y => { y with routes := y.routes ++ [{ stream := i, path := path, tier := tier }] }) s

/-- A resident block is held in the hub SRAM of its piece's serving hub die, or in the next tier down (R241). -/
def holdBlock (ctx h : Nat) (s : State) (pb : Nat × Nat) : State :=
  match s.pat? ctx h with
  | none => s
  | some x =>
    let hub := ((endTile x pb.1).map (·.val % 4)).getD 0
    let tier := tierFor s ctx (hubUnits s ctx hub) (blockRecord x.file)
    updPat ctx h (fun y => { y with blocks := y.blocks ++ [(pb.1, pb.2, tier)] }) s

/-- Resident blocks of the pieces on optical cores: piece and block. -/
def residentBlocks (x : Pattern) : List (Nat × Nat) :=
  ((List.range (nPieces x.file)).filter fun p => pieceResident x.file p && 0 < replicas x p).flatMap fun p =>
    (List.range (nPasses x.file p * nSets x.file p)).map fun b => (p, b)

/-- Routes and tiers of a pattern, one after the other. -/
def routePattern (s : State) (x : Pattern) : State :=
  (residentBlocks x).foldl (holdBlock x.ctx x.handle)
    ((List.range (nStreams x.file)).foldl (routeStream x.ctx x.handle)
      (updPat x.ctx x.handle (fun y => { y with routes := [], blocks := [] }) s))

/-- What a move, a load or an unload changes (R244). -/
def placement (s : State) : List (Nat × Nat × List (Nat × List (Fin 48)) × List Nat) :=
  s.pats.map fun x => (x.ctx, x.handle, x.places.map fun pl => (pl.piece, pl.cores), x.onFallback)

/-- Ports that are ACTIVE. -/
def portsUp (s : State) : List (List Bool) := s.tiles.toList.map fun x => x.seams.toList.map (·.st == .active)

/-- A pattern's flows over seams that no longer lead to their consumers take other routes (R173). -/
def rerouteSeams (s : State) (x : Pattern) : State :=
  (x.routes.filter fun r => (match r.path with | .seam _ => true | _ => false) && pathOf s x r.stream != r.path).foldl
    (fun s r => routeStream x.ctx x.handle
      (updPat x.ctx x.handle (fun y => { y with routes := y.routes.filter (·.stream != r.stream) }) s) r.stream) s

/-- Routes and tiers are decided again at moves, loads and unloads; flows of a port that has gone DOWN are rerouted (R173). -/
def routeFollow (a b : State) : State :=
  if placement a != placement b then b.pats.foldl routePattern b
  else if portsUp a != portsUp b then b.pats.foldl rerouteSeams b
  else b

/-! ### Credits (R247) -/

/-- Reserved credits of a class in each swatch. -/
def reserved (k : Nat) : Nat := [64, 16, 256, 64, 64, 64, 128, 0].getD k 0

/-- Credits that a buffer holds in a swatch. -/
def Buf.creditsIn (u : Nat) (b : Buf) : Nat := ((b.parts.filter (·.1 == u)).map (·.2)).foldl (· + ·) 0

/-- Credits of a class that streams hold in a swatch. -/
def classHeld (s : State) (u k : Nat) : Nat :=
  ((s.bufs.filter (·.cls == k)).map (·.creditsIn u)).foldl (· + ·) 0

/-- Credits of a swatch that are mapped out, for they have failed twice (R293). -/
def mappedOut (s : State) (u : Nat) : Nat := (s.badCredits.filter fun b => b.1 == u && decide (2 ≤ b.2.2)).length

/-- Credits left to a class in a swatch: of its reserve, and of the shared pool of 368. -/
def swatchRoom (s : State) (u k : Nat) : Nat :=
  (reserved k - classHeld s u k) + (368 - mappedOut s u - ((List.range 8).map fun j => classHeld s u j - reserved j).foldl (· + ·) 0)

/-- Credits that a stream holds, in its direct buffers or in its escape buffer. -/
def streamHeld (s : State) (ctx h i : Nat) (esc : Bool) : Nat :=
  ((s.bufs.filter fun b => b.ctx == ctx && b.pat == h && b.stream == i && b.esc == esc).map (·.credits)).foldl (· + ·) 0

/-- Credits that a work item needs of a stream. -/
def needCredits (f : List Byte) (i : Nat) : Nat := (streamBytes f i + 4095) / 4096

/-- The consumer has finished with credit k of a stream: with every vector that takes an element of it, or with the whole piece
where it takes the stream at once (weights, a vector-unit program); an output once it is written. -/
def creditUsed (f : List Byte) (w : Work) (i k : Nat) : Bool :=
  let p := streamCons f i
  if p = 0xFFFF then
    let before := (((regionLayout f false).1.takeWhile (·.1 != i)).map fun st => needCredits f st.1).foldl (· + ·) 0
    decide (before + k < w.written)
  else
    pieceDone f w p
      || (!pieceVuOnly f p && (inStreams f p).contains i &&
          let per := if fmtBits4 (numAFmt (pieceNum f p)) then 8192 else 4096
          let a := streamBase f p i + k * per
          let b := streamBase f p i + min (streamElems f p i) ((k + 1) * per)
          let r := max 1 (pieceRed f p)
          (List.range ((b + r - 1) / r - a / r)).all fun v => vecDone f w p (a / r + v))

/-- Credits that a work item still needs of a stream. -/
def wantCredits (f : List Byte) (w : Work) (i : Nat) : Nat :=
  ((List.range (needCredits f i)).filter fun k => !creditUsed f w i k).length

/-- Credits taken out of swatches, one after the other, as each has room. -/
def takeCredits (s : State) (k : Nat) : List Nat → Nat → List (Nat × Nat)
  | [], _ => []
  | u :: us, n =>
    let got := min n (swatchRoom s u k)
    (u, got) :: takeCredits s k us (n - got)

/-- A stream's buffer for a work item, with the credits to be had: those of its escape buffer where it is diverted (R249),
otherwise up to MAX_INFLIGHT, out of its swatches where it lies in some. None to be had: it waits (R248). -/
def grantBuf (s : State) (x : Pattern) (w : Work) (i : Nat) (esc : Bool) : Buf :=
  let want := wantCredits x.file w i
  let parts := match x.routes.find? (·.stream == i) with
    | some r => (match r.tier with
        | .swatches l => if esc then [] else
            takeCredits s (streamClass x.file i) (l.map (·.1)) (min want (streamInflight x.file i - streamHeld s x.ctx x.handle i false))
        | _ => [])
    | none => []
  let got := if esc then min want (streamEscape x.file i - streamHeld s x.ctx x.handle i true)
    else if parts.isEmpty then min want (streamInflight x.file i - streamHeld s x.ctx x.handle i false)
    else (parts.map (·.2)).foldl (· + ·) 0
  { q := w.q, seq := w.seq, ctx := x.ctx, pat := x.handle, stream := i, parts := parts
    cls := streamClass x.file i, credits := got, esc := esc, waiting := got = 0 && want != 0 }

def Buf.is (q seq i : Nat) (b : Buf) : Bool := b.q == q && b.seq == seq && b.stream == i

/-- The command has its result. -/
def itemEnded (s : State) (q seq : Nat) : Bool :=
  match (s.queue? q).bind (·.entry? seq) with
  | some e => e.st == .finished
  | none => true

/-- The consumer has finished with the whole stream. -/
def streamUsed (s : State) (f : List Byte) (w : Work) (i : Nat) : Bool :=
  itemEnded s w.q w.seq || (streamCons f i != 0xFFFF && pieceDone f w (streamCons f i))

/-- The producer is about to write the stream. -/
def streamDue (f : List Byte) (w : Work) (i : Nat) : Bool :=
  streamProd f i == 0xFFFF || pieceReady f w (streamProd f i)

/-- The buffer of one stream of a work item is made, gives back the credits that its consumer has finished with, or asks for those
that it still lacks. -/
def askCredits (q seq : Nat) (s : State) (i : Nat) : State :=
  match s.work? q seq with
  | none => s
  | some w =>
    match s.pat? w.ctx w.pat with
    | none => s
    | some x =>
      match s.bufs.find? (Buf.is q seq i) with
      | some b =>
        if !b.waiting && b.credits == wantCredits x.file w i then s
        else
          let others := { s with bufs := s.bufs.filter fun c => !c.is q seq i }
          let esc := if b.waiting then x.diverted.contains i else b.esc
          { s with bufs := s.bufs.map fun c => if c.is q seq i then grantBuf others x w i esc else c }
      | none =>
        if streamDue x.file w i && !streamUsed s x.file w i then { s with bufs := s.bufs ++ [grantBuf s x w i (x.diverted.contains i)] } else s

/-- Credits return, each as its consumer has finished with it, and are granted to the work items in the order in which they
began. A stream whose escape buffer is drained uses its direct buffer again (R249). -/
def bufFollow (s : State) : State :=
  let live := s.bufs.filter fun b =>
    match s.work? b.q b.seq, s.pat? b.ctx b.pat with
    | some w, some x => !streamUsed s x.file w b.stream
    | _, _ => false
  let s := s.works.foldl (fun s w =>
    match s.pat? w.ctx w.pat with
    | some x => (List.range (nStreams x.file)).foldl (askCredits w.q w.seq) s
    | none => s) { s with bufs := live }
  { s with pats := s.pats.map fun x => { x with
    diverted := x.diverted.filter fun i => s.bufs.any fun b => b.ctx == x.ctx && b.pat == x.handle && b.stream == i && b.esc } }

/-- The work item has credits for every stream that the piece writes. -/
def granted (s : State) (f : List Byte) (w : Work) (p : Nat) : Bool :=
  (outStreams f p).all fun i => s.bufs.any fun b => b.is w.q w.seq i && !b.waiting

/-- It has them for its input streams: the feed dogs may fetch. -/
def inputGranted (s : State) (f : List Byte) (w : Work) : Bool :=
  ((List.range (nStreams f)).filter (streamProd f · == 0xFFFF)).all fun i => s.bufs.any fun b => b.is w.q w.seq i && !b.waiting

/-! ### Waits and snags (R248, R249) -/

/-- The holder cannot release its credits: its consumer itself waits for credits of a stream that it writes. -/
def Buf.stuck (s : State) (b : Buf) : Bool :=
  match s.pat? b.ctx b.pat with
  | some x => s.bufs.any fun c =>
      c.q == b.q && c.seq == b.seq && c.waiting && streamProd x.file c.stream == streamCons x.file b.stream && streamCons x.file b.stream != 0xFFFF
  | none => false

/-- The waits that stand now. -/
def waitsNow (s : State) : List ((Nat × Nat) × (Nat × Nat)) :=
  ((s.bufs.filter fun b => b.waiting && !b.parts.isEmpty).flatMap fun b =>
    (s.bufs.filter fun c => c.cls == b.cls && (b.parts.any fun r => c.creditsIn r.1 != 0) && c.stuck s).map fun c =>
      ((b.pat, b.stream), (c.pat, c.stream))).eraseDups

/-- Waits that have ended go, new ones begin. -/
def edgeFollow (s : State) : State :=
  { s with edges := (waitsNow s).map fun e =>
      (s.edges.find? fun d => d.from_ == e.1 && d.to_ == e.2).getD { from_ := e.1, to_ := e.2 } }

/-- A stripe width asked for is taken between stripes (R257). DESIGN CHOICE: once no work item of the pattern runs (assumption
108). -/
def stripeFollow (s : State) : State :=
  { s with pats := s.pats.map fun x =>
      match x.stripeWant with
      | some n => if s.works.any fun w => w.ctx == x.ctx && w.pat == x.handle && w.stage == .running then x
          else { x with stripe := n, stripeWant := none }
      | none => x }

/-! ### Loads (R231) -/

/-- Every piece has been placed, and every resident block written to at least one of its cores. DESIGN CHOICE: outside READY an
analog piece, which stands nowhere, is not waited for (assumption 105). -/
def loadComplete (s : State) (x : Pattern) : Bool :=
  ((List.range (nPieces x.file)).all fun p =>
      pieceVuOnly x.file p || x.onFallback.contains p || 0 < replicas x p || (s.mod.mstate != .ready && numAnalog (pieceNum x.file p)))
    && (residentBlocks x).all (x.written.contains ·)

/-- LOAD_PATTERNs whose last block has been written complete. -/
def loadFollow (s : State) : State :=
  s.pats.foldl (fun s x =>
    let begun := match (s.queue? x.byQueue).bind (·.entry? x.bySeq) with | some e => e.st == .begun | none => false
    if !x.runnable && begun && loadComplete s x then
      finish x.byQueue x.bySeq .ok x.handle (updPat x.ctx x.handle (fun y => { y with runnable := true }) s)
    else s) s

end Sys2Proof.Machine
end

