-- ==== Sys2Proof/Machine/Flags.lean ====
section
/-! DEFINITION. Register words and page contents as functions of the state, and `settle`, which follows a command with what
its changes raise: INT_CAUSE bits (R481), changed status pages (R354). -/
namespace Sys2Proof.Machine

def bitAt (n : Nat) (b : Bool) : Nat := if b then 2 ^ n else 0

/-! ### GLB registers -/

def MState.code : MState → Nat
  | .powerup => 0 | .calibrating => 1 | .ready => 2 | .safelight => 3 | .fault => 4

/-- The vault answers later: it is not mounted yet, or it is being reset (R322, R461). -/
def vaultPending (s : State) : Bool :=
  (s.vault.st ≤ 1 && s.sec.debug == 0) || s.mod.resets.running.contains (.vault, 0) || s.sec.window == some 18

/-- Commands held until READY (R322). -/
def readyHold (op : Nat) : Bool :=
  op == 0x01 || op == 0x06 || op == 0x09 || op == 0x0A || op == 0x0B || op == 0x0C

/-- The command touches the vault, or waits for its mount (R322; FILL into a spool as COPY, assumption 19). -/
def needsVault (e : Entry) : Bool :=
  e.op == 0x02 || (e.op == 0x04 && (desc16 e.desc 40 != 0 || desc16 e.desc 42 != 0)) || (e.op == 0x05 && desc16 e.desc 40 != 0)
    || (e.op == 0x46 && descByte e.desc 16 == 3)

/-- The command is held now (R322). A LOAD_PATTERN that has passed its checks is held until READY. -/
def holdNow (s : State) (q : Queue) (e : Entry) : Bool :=
  (beforeReady s && readyHold e.op) || (vaultPending s && needsVault e)
    || (beforeReady s && e.op == 0x02 && s.pats.any fun p => p.byQueue == q.num && p.bySeq == e.seq)

/-- At least one accepted command is held for READY (R322). -/
def holding (s : State) : Bool := s.queues.any fun q => q.entries.any fun e => e.st == .held && holdNow s q e

/-- GLB_ID (R474). -/
def glbId (s : State) : Nat := 0x72400100 + s.mod.stepping.toNat

/-- GLB_STATUS (R319). -/
def glbStatus (s : State) : Nat :=
  s.mod.mstate.code + bitAt 3 (s.mod.mstate == .ready) + bitAt 4 (s.mod.mstate == .ready || s.mod.mstate == .safelight)
    + bitAt 5 (holding s) + bitAt 6 s.mgmt.up + bitAt 7 s.mod.sidebandUp + tilesLocked s * 2 ^ 16

/-- GLB_LINK (R320): SPEED, WIDTH, FLIT, DEGRADED and RETRAINS. -/
def glbLink (s : State) : Nat :=
  s.link.speed + s.link.width * 16 + bitAt 8 s.link.flit
    + bitAt 9 (s.link.up && (s.link.speed < 6 || s.link.width < 8)) + s.link.retrains * 2 ^ 16

/-- RESERVE_TILE; 0xF is none (R234). -/
def reserveCode (s : State) : Nat :=
  match s.tailor.reserveNow with
  | some t => t.val
  | none => 0xF

/-- Cores that hold at least one piece (R234). -/
def coresPlaced (s : State) : Nat :=
  (s.tiles.toList.map fun t => (t.cores.toList.filter fun c => !c.residents.isEmpty).length).foldl (· + ·) 0

/-- GLB_PLACEMENT (R234). -/
def glbPlacement (s : State) : Nat := s.tailor.profile.toNat + s.tailor.reserve.toNat * 16

/-- GLB_PLACE_STATUS (R234). -/
def glbPlaceStatus (s : State) : Nat := s.tailor.profileNow.toNat + reserveCode s * 2 ^ 8 + coresPlaced s * 2 ^ 16

/-- GLB_SAFELIGHT (R471); CMD reads 0. -/
def glbSafelight (s : State) : Nat := s.mod.slCause.toNat * 16 + s.mod.slResult * 2 ^ 12

/-- GLB_FAULT (R471). -/
def glbFault (s : State) : Nat := s.mod.faultCause + s.mod.faultInst * 2 ^ 8

/-! ### Power registers (R397) -/

def PState.code : PState → Nat
  | .run => 0 | .idle => 1 | .sleep => 2 | .deep => 3 | .off => 4

def pstateOf : Nat → Option PState
  | 0 => some .run | 1 => some .idle | 2 => some .sleep | 3 => some .deep | 4 => some .off | _ => none

/-- Rounded mean of the newest `n` input powers in units of `unit` W; none where unavailable (R391, R396). -/
def powerMean (s : State) (n unit : Nat) : Option Nat :=
  let l := s.hk.powers.take n
  if l.isEmpty || s.hk.monitorFault then none
  else
    let d := l.length * unit * 2 ^ 32
    some ((2 * l.foldl (· + ·) 0 + d) / (2 * d))

/-- POWER of PWR_READING, units of 5 W over 100 ms. -/
def pwrPower (s : State) : Nat := ((powerMean s 1000 5).map (min · 0xFFFE)).getD 0xFFFF

/-- TEMP of PWR_READING, one byte signed. -/
def pwrTemp (s : State) : Nat := match s.hk.tempOut with | some t => wrap 8 t | none => 0x80

def pwrReading (s : State) : Nat := pwrPower s + pwrTemp s * 2 ^ 24

/-- L is below 1,350 W (R373). -/
def throttle (s : State) : Bool := s.hk.limit < 2700

def pwrLimit (s : State) : Nat := s.hk.inForce / 10 + bitAt 12 (throttle s) + s.hk.cause * 2 ^ 16

def pwrCtrl (s : State) : Nat := s.power.target.code + s.power.hold * 2 ^ 8

def pwrStatus (s : State) : Nat :=
  s.power.current.code + bitAt 7 s.power.moving.isSome
    + (match s.power.pending with | some p => p.code | none => 7) * 2 ^ 8
    + bitAt 11 (!s.power.draining.isEmpty) + s.power.hubsUp.toNat * 2 ^ 12 + s.power.tilesUp.toNat * 2 ^ 16

def pwrEvents (s : State) : Nat := s.power.wakes + s.hk.throttles * 2 ^ 8 + s.power.retries * 2 ^ 16

/-! ### Clock, security and debug registers -/

/-- Every die's root PLL is locked (R34); a die without supply has none. -/
def rootLocked (s : State) : Bool :=
  s.mod.pllLost.isEmpty && s.mod.rails && !s.mod.perst && s.power.tilesUp == 0xFFF && s.power.hubsUp == 0xF

/-- CLK_STATUS (R34). DEDUCED: DEPTH_ACTIVE reads 0 whenever a root PLL is not locked (assumption 103). -/
def clkStatus (s : State) : Nat :=
  bitAt 0 (rootLocked s) + (if rootLocked s then s.mod.sscActive.toNat else 0) * 2 + s.mod.lockLoss * 2 ^ 8

/-- A slot's manifest is accepted (R407). -/
def manifestAccepted (m : Manifest) (s : State) : Bool :=
  m.formOk && !s.sec.fuses.revoke.getLsbD m.keySlot.val && s.sec.fuses.svn ≤ m.svn
    && m.steppingMask.getLsbD (s.mod.stepping.toNat - 1) && m.pubDigest == (s.sec.fuses.vkeys[m.keySlot.val]).2 && m.edOk && m.mldsaOk && m.imagesFit

def Slot.valid (x : Slot) (s : State) : Bool := match x.manifest with | some m => manifestAccepted m s | none => false

/-- The slot that is not running. -/
def otherSlot (s : State) : Fin 2 := 1 - s.sec.running

/-- The slot that STAGE writes: the inactive one; slot A in ROM recovery (R410, R411). -/
def Sec.stageSlot (x : Sec) : Fin 2 := if x.recovery then 0 else 1 - x.running

/-- A STAGE that is cut short leaves its slot invalid (R411). -/
def Sec.cutStage (x : Sec) : Sec := { x with slots := if x.norDue then x.slots.set x.stageSlot.val {} else x.slots, norDue := false }

/-- OTHER of SEC_STATUS: invalid, STAGED, previous bundle (R409, R431). -/
def otherCode (s : State) : Nat :=
  let x := s.sec.slots[otherSlot s]
  if x.valid s then (if x.activation.isSome then 2 else 1) else 0

def secStatus (s : State) : Nat :=
  otherCode s + bitAt 4 (s.sec.running == 1) + bitAt 8 s.sec.forced + bitAt 9 s.sec.fallback + s.sec.debug * 2 ^ 10
    + s.sec.fuses.svn * 2 ^ 16 + s.sec.fuses.revoke.toNat * 2 ^ 24

def secUpdStatus (s : State) : Nat :=
  (if s.sec.updState = 1 && (s.sec.norDue || Config.norWaits s.free) then 2 else s.sec.updState) + s.sec.updResult * 2 ^ 8 + s.sec.progress * 2 ^ 24

def dbgState (s : State) : Nat :=
  s.sec.debug + bitAt 4 s.sec.fuses.vdDisable + bitAt 5 s.sec.challenge.isSome + s.sec.dbgResult * 2 ^ 12

/-- DBG_CHALn (R432). -/
def dbgChal (s : State) (n : Nat) : Nat :=
  match s.sec.challenge with
  | some c => (c.extractLsb' (32 * n) 32).toNat
  | none => 0

/-! ### Context and queue tables (R477–R479) -/

def CtxState.code : CtxState → Nat
  | .active => 0 | .revoked => 1 | .faulted => 2

/-- Units of a context under scrub, outgoing or incoming (R353, R362). -/
def scrubbing (s : State) (n : Nat) : Nat := (s.scrubs.filter fun x => x.from_ == some n || x.to_ == some n).length

def ctxSummary (s : State) : Nat := s.ctxs.length + s.queues.length * 2 ^ 16

def ctxEntry (s : State) (n : Nat) : Nat :=
  match s.ctx? n with
  | none => 0
  | some c => 2 ^ 31 + c.st.code * 2 ^ 24 + c.owner.val * 2 ^ 16 + bitAt 8 (0 < scrubbing s n)
      + (s.queues.filter (·.ctx == n)).length

/-- Queue 0's SIZE_LOG2 follows AQ_CTRL while the admin queue does not run (R479). -/
def ctxQueue (s : State) (q : Nat) : Nat :=
  match s.queue? q with
  | none => 0
  | some x => 2 ^ 31 + bitAt 30 x.stopped + bitAt 29 x.sleeping + x.priority * 2 ^ 26 + x.ctx * 2 ^ 16
      + (if q = 0 && !s.admin.running then s.admin.sizeLog2 else x.sizeLog2) * 2 ^ 8 + x.slot

def aqStopped (s : State) : Bool := ((s.queue? 0).map (·.stopped)).getD false

def aqCtrl (s : State) : Nat :=
  bitAt 0 s.admin.en + bitAt 1 s.admin.running + bitAt 2 (aqStopped s) + s.admin.sizeLog2 * 2 ^ 8 + s.admin.vector.toNat * 2 ^ 16

/-! ### BAR0 (R472, R473, R483) -/

/-- A register of PF BAR0 at a word-aligned offset; an unlisted offset reads 0. -/
def pfRead (s : State) (off : Nat) : Nat :=
  let f := s.funcs[(0 : Fin 64)]
  if 0x11000 ≤ off && off < 0x12000 then ctxEntry s ((off - 0x11000) / 4)
  else if 0x12000 ≤ off && off < 0x16000 then ctxQueue s ((off - 0x12000) / 4)
  else if 0xF0010 ≤ off && off < 0xF0030 then dbgChal s ((off - 0xF0010) / 4)
  else match off with
  | 0x0 => glbId s
  | 0x4 => glbStatus s
  | 0x8 => 0x10000400
  | 0x40 => glbPlacement s
  | 0x44 => glbPlaceStatus s
  | 0x48 => glbLink s
  | 0x50 => f.fspLo.toNat
  | 0x54 => f.fspHi.toNat
  | 0x58 => glbSafelight s
  | 0x5C => glbFault s
  | 0x1000 => aqCtrl s
  | 0x1008 => s.admin.ringLo.toNat
  | 0x100C => s.admin.ringHi.toNat
  | 0x1010 => s.admin.cqLo.toNat
  | 0x1014 => s.admin.cqHi.toNat
  | 0x1018 => s.admin.dbLo.toNat
  | 0x101C => s.admin.dbHi.toNat
  | 0x1020 => s.admin.cspLo.toNat
  | 0x1024 => s.admin.cspHi.toNat
  | 0x10000 => ctxSummary s
  | 0x20000 => f.intCause.toNat
  | 0x20004 => f.intEnable.toNat
  | 0x20008 => f.intVector.toNat
  | 0x2000C => f.intCause.toNat
  | 0x30000 => pwrCtrl s
  | 0x30004 => pwrStatus s
  | 0x30008 => s.hk.hostCap / 10
  | 0x3000C => pwrLimit s
  | 0x30010 => pwrReading s
  | 0x30014 => pwrEvents s
  | 0x40000 => s.mod.sscDepth.toNat
  | 0x40004 => clkStatus s
  | 0x50000 => secStatus s
  | 0x50004 => bitAt 0 s.sec.hybridReq
  | 0x50008 => s.sec.updLo.toNat
  | 0x5000C => s.sec.updHi.toNat
  | 0x50010 => s.sec.updLen
  | 0x50018 => secUpdStatus s
  | 0xF0000 => dbgState s
  | 0xF0004 => s.sec.tokLo.toNat
  | 0xF0008 => s.sec.tokHi.toNat
  | _ => 0

/-- A register of VF BAR0 (R483, R484). -/
def vfRead (s : State) (fn : Fin 64) (off : Nat) : Nat :=
  let f := s.funcs[fn]
  match off with
  | 0x0 => glbId s
  | 0x4 => glbStatus s
  | 0x8 => 0x10000400
  | 0xC => fn.val
  | 0x50 => f.fspLo.toNat
  | 0x54 => f.fspHi.toNat
  | 0x100 => f.intCause.toNat
  | 0x104 => f.intEnable.toNat
  | 0x108 => f.intVector.toNat
  | 0x10C => f.intCause.toNat
  | _ => 0

/-- BAR0 word of a function. In ROM recovery blocks other than GLB and SEC read 0 (R489). -/
def bar0Read (s : State) (fn : Fin 64) (off : Nat) : Nat :=
  if fn = 0 then
    (if s.sec.recovery && !(off < 0x1000 || (0x50000 ≤ off && off < 0x60000)) then 0 else pfRead s off)
  else vfRead s fn off

/-- The bytes of the containing register that a read of `width` bytes at `off` returns (R9). -/
def readBytes (word off width : Nat) : Nat := word / 2 ^ (8 * (off % 4)) % 2 ^ (8 * min width (4 - off % 4))

/-! ### Management space (R492) -/

def TileState.code : TileState → Nat
  | .dark => 0 | .threading => 1 | .locked => 2 | .fogged => 3 | .quarantined => 4

def CoreState.code : CoreState → Nat
  | .dark => 0 | .idle => 1 | .loading => 2 | .running => 3 | .held => 4 | .retired => 5

def LaserState.code : LaserState → Nat
  | .off => 0 | .warmHold => 1 | .operating => 2 | .fading => 3 | .tuning => 4 | .faded => 5 | .failed => 6

def PortState.code : PortState → Nat
  | .unpartnered => 0 | .down => 1 | .training => 2 | .active => 3

/-- Bit i of the result is `f i`, for i below n. -/
def bitsOf (n : Nat) (f : Nat → Bool) : Nat := ((List.range n).map fun i => bitAt i (f i)).foldl (· + ·) 0

def Core.row (c : Core) (r : Nat) : Row := if h : r < 67 then c.rows[r] else {}

/-- The row is in service: not quarantined, and not the row that row 66 stands in for in its slot (R50, R206, R207). -/
def Core.inService (c : Core) (r : Nat) : Bool :=
  c.st != .retired && !(c.row r).quar && (match c.baste with | some (x, _) => x.val != r | none => true)

/-- Smallest margin over the rows in service: row and margin (R74). -/
def Core.minMargin (c : Core) : Nat × Nat :=
  (List.range 67).foldl (fun acc r =>
    if c.inService r && (c.row r).margin != 0xFFFF && ((c.row r).margin < acc.2 || acc.1 == 0x7F)
    then (r, (c.row r).margin) else acc) (0x7F, 0xFFFF)

/-- Largest residual over the rows in service; 0xFFFF where none is measured (R75). -/
def Core.maxResid (c : Core) : Nat :=
  match (List.range 67).filter fun r => c.inService r && (c.row r).resid != 0xFFFF with
  | [] => 0xFFFF
  | rs => (rs.map fun r => (c.row r).resid).foldl max 0

/-- STATE of a core (R69). LOADING and RUNNING last as long as the load, or a pass, is under way: `busy` (assumption 14). -/
def Core.stateCode (busy : Bool) (c : Core) : Nat :=
  if (c.st == .loading || c.st == .running) && !busy then CoreState.idle.code else c.st.code

/-- A register of a core block (R70–R77). -/
def coreRead (busy : Bool) (c : Core) (off : Nat) : Nat :=
  if 0x100 ≤ off && off ≤ 0x208 then (c.row ((off - 0x100) / 4)).margin + bitAt 16 (c.row ((off - 0x100) / 4)).quar
  else if 0x400 ≤ off && off < 0x618 then
    let r := c.row ((off - 0x400) / 8)
    let h := if (off - 0x400) / 4 % 2 = 0 then r.a else r.b
    wrap 16 h.o + h.k % 2 ^ 16 * 2 ^ 16
  else match off with
  | 0x0 => c.stateCode busy + bitAt 4 (c.row 66).quar
      + (match c.baste with | some (r, quar) => r.val * 2 ^ 8 + bitAt 15 quar | none => 0x7F * 2 ^ 8)
      + (match c.block with | some b => (if b.analog then 1 else 2) * 2 ^ 16 | none => 0)
  | 0x4 => bitsOf 32 fun i => (c.row i).quar
  | 0x8 => bitsOf 32 fun i => (c.row (32 + i)).quar
  | 0xC => bitsOf 3 fun i => (c.row (64 + i)).quar
  | 0x10 => c.passes.toNat
  | 0x14 => c.replays.toNat
  | 0x18 => c.selvFail.toNat
  | 0x1C => c.wloads.toNat
  | 0x20 => c.adcClip.toNat
  | 0x28 => c.minMargin.2 + c.minMargin.1 * 2 ^ 16
  | 0x2C => c.maxResid
  | _ => 0

/-- CHAN of LS_LASER (R184): a spare's channel while it serves one or is tuned for one, otherwise 8k. -/
def Laser.chanShown (n : Nat) (l : Laser) : Nat := if n < 64 || l.serving || l.st == .tuning then l.chan else 8 * (n - 64)

def Laser.word (n : Nat) (l : Laser) : Nat :=
  l.bias % 2 ^ 12 + l.margin % 2 ^ 8 * 2 ^ 12 + l.chanShown n % 2 ^ 6 * 2 ^ 22 + l.st.code * 2 ^ 28

/-- Lane bits of the lane groups in use: group g holds lanes 4g to 4g + 3 (R171, R186). -/
def laneMask (g : BitVec 4) : Nat := bitsOf 16 fun i => g.getLsbD (i / 4)

def groupCount (g : BitVec 4) : Nat := bitsOf 4 (fun i => g.getLsbD i) |> fun v => v % 2 + v / 2 % 2 + v / 4 % 2 + v / 8 % 2

def Seam.word (x : Seam) : Nat := x.st.code + groupCount x.groups * 16 + laneMask x.groups * 2 ^ 16

/-- A contact-sheet half: signed units of 0.05 °C, 0x8000 where no value (R183). -/
def sheetHalf (bank : List (Nat × Int)) (k : Nat) : Nat :=
  match bank.find? (·.1 == k) with
  | some x => wrap 16 x.2
  | none => 0x8000

/-- The tile takes light from J4 (R180): RLI mode, on a tile that has light at all. -/
def Tile.takesRemote (x : Tile) : Bool := x.rli && (x.st == .threading || x.st == .locked || x.st == .fogged)

/-- The walk runs on the core (R210, R389): not in IDLE, nor while the tile is not LOCKED, nor while its core is RETIRED,
LOADING or in a sweep. -/
def Tile.walks (busy : Bool) (x : Tile) (c : Core) : Bool :=
  x.st == .locked && x.rest == .run && c.st != .retired && !(busy && c.st == .loading) && !c.sweep

/-- The row whose slot is open; 0x7F while the walk is paused (R218). -/
def Tile.walkShown (busy : Bool) (x : Tile) (c : Core) : Nat :=
  match c.walk with
  | some r => if x.walks busy c then r.val else 0x7F
  | none => 0x7F

/-- A register of a tile's window (R179–R186, R216–R220). -/
def tileRead (s : State) (t : Fin 12) (off : Nat) : Nat :=
  let x := s.tiles[t]
  let seam := fun (p : Nat) => if h : p < 4 then x.seams[p] else {}
  if 0x20000 ≤ off && off < 0x24000 then
    (if h : (off - 0x20000) / 0x1000 < 4 then
      coreRead (Config.stillBusy s.free) x.cores[(off - 0x20000) / 0x1000] (off % 0x1000) else 0)
  else if 0x100000 ≤ off && off < 0x108600 then
    sheetHalf x.bank0 ((off - 0x100000) / 2) + sheetHalf x.bank0 ((off - 0x100000) / 2 + 1) * 2 ^ 16
  else if 0x110000 ≤ off && off < 0x118600 then
    sheetHalf x.bank1 ((off - 0x110000) / 2) + sheetHalf x.bank1 ((off - 0x110000) / 2 + 1) * 2 ^ 16
  else if 0x10000 ≤ off && off < 0x10120 then
    (if h : (off - 0x10000) / 4 < 72 then x.lasers[(off - 0x10000) / 4].word ((off - 0x10000) / 4) else 0)
  else if 0x10 ≤ off && off < 0x30 then
    (if h : (off - 0x10) / 8 < 4 then
      let d := x.dith[(off - 0x10) / 8]
      if off % 8 = 0 then d.ftw.toNat else bitAt 0 d.en + d.target.toNat * 16 + d.amp.toNat * 2 ^ 8
     else 0)
  else if 0x30000 ≤ off && off < 0x30040 then
    let m := seam ((off - 0x30000) / 16)
    (match off % 16 with
     | 0 => m.word
     | 4 => m.corr.toNat
     | 8 => m.replay.toNat
     | 12 => m.drops.toNat
     | _ => 0)
  else match off with
  | 0x0 => x.st.code + bitAt 4 x.takesRemote + bitsOf 4 (fun i => if h : i < 4 then x.cores[i].st == .retired else false) * 2 ^ 8
      + ((List.range 64).filter fun i => x.dark.getLsbD i).length * 2 ^ 16
  | 0x4 => x.fogCount.toNat
  | 0x8 => x.htrMismatch.toNat
  | 0x40 => x.csGen.toNat
  | 0x10200 => x.swaps.toNat
  | 0x10300 => if t.val = 0 then bitAt 0 s.mod.rliEn + s.mod.rliStatus * 16 else 0
  | 0x40000 => x.cal.step + x.cal.runs * 16 + bitAt 10 x.cal.accel + bitAt 11 x.cal.restore + x.cal.stResult * 2 ^ 16
  | 0x40004 => ((List.range 4).map fun c =>
      (if h : c < 4 then x.walkShown (Config.stillBusy s.free) x.cores[c] else 0) * 2 ^ (8 * c)).foldl (· + ·) 0
  | 0x40008 => x.cal.nearest + x.cal.source * 16 + x.cal.setGen % 2 ^ 16 * 2 ^ 16
  | 0x4000C => x.cal.margin + x.cal.marginRow * 2 ^ 16 + x.cal.marginCore * 2 ^ 24
  | 0x40010 => x.cal.resid + x.cal.residCore * 2 ^ 24
  | 0x40014 => x.cal.third.toNat
  | 0x40018 => x.cal.quar.toNat
  | 0x4001C => x.cal.claims.toNat
  | 0x40020 => x.cal.madeFp.toNat
  | _ => 0

def tempByte (t : Option Int) : Nat := match t with | some x => wrap 8 (x / 100) | none => 0x80

/-- A vault register (R284). -/
def vaultRead (v : Vault) (off : Nat) : Nat :=
  match off with
  | 0x0 => v.st + bitAt 3 v.replayed + bitAt 4 v.writeHold + bitAt 5 v.readHold + tempByte v.tempMin * 2 ^ 16
      + tempByte v.tempMax * 2 ^ 24
  | 0x4 => v.free
  | 0x8 => v.spare
  | 0xC => v.xact / 2 ^ 26
  | 0x10 => v.commits.toNat
  | 0x14 => v.discard.toNat
  | 0x18 => v.corr.toNat
  | 0x1C => v.uncorr.toNat
  | _ => 0

def hkSensor (x : Sensor) : Nat :=
  (match x.used with | some t => wrap 16 t | none => 0x8000) + bitAt 26 x.fast + bitAt 27 x.subst + x.status * 2 ^ 28

/-- A housekeeping register (R398). -/
def hkRead (s : State) (off : Nat) : Nat :=
  if 0x100 ≤ off && off < 0x100 + 4 * 282 then
    (if h : (off - 0x100) / 4 < 282 then hkSensor s.hk.sensors[(off - 0x100) / 4] else 0)
  else match off with
  | 0x0 => bitAt 0 s.hk.refEn + bitAt 1 s.hk.refSettled
  | 0x4 => s.hk.limit / 2 + s.hk.mgmtCap / 2 * 2 ^ 12 + s.hk.cause * 2 ^ 24 + bitAt 28 (throttle s) + bitAt 29 s.hk.relaxHold
  | 0x8 => ((powerMean s 100 1).map (min · 0xFFFE)).getD 0xFFFF
  | 0xC => s.hk.trip.toNat
  | 0x10 => s.hk.sensFaults.toNat
  | 0x14 => s.hk.falls.toNat
  | _ => 0

def monData (m : Mon) : Nat :=
  m.data.toNat + m.input.toNat * 2 ^ 16 + bitAt 28 m.inj + bitAt 29 m.notSettled + bitAt 30 m.overrun + bitAt 31 m.valid

/-- A register of a monitor converter (R398). -/
def monRead (s : State) (m : Mon) (off : Nat) : Nat :=
  if 0x20 ≤ off && off < 0x50 then
    ((List.range 4).map fun i => (m.seqEnt.toList.getD ((off - 0x20) / 4 * 4 + i) 0).toNat * 2 ^ (8 * i)).foldl (· + ·) 0
  else match off with
  | 0x0 => bitAt 0 m.en + m.trig * 2 ^ 8 + m.seqLen * 2 ^ 16
  | 0x4 => bitAt 0 m.conv.isSome + bitAt 1 m.seqBusy + bitAt 2 s.hk.refSettled
  | 0x8 => monData m
  | 0x10 => m.injDropped + m.overlap * 2 ^ 16
  | _ => 0

/-- MC_PLAUS (R398). -/
def mcPlaus (s : State) : Nat := s.hk.plausDiff + s.hk.plausFails * 2 ^ 16

/-- A word of the management space; unlisted addresses read 0 (R492). Reads from here clear nothing (R398). -/
def mgmtWord (s : State) (a : Nat) : Nat :=
  if 0x40000000 ≤ a && a < 0x4C000000 then
    (if h : (a - 0x40000000) / 0x1000000 < 12 then tileRead s ⟨(a - 0x40000000) / 0x1000000, h⟩ (a % 0x1000000) else 0)
  else if 0x50010000 ≤ a && a < 0x50020000 then vaultRead s.vault (a - 0x50010000)
  else if 0x50020000 ≤ a && a < 0x50030000 then hkRead s (a - 0x50020000)
  else if 0x50030000 ≤ a && a < 0x50030100 then monRead s s.hk.mon[0] (a - 0x50030000)
  else if 0x50030100 ≤ a && a < 0x50030200 then monRead s s.hk.mon[1] (a - 0x50030100)
  else if a = 0x50030200 then mcPlaus s
  else 0

/-! ### Pins (R306, R456, R498, R501) -/

def faultN (s : State) : Bool := s.mod.mstate != .fault && !s.mod.thermtrip
def thermtripN (s : State) : Bool := !s.mod.thermtrip

/-- CLKREQ_N: asserted, low, while the auxiliary rail is present, and never released (R306). -/
def clkreqN (s : State) : Bool := !s.mod.auxOn

def smbAlert (s : State) : Bool := s.mod.thermtrip || throttle s || s.hk.coolingFault

/-- What an LED does (R501). -/
inductive Led where
  | lit | blink1 | blink4 | dark
  deriving DecidableEq, Repr

def ledPower (s : State) : Led := if !s.mod.auxOn then .dark else if s.mod.rails && s.mod.mainOn then .lit else .blink1
def ledActive (s : State) : Led :=
  if !s.works.isEmpty then .lit
  else if s.mod.mstate == .calibrating || s.sec.cmd == .activate then .blink4 else .dark
def ledFault (s : State) : Led :=
  if s.mod.mstate == .fault || s.mod.thermtrip then .lit else if s.mod.mstate == .safelight then .blink1 else .dark

/-! ### Status pages (R353) -/

/-- Body of a function status page from byte 8 on: the page has GEN before it. -/
def funcPageBody (s : State) (fn : Fin 64) : List Byte :=
  let owned := s.ctxs.filter (·.owner == fn)
  leBytes 1 s.mod.mstate.code ++ leBytes 1 (tilesLocked s) ++ leBytes 1 s.tailor.profileNow.toNat ++ leBytes 1 (reserveCode s)
    ++ leBytes 2 (pwrPower s) ++ leBytes 1 (pwrTemp s) ++ [0]
    ++ leBytes 4 (glbLink s % 1024)
    ++ leBytes 4 (bitAt 0 (owned.any fun c => 0 < scrubbing s c.num) + bitAt 1 (holding s))
    ++ leBytes 4 owned.length ++ List.replicate 36 0
    ++ ((s.tiles.toList.map fun t => leBytes 2 t.cal.margin ++ leBytes 2 t.cal.resid).flatten)
    ++ List.replicate (4096 - 112) 0

/-- Bytes 8–79 of a context status page. -/
def ctxPageHead (s : State) (c : Ctx) : List Byte :=
  leBytes 2 c.num ++ leBytes 1 c.st.code ++ leBytes 1 (min (scrubbing s c.num) 255) ++ List.replicate 4 0
    ++ leBytes 8 c.completed.toNat ++ leBytes 8 c.saturated.toNat ++ leBytes 8 c.snags.toNat ++ leBytes 8 c.discarded.toNat
    ++ leBytes 8 c.replayed.toNat ++ leBytes 8 c.late.toNat ++ leBytes 8 c.errors.toNat ++ leBytes 8 c.switches.toNat

def ctxPageBody (s : State) (c : Ctx) : List Byte := ctxPageHead s c ++ List.replicate (4096 - 80) 0

/-! ### Attested state (R416, R417) -/

/-- A bundle runs: Thimble has booted one. -/
def booted (s : State) : Bool := s.mod.mstate != .powerup && !s.sec.recovery

def manifestOf (s : State) (n : Fin 2) : Option Manifest := s.sec.slots[n].manifest

/-- The other slot's manifest where the slot is valid. -/
def otherManifest (s : State) : Option Manifest :=
  if (s.sec.slots[otherSlot s]).valid s then manifestOf s (otherSlot s) else none

/-- Digest of an image of a manifest. -/
def imageDigest (m : Option Manifest) (type : Nat) : Nat :=
  match m with
  | some m => ((m.images.find? (·.type == type)).map (·.digest)).getD 0
  | none => 0

/-- The 34 components in the order of R416: type, instance, and the processor behind it. -/
def components : List (Nat × Nat × Proc) :=
  [(1, 0, .thimble), (2, 0, .management), (3, 0, .housekeeping), (4, 0, .vault), (5, 0, .tailor), (5, 2, .tailor)]
    ++ (List.range 4).map (fun h => (6, h, Proc.shuttle))
    ++ (List.range 12).map (fun t => (7, t, Proc.tile)) ++ (List.range 12).map (fun t => (8, t, Proc.tile))

/-- The hub die of the Tailor that was active when the activation began: a takeover lies in its last Tailor swap (R412). -/
def firstActive (s : State) : Nat := if s.tailor.onHd2 != decide (18 ≤ s.sec.swapped) then 2 else 0

/-- The place of a component in the swap order of R412. -/
def swapIndex (s : State) : Nat × Nat × Proc → Nat
  | (_, _, .thimble) => 21
  | (_, _, .management) => 20
  | (_, _, .housekeeping) => 19
  | (_, _, .vault) => 18
  | (_, h, .tailor) => if h = firstActive s then 17 else 16
  | (_, h, .shuttle) => 12 + h
  | (_, t, .tile) => t
  | (_, _, .hubDie) => 22

/-- The component's power domain is down. -/
def compOff (s : State) : Nat × Nat × Proc → Bool
  | (_, h, .tailor) | (_, h, .shuttle) => !s.power.hubsUp.getLsbD h
  | (_, t, .tile) => !s.power.tilesUp.getLsbD t
  | _ => false

/-- The component is in a partial reset (R461). -/
def compResetting (s : State) : Nat × Nat × Proc → Bool
  | (_, h, .tailor) => s.mod.resets.running.contains (.tailor, h) || s.mod.resets.running.contains (.hubDie, h)
  | (_, h, .shuttle) => s.mod.resets.running.contains (.shuttle, h) || s.mod.resets.running.contains (.hubDie, h)
  | (_, i, p) => s.mod.resets.running.contains (p, i)

/-- State of a component (R417). -/
def compState (s : State) (c : Nat × Nat × Proc) : CompState :=
  if !booted s && c.1 != 1 then .pending
  else if compResetting s c then .resetting
  else if (match c with | (_, t, .tile) => (if h : t < 12 then s.tiles[t].imageBad else false) | _ => false) then .failed
  else if compOff s c then .off
  else if s.sec.cmd == .activate then (if swapIndex s c < s.sec.swapped then .activated else .activating)
  else if otherCode s == 1 then .staged
  else .running

/-- One component's entry: a swapped one runs the other slot's image (R412); PENDING has no digest. -/
def compEntry (s : State) (c : Nat × Nat × Proc) : Nat × Nat × CompState × Nat × Nat :=
  let st := compState s c
  let run := if st == .activated then otherManifest s else manifestOf s s.sec.running
  (c.1, c.2.1, st, if st == .pending then 0 else imageDigest run c.1, imageDigest (otherManifest s) c.1)

/-- Units of a list that a context owns. -/
def unitsOf (l : List (Nat × Nat)) (n : Nat) : List Nat := (l.filter (·.2 == n)).map (·.1)

/-- Context entries: every context that owns a unit, and the units under scrub as 0xFFFF. -/
def ctxReports (s : State) : List CtxReport :=
  ((s.ctxs.filter fun c => s.swatches.any (·.2 == c.num) || s.bolts.any (·.2 == c.num)).map fun c =>
    { ctx := c.num, fn := c.owner.val, st := c.st, spools := (s.vault.spools.filter (·.ctx == some c.num)).map (·.id)
      hub := (unitsOf s.swatches c.num).filter (· < 256), tray := (unitsOf s.swatches c.num).filter (256 ≤ ·)
      bolts := unitsOf s.bolts c.num })
    ++ (if s.scrubs.isEmpty then [] else
      [{ ctx := 0xFFFF, fn := 0, st := .active, spools := []
         hub := (s.scrubs.filter (·.kind == 0)).map (·.unit), tray := (s.scrubs.filter (·.kind == 1)).map (·.unit)
         bolts := (s.scrubs.filter (·.kind == 2)).map (·.unit) }])

/-- SLOTS of a report. -/
def slotsByte (s : State) : Nat :=
  s.sec.running.val + bitAt 1 s.sec.fallback + bitAt 2 s.sec.forced + otherCode s * 8

def attested (s : State) : Attested :=
  { svn := s.sec.fuses.svn, revoked := s.sec.fuses.revoke, debug := s.sec.debug, mstate := s.mod.mstate, slots := slotsByte s
    runManifest := ((manifestOf s s.sec.running).map (·.digest)).getD 0
    otherManifest := ((otherManifest s).map (·.digest)).getD 0
    runSvn := ((manifestOf s s.sec.running).map (·.svn)).getD 0
    otherSvn := ((otherManifest s).map (·.svn)).getD 0
    comps := components.map (compEntry s), ctxs := ctxReports s }

/-- GENERATION counts the commands that changed an attested value (R416; assumption 40). -/
def countGeneration (a b : State) : State :=
  if attested a == attested b then b else { b with sec := { b.sec with generation := b.sec.generation + 1 } }

/-! ### What follows a change -/

/-- The module events that a change makes, for every function: MSTATE, THROTTLE, POWER, PLACEMENT, LINK, TILES (R481). -/
def changeBits (a b : State) : BitVec 11 :=
  BitVec.ofNat 11
    (bitAt 0 (a.mod.mstate != b.mod.mstate) + bitAt 1 (throttle a != throttle b)
      + bitAt 2 (a.power.current != b.power.current)
      + bitAt 3 (a.tailor.profileNow != b.tailor.profileNow || a.tailor.reserveNow != b.tailor.reserveNow)
      + bitAt 4 (a.link.speed != b.link.speed || a.link.width != b.link.width)
      + bitAt 5 (tilesLocked a != tilesLocked b))

/-- A context of the function entered the state with this command. -/
def enteredBy (a b : State) (fn : Fin 64) (st : CtxState) : Bool :=
  b.ctxs.any fun c => c.owner == fn && c.st == st && (a.ctxs.any fun d => d.num == c.num && d.st != st)

/-- The bits one function gets (R481): its contexts' states, the module's events, and `written`, the RESULT fields the
command wrote. -/
def eventBits (a b : State) (written : BitVec 11) (fn : Fin 64) : BitVec 11 :=
  changeBits a b ||| written
    ||| BitVec.ofNat 11 (bitAt 9 (enteredBy a b fn .faulted) + bitAt 10 (enteredBy a b fn .revoked))

/-- Raises the events of a command on every enabled function. -/
def raiseAll (a b : State) (written : BitVec 11) : State :=
  (List.finRange 64).foldl (fun s fn =>
    if s.funcs[fn].enabled && eventBits a b written fn != 0 then raiseInt fn (eventBits a b written fn) s else s) b

/-- Marks the status pages whose content a command changed (R354). -/
def markPages (a b : State) : State :=
  { b with
    funcs := vecMap (fun i f =>
      if h : i < 64 then
        (if f.enabled && funcPageBody a ⟨i, h⟩ != funcPageBody b ⟨i, h⟩ then { f with dirty := true } else f)
      else f) b.funcs
    ctxs := b.ctxs.map fun c =>
      match a.ctx? c.num with
      | some d => if ctxPageHead a d == ctxPageHead b c then c else { c with dirty := true }
      | none => { c with dirty := true } }

/-- The tile may be the reserve where RESERVE names it (R235): LOCKED, four cores in service, no dark channel. -/
def reserveFit (s : State) (t : Fin 12) : Bool :=
  let x := s.tiles[t]
  x.st == .locked && x.dark == 0 && x.cores.toList.all (·.st != .retired)

def tileHoldsPiece (s : State) (t : Nat) : Bool := s.pats.any (·.onTile t)

/-- The tile that is to be the reserve (R235), among the fit ones that meet `p`: the one RESERVE names, otherwise the
highest-numbered that takes no remote light. -/
def reserveWant (s : State) (p : Fin 12 → Bool) : Option (Fin 12) :=
  match (List.finRange 12).find? fun t => t.val == s.tailor.reserve.toNat && reserveFit s t && p t with
  | some t => some t
  | none => (List.finRange 12).reverse.find? fun t => reserveFit s t && !s.tiles[t].rli && p t

/-- The reserve now held stays one: its tile is in service and holds no piece. -/
def reserveKeeps (s : State) (t : Fin 12) : Bool :=
  (s.tiles[t].st == .locked || s.tiles[t].st == .fogged) && !tileHoldsPiece s t.val

/-- The reserve (R235): none before READY or under another profile; the tile that a write empties, once it holds no piece; the
one held, while it holds none; otherwise the first fit tile that holds none. And the tile still to be emptied. -/
def reserveNext (s : State) : Option (Fin 12) × Option (Fin 12) :=
  if s.tailor.profile != 1 || s.mod.mstate != .ready then (none, none)
  else
    match s.tailor.toEmpty with
    | some t => if tileHoldsPiece s t.val then (s.tailor.reserveNow.filter (reserveKeeps s), some t) else (if reserveFit s t then some t else none, none)
    | none =>
      match s.tailor.reserveNow with
      | some t => (if reserveKeeps s t then some t else none, none)
      | none => (reserveWant s (fun t => !tileHoldsPiece s t.val), none)

/-- The Tailor's reserve follows the state, and PROFILE shows the profile written once the moves toward it are done (R236). -/
def tailorFollow (s : State) : State :=
  let s : State := { s with tailor := { s.tailor with reserveNow := (reserveNext s).1, toEmpty := (reserveNext s).2 } }
  { s with tailor := { s.tailor with profileNow := if movesDone s then s.tailor.profile else s.tailor.profileNow } }

/-- The standby has taken over on every tile (R27): tiles that are not LOCKED hold no pass, so none of theirs is waited for. It is
the active Tailor now, and the former one is partially reset. -/
def takeoverFollow (s : State) : State :=
  if s.tailor.takeover && !(s.tiles.toList.any fun x => x.st == .locked && x.pend.contains .takeover) then
    { mapTiles (fun _ x => { x with pend := x.pend.filter (· != .takeover) }) s with
      tailor := { s.tailor with onHd2 := !s.tailor.onHd2, takeover := false }
      mod := { s.mod with resets := { s.mod.resets with running := (.tailor, if s.tailor.onHd2 then 2 else 0) :: s.mod.resets.running } } }
  else s

/-! ### Sweeps, dither and self-test -/

/-- A row's new figures come into force. -/
def Row.take (x : Half × Half × Nat × Nat) (r : Row) : Row :=
  { r with a := x.1, b := x.2.1, margin := x.2.2.1, resid := x.2.2.2, meas := [] }

/-- What row 66's own slot has adopted comes into force (R78). -/
def Core.takeSlot (c : Core) : Core :=
  match c.took with
  | some v => { Core.updRow 66 (Row.take v) c with took := none }
  | none => c

/-- A substitution has begun or ended (R60): a single-row load, counted (R73). -/
def Core.reload (old new : Core) : Core :=
  if old.baste.map (·.1) == new.baste.map (·.1) then new else { new.underLoad with wloads := new.wloads + 1 }

/-- The row of the open slot that calibration has found bad is quarantined (R196, R209): it stays substituted, and the walk
stops on the core. -/
def Core.settleSlot (k : Core) : Core :=
  let c := k.takeSlot
  match c.walk with
  | some r =>
    if c.slotBad then
      { Core.updRow r (fun x => { x with quar := true, meas := [] }) c with
        walk := none, centring := false, slotBad := false, accelLeft := 0, baste := if r = 66 then c.baste else some (r, true) }
    else c
  | none => { c with slotBad := false }

/-- The walk on a core ends early: the row under recalibration returns to service (R50). -/
def Core.endWalk (c : Core) : Core :=
  match c.settleSlot.walk with
  | none => c.settleSlot
  | some r =>
    { Core.updRow r (fun x => { x with meas := [] }) c.settleSlot with
      walk := none, centring := false
      baste := match c.settleSlot.baste with | some (_, true) => c.settleSlot.baste | _ => none }

/-- A sweep takes the vacated core (R209, R214); its weights make room for calibration codes. -/
def Core.startSweep (c : Core) : Core :=
  { Core.reload c (Core.endWalk c) with sweep := true, vacate := false, block := none, centring := false, sweepBad := [] }

/-- CAL_TILE_MARGIN and CAL_TILE_RESID (R220): the tile's rows in service, none of a retired core. DESIGN CHOICE: of several that
hold the extreme, the lowest core is named, and its lowest row (assumption 114). -/
def Tile.summary (x : Tile) : Tile :=
  let cs := x.cores.toList.zipIdx
  let m := cs.foldl (fun (best : Nat × Nat × Nat) c =>
    let y := c.1.minMargin
    if y.1 != 0x7F && (best.2.1 == 0x7F || y.2 < best.2.2) then (c.2, y.1, y.2) else best) (0, 0x7F, 0xFFFF)
  let e := cs.foldl (fun (best : Nat × Nat) c =>
    let y := c.1.maxResid
    if y != 0xFFFF && (best.2 == 0xFFFF || best.2 < y) then (c.2, y) else best) (0, 0xFFFF)
  { x with cal := { x.cal with marginCore := m.1, marginRow := m.2.1, margin := m.2.2, residCore := e.1, resid := e.2 } }

/-- A slot that was open has ended: the tile's summary is formed anew (R220). -/
def Tile.slotEnded (old new : Tile) : Tile :=
  if (List.finRange 4).any fun c => (old.cores[c]).walk.isSome && (new.cores[c]).walk != (old.cores[c]).walk then new.summary else new

/-- Dither targets now (R166): laser bias in steps 1 and 2, a spare while it is tuned, ring heaters in running recalibration and
sweeps. DESIGN CHOICE: a spare being tuned takes all four generators while heaters are centred as well (assumption 32). -/
def ditherTarget (x : Tile) : BitVec 2 :=
  if x.st == .threading && (x.cal.step == 1 || x.cal.step == 2) then 2
  else if (x.lasers.toList.drop 64).any fun l => l.st == .tuning && !x.swapping.any fun p => p.2.val == l.chan then 3
  else if x.st == .locked && x.cores.toList.any fun c => c.centring || c.sweep then 1
  else 0

/-- A tone of the range that tile controllers use (R165), FTW 27,488 to 1,099,512; under ACCEL 50 kHz or more, FTW 274,878
(R212). -/
def toneIn (fast : Bool) (w : Word) : Word :=
  let low := if fast then 274878 else 27488
  BitVec.ofNat 32 (low + w.toNat % (1099513 - low))

/-- A heater is centred in a slot of an accelerated walk (R212). -/
def Tile.fastTones (x : Tile) : Bool := x.st == .locked && x.cores.toList.any fun c => c.centring && 0 < c.accelLeft

/-- The generators follow their use (R165, R182): tone and amplitude are the tile controller's (assumption 32). -/
def ditherFollow (t : Fin 12) (s : State) : State :=
  let x := s.tiles[t]
  let want := ditherTarget x
  let fast := want == 1 && x.fastTones
  if want == (x.dith[0]).target && (!fast || x.dith.toList.all fun d => 274878 ≤ d.ftw.toNat) then s
  else if want = 0 then updTile t Tile.ditherOff s
  else
    let start := fun g (d : Dith) =>
      { d with ftw := toneIn fast (Config.ditherTone t.val g s.free), amp := Config.ditherAmp t.val g s.free, target := want, en := true }
    draw (updTile t (fun x => { x with dith := vecMap start x.dith }) s)

/-- A loaded pattern uses the tile (R211, R214). -/
def tileUsed (s : State) (t : Fin 12) : Bool := s.pats.any fun p => p.runnable && p.onTile t.val

/-- The tile is free for a test (R214): LOCKED, awake, and used by no loaded pattern. -/
def testFree (s : State) (t : Fin 12) : Bool := s.tiles[t].st == .locked && s.tiles[t].rest == .run && !tileUsed s t

/-- An earlier SELF_TEST is to test the tile, and can (R215). -/
def testClaims (s : State) (t : Fin 12) : Bool :=
  match s.selfTest with
  | some x => x.tiles.getLsbD t.val && !x.tested.getLsbD t.val && !x.passed.getLsbD t.val && testFree s t
  | none => false

/-- The next tile is put under test, as soon as one is free (R214, R215): the lowest of the mask that is not tested and was not
passed over. Each of its cores is swept. -/
def selfTestFollow (s : State) : State :=
  match s.selfTest with
  | none => s
  | some x =>
    let left := (List.finRange 12).filter fun t => x.passed.getLsbD t.val && !testFree s t
    let x := { x with passed := left.foldl (fun m t => m &&& ~~~(1#12 <<< t.val)) x.passed }
    let s := { s with selfTest := some x }
    if s.tiles.toList.any (·.testing) then s
    else
      match (List.finRange 12).find? fun t =>
          x.tiles.getLsbD t.val && !x.tested.getLsbD t.val && !x.passed.getLsbD t.val && testFree s t with
      | some t =>
        ditherFollow t (updTile t (fun y =>
          let z := Tile.slotEnded y (mapCores (fun c => if c.st == .retired then c else c.startSweep) y)
          { z with testing := true, cal := { z.cal with step := 9 } }) s)
      | none => s

/-- The Tailor's work after every command: a takeover that is complete, pieces that stand nowhere placed, moves ended, the
reserve and the profile, work items dealt, routes and tiers, credits and waits, stripe widths (R27, R231–R249, R257). -/
def placementFollow (a b : State) : State :=
  edgeFollow (bufFollow (routeFollow a (dealFollow (tailorFollow (moveFollow (stripeFollow (placeFollow (tailorFollow (takeoverFollow b)))))))))

/-- What follows every command: the Tailor's work, the next self-test, duty after a long closure, changed pages marked, then the
events raised in one message per function (R215, R246, R354, R416, R482). -/
def settle (a b : State) (written : BitVec 11) : State :=
  let c := dutyFollow a (selfTestFollow (placementFollow a b))
  raiseAll a (markPages a (countGeneration a c)) written

/-- The answer of a command that made `b` out of `a`. -/
def done (a b : State) : Out := .next (settle a b 0)

/-- A module reset raises no event: the registers stand at their reset values; GENERATION counts on. -/
def doneReset (a b : State) : Out := .next (countGeneration a b)

/-- The same, where the command wrote RESULT fields: SAFELIGHT, DEBUG or UPDATE (R481). -/
def doneWith (w : BitVec 11) (a b : State) : Out := .next (settle a b w)

/-- Memory requests to the function meet D3hot (R315). -/
def inD3 (s : State) (fn : Fin 64) : Bool := s.link.cfgUp && linkUsable s && s.funcs[fn].enabled && s.funcs[fn].d3

/-- A request to a function: in D3hot it is an Unsupported Request (R315). -/
def barDone (fn : Fin 64) (a b : State) : Out := done a (if inD3 a fn then { a with reply := .unsupportedRequest } else b)

/-- The result of the last ENTER, EXIT, update or debug command was written (R481). -/
def intUpdate : BitVec 11 := 0x40
def intDebug : BitVec 11 := 0x80
def intSafelight : BitVec 11 := 0x100

end Sys2Proof.Machine
end

