-- ==== Sys2Proof/Machine/Log.lean ====
section
/-! DEFINITION. The management event log (R448–R451). `State.mgmt.log` is newest first. -/
namespace Sys2Proof.Machine

/-- An entry as it is made: numbered once numbering runs (R449). -/
def newEntry (m : Mgmt) (e : Event) (now : Nat) (restart : Bool) : LogEntry :=
  { seq := m.nextSeq, e := e, rep := 0, at_ := now, committed := false
    unanchored := m.nextSeq.isSome && m.unanchored, restart := restart }

/-- Removes the oldest entry that meets `p`: the last of the list. -/
def removeOldest (p : LogEntry → Bool) (l : List LogEntry) : List LogEntry := (l.reverse.eraseP p).reverse

/-- Room for one more entry (R448, R451): the memory keeps the newest 16,384; while entries cannot be committed the oldest
informational one is dropped first, then the oldest warning, never an error. -/
def trimLog (m : Mgmt) : Mgmt :=
  if m.log.length ≤ 16384 then m
  else if m.log.any (·.committed) then { m with log := removeOldest (·.committed) m.log }
  else if m.log.any (·.e.severity == 0) then
    { m with log := removeOldest (·.e.severity == 0) m.log, dropped := m.dropped + 1 }
  else if m.log.any (·.e.severity == 1) then
    { m with log := removeOldest (·.e.severity == 1) m.log, dropped := m.dropped + 1 }
  else m

/-- Adds one entry. -/
def addEntry (e : Event) (now : Nat) (restart : Bool) (m : Mgmt) : Mgmt :=
  trimLog { m with log := newEntry m e now restart :: m.log, nextSeq := m.nextSeq.map (· + 1) }

/-- An event of the management processor's own; its cycle count then is a free value (R36, assumption 27). -/
def ownEvent (kind params now : Nat) : Event :=
  { source := 2, inst := 0, severity := 1, cls := 0xB, code := Config.eventCode kind, params := BitVec.ofNat 256 params
    localCount := Config.localCount now }

/-- A processor's cycle count as it last told it (R36): source, instance, count. -/
def countCycles (source inst count : Nat) (s : State) : State :=
  { s with mod := { s.mod with
      cycles := (source, inst, count) :: s.mod.cycles.filter fun x => !(x.1 == source && x.2.1 == inst) } }

/-- A new entry, after one that names the entries dropped before it (R451). -/
def makeEntry (e : Event) (now : Nat) (restart : Bool) (m : Mgmt) : Mgmt :=
  if m.dropped = 0 then addEntry e now restart m
  else addEntry e now restart (addEntry (ownEvent 0 m.dropped now) now false { m with dropped := 0 })

/-- The entry folds a second event (R451): same source, instance, class, code and parameters within 1 s, not committed, not
Critical. Counts are milliseconds of the management processor. -/
def folds (e : Event) (now : Nat) (x : LogEntry) : Bool :=
  !x.committed && e.severity != 3 && x.e.severity != 3 && x.e.source == e.source && x.e.inst == e.inst && x.e.cls == e.cls
    && x.e.code == e.code && x.e.params == e.params && now - x.at_ ≤ 1000

/-- The newest entry that folds the event takes it. -/
def foldFirst (e : Event) (now : Nat) : List LogEntry → List LogEntry
  | [] => []
  | x :: xs => if folds e now x then { x with rep := satInc x.rep 0xFFFF } :: xs else x :: foldFirst e now xs

/-- The vault takes writes of the system area (R280, R281, R509). -/
def vaultWritable (s : State) : Bool :=
  s.vault.st == 2 && !s.vault.writeHold && s.vault.holdup && !s.mod.resets.running.contains (.vault, 0)
    && s.sec.window != some 18

/-- Entries that may be committed: numbered and anchored. -/
def committable (x : LogEntry) : Bool := x.seq.isSome && !x.unanchored && !x.committed

/-- Commits every entry that may be (R448, R449) to the ring of 1,048,576. -/
def commitLog (s : State) : State :=
  if vaultWritable s then
    let m := s.mgmt
    let new := (m.log.filter committable).map fun x => { x with committed := true }
    { s with mgmt := { m with
        ring := (new ++ m.ring).take 1048576
        log := m.log.map fun x => if committable x then { x with committed := true } else x
        anchor := (new.filterMap (·.seq)).foldl (fun a n => max a (n + 1)) m.anchor } }
  else s

/-- Entries that a stream delivers: numbered, and informational ones only while the detail is raised (R447, R452). -/
def streamable (m : Mgmt) (n : Nat) (x : LogEntry) : Bool :=
  (x.e.severity != 0 || m.detail) && (match x.seq with | some k => n ≤ k | none => false)

/-- Every open stream gets the entries numbered since its last (R452); the log is newest first. -/
def deliverLog (s : State) : State :=
  let m := s.mgmt
  let new := (m.conns.filter (·.stream)).map fun c =>
    ((m.log.filter (streamable m c.next)).filterMap (·.seq)).map fun n => (c.id, n)
  { s with mgmt := { m with
      streamed := new.flatten ++ m.streamed
      conns := m.conns.map fun c => if c.stream then { c with next := max c.next (m.nextSeq.getD 0) } else c } }

/-- An event arrives (R448): folded, or a new entry; committed at once where Critical or where 1,024 wait. -/
def logEvent (e : Event) (now : Nat) (restart : Bool) (s : State) : State :=
  let m := s.mgmt
  let m := if m.log.any (folds e now) then { m with log := foldFirst e now m.log } else makeEntry e now restart m
  let s := { s with mgmt := m }
  if e.severity == 3 || 1024 ≤ (m.log.filter committable).length then commitLog s else s

/-- Numbers the entries that wait, in order of arrival, from `n` (R449). -/
def numberLog (n : Nat) (unanchored : Bool) (m : Mgmt) : Mgmt :=
  match m.nextSeq with
  | some _ => m
  | none =>
    let k := m.log.length
    { m with
      log := m.log.mapIdx fun i x => { x with seq := some (n + (k - 1 - i)), unanchored := unanchored }
      nextSeq := some (n + k), unanchored := unanchored }

/-- EVENT_REPORT (R448): the report leaves the reporting processor's notes out of account; it carries its own event. An event
of SOURCE 0x00, a trip recorded from HK_TRIP, is from before the restart (R450). -/
def execEventReport (e : Event) (now : Nat) (s : State) : Out :=
  done s (deliverLog (logEvent e now (e.source == 0) (countCycles e.source.toNat e.inst.toNat e.localCount s)))

/-- LOG_COMMIT (R448): once a second. -/
def execLogCommit (s : State) : Out := done s (commitLog s)

/-- LOG_UNANCHORED_TIMEOUT (R449): the vault is not online 5 s after MGMT_UP. -/
def execLogUnanchoredTimeout (s : State) : Out :=
  done s (if s.mgmt.up && s.vault.st != 2 && s.vault.st != 3 then deliverLog { s with mgmt := numberLog 0 true s.mgmt } else s)

end Sys2Proof.Machine
end

