-- ==== Sys2Proof/Machine/Track.lean ====
section
/-! DEFINITION. The scale tracker (R127–R137) as operations on its state, and the order in which commands of a queue may
begin (R322, R351, R352). -/
namespace Sys2Proof.Machine

/-! ### Trackers -/

/-- A slot at its numbering point: its exponent set to e, the window empty (R130, R131). -/
def slotSet (word : Nat) (frozen : Bool) (e : Int) : SlotTrack :=
  { exps := if frozen then [e] else List.replicate (trackD word) e }

/-- A tracker as LOAD_PATTERN sets it (R131). -/
def trackerInit (f : List Byte) (h q : Nat) : Tracker :=
  { pat := h, q := q, slots := (List.range (nSlots f)).map fun i => slotSet (trackWord f i) false (trackInit (trackWord f i)) }

/-- The tracker of a pattern on a queue; one that no work item has touched yet is as LOAD_PATTERN set it. -/
def trackerOf (s : State) (f : List Byte) (h q : Nat) : Tracker :=
  (s.tracks.find? fun t => t.pat == h && t.q == q).getD (trackerInit f h q)

def putTracker (t : Tracker) (s : State) : State :=
  { s with tracks := t :: s.tracks.filter fun u => !(u.pat == t.pat && u.q == t.q) }

/-- e(k) of a slot, or the last exponent fixed where e(k) is not fixed yet. -/
def slotExp (frozen : Bool) (k : Nat) (x : SlotTrack) : Int :=
  if frozen then x.exps.headD 0 else x.exps.getD k (x.exps.getLastD 0)

/-- Work item k may begin as far as the tracker goes (R132, R135). -/
def trackReady (t : Tracker) (k : Nat) : Bool := t.frozen || t.slots.all fun x => k < x.exps.length

/-- Largest code of an output format (R131). -/
def outMaxCode (fmt : Nat) : Nat := match fmt with | 0 => 255 | 1 => 127 | 2 => 15 | _ => 7

/-- The exponent e covers X (R131). -/
def covers (q x : Nat) (e : Int) : Bool :=
  if 0 ≤ e then x ≤ q * 2 ^ e.toNat else x * 2 ^ (-e).toNat ≤ q

/-- The next exponent of a slot from its window (R131): the entries of the last N completed items. -/
def nextExp (word qmax : Nat) (prev : Int) (window : List (Option Nat)) : Int :=
  match window.filterMap id with
  | [] => prev
  | x :: xs =>
    let big := xs.foldl max x
    let n := (trackHi word - trackLo word).toNat + 1
    ((((List.range n).map fun (i : Nat) => trackLo word + (i : Int)).find? (covers qmax big)).getD (trackHi word))

/-- The producing piece's output format of a slot (R128). -/
def slotFmt (f : List Byte) (i : Nat) : Nat :=
  match (List.range (nPieces f)).find? fun p => numTrackOut (pieceNum f p) == i with
  | some p => numOutFmt (pieceNum f p)
  | none => 1

/-- A slot after one more work item has completed with this entry (R130, R131). -/
def slotRecord (word qmax : Nat) (entry : Option Nat) (x : SlotTrack) : SlotTrack :=
  let obs := x.obs ++ [entry]
  { exps := x.exps ++ [nextExp word qmax (x.exps.getLastD 0) (obs.drop (obs.length - trackN word))], obs := obs }

/-- A work item's record is written: its number is used; while tracking runs each slot gets its entry. DESIGN CHOICE: 0 for a
tensor whose producer has formed no A, a VU_ONLY piece without weights (assumption 106). -/
def trackRecord (f : List Byte) (ok : Bool) (obs : List (Nat × Nat)) (t : Tracker) : Tracker :=
  { t with
    count := t.count + 1
    slots := if t.frozen then t.slots else t.slots.mapIdx fun i x =>
      slotRecord (trackWord f i) (outMaxCode (slotFmt f i))
        (if ok then some (((obs.find? (·.1 == i)).map (·.2)).getD 0) else none) x }

/-- SCALE_FREEZE (R135); one that matches the mode changes nothing. -/
def trackFreeze (f : List Byte) (frz : Bool) (t : Tracker) : Tracker :=
  if t.frozen = frz then t
  else if frz then { t with frozen := true, slots := t.slots.map fun x => { exps := [slotExp false t.count x] } }
  else { t with frozen := false, count := 0, slots := t.slots.mapIdx fun i x => slotSet (trackWord f i) false (x.exps.headD 0) }

/-- SCALE_SET (R136): the listed slots get their exponents, the others keep theirs; windows clear, numbering starts. DESIGN
CHOICE: in running mode a slot that is not listed keeps e(k) of the next work item (assumption 115). -/
def trackSet (f : List Byte) (listed : Nat → Option Int) (t : Tracker) : Tracker :=
  { t with
    count := 0
    slots := t.slots.mapIdx fun i x =>
      slotSet (trackWord f i) t.frozen ((listed i).getD (slotExp t.frozen t.count x)) }

/-! ### Which entries name a pattern -/

/-- Handle a descriptor of a pattern command names. -/
def Entry.handle (e : Entry) : Nat := desc16 e.desc 16

/-- The entry is a work item of pattern `h`. -/
def Entry.runs (e : Entry) (h : Nat) : Bool := e.op == 0x01 && e.handle == h

/-- The number k of a work item, or of the next one not begun, before SEQ `seq` (R130): items recorded, and items of the
pattern before it in the queue. -/
def workNumber (t : Tracker) (q : Queue) (h seq : Nat) : Nat :=
  t.count + (q.entries.filter fun e => e.runs h && e.seq < seq).length

/-! ### Service and order -/

/-- The Shuttle of the queue can run (R35, R329, R461): the module has reached step 9 (R321), the hub die is up, its root PLL
is locked and it is not being reset. -/
def shuttleRuns (s : State) (q : Nat) : Bool :=
  s.mod.trained && s.mod.rails && !s.mod.perst && s.power.hubsUp.getLsbD (q % 4) && !s.power.hubSleep.getLsbD (q % 4)
    && !(s.mod.pllLost.any fun d => match d with | .hub h => h.val == q % 4 | _ => false)
    && s.sec.window != some (12 + q % 4)
    && !s.mod.resets.running.contains (.shuttle, q % 4) && !s.mod.resets.running.contains (.hubDie, q % 4)
    && !(s.mod.mstate == .fault && (s.mod.faultCause == 3 || s.mod.faultCause == 5) && s.mod.faultInst == q % 4)

/-- The owning function of a queue's context. -/
def queueFn (s : State) (q : Queue) : Fin 64 := ((s.ctx? q.ctx).map (·.owner)).getD 0

/-- Bus address of a queue's doorbell slot (R330). -/
def slotAddr (s : State) (q : Queue) : Nat := ((s.ctx? q.ctx).map (·.dbPage)).getD 0 + 64 * q.slot

/-- The Shuttle may read and write the queue's structures in host memory: slot, descriptor ring, completion ring (R301, R318). -/
def queueServed (s : State) (q : Queue) : Bool :=
  shuttleRuns s q.num && hostOk s (queueFn s q) (slotAddr s q) 64 && hostOk s (queueFn s q) q.ring (64 * 2 ^ q.sizeLog2)
    && hostOk s (queueFn s q) q.cq (32 * 2 ^ q.sizeLog2)

/-- The vault never answers: failed (R463), or offline in a debug state (R427). -/
def vaultRefuses (s : State) : Bool := s.vault.st == 4 || (s.vault.st == 0 && s.sec.debug != 0)

/-- An earlier command of the queue keeps this one from beginning. -/
def blockedBy (s : State) (q : Queue) (e d : Entry) : Bool :=
  -- R351: not begun yet; a held command counts as begun (assumption 20)
  d.st == .admitted || (d.st == .held && !holdNow s q d)
    -- R347: admin commands one at a time; R352: SIGNAL waits for all, all wait for FENCE
    || (d.st != .finished && (q.num == 0 || e.op == 0x08 || d.op == 0x07))
    -- R231, R351: a command naming a pattern waits for an earlier load
    || (d.st != .finished && d.op == 0x02 && (e.op == 0x01 || e.op == 0x03 || e.op == 0x06 || e.op == 0x09 || e.op == 0x0A
      || (e.op == 0x0D && descByte e.desc 16 == 1)))
    -- R137: scale commands at the completion boundary of the last work item; work items behind them wait
    || ((e.op == 0x09 || e.op == 0x0A) && d.op == 0x01)
    || (d.st != .finished && (d.op == 0x09 || d.op == 0x0A) && e.op == 0x01)
    -- R352: FENCE begins once every earlier record is written
    || e.op == 0x07

/-- The tracker lets a RUN_PATTERN begin (R132). -/
def trackAllows (s : State) (q : Queue) (e : Entry) : Bool :=
  match s.pat? q.ctx e.handle with
  | some p =>
    let t := trackerOf s p.file p.handle q.num
    trackReady t (workNumber t q p.handle e.seq)
  | none => true

/-- Little-endian bytes as one descriptor. -/
def descOf (bs : List Byte) : Desc := BitVec.ofNat 512 (leNat bs)

/-- The descriptor of a SEQ in its queue's ring. -/
def State.ringDesc (s : State) (q : Queue) (seq : Nat) : Desc :=
  descOf (memReadN s.host (q.ring + 64 * (seq % 2 ^ q.sizeLog2)) 64)

/-- The read of TAIL that showed a SEQ not admitted yet (R231). -/
def Queue.readOf (q : Queue) (seq : Nat) : Nat := ((q.seen.find? fun r => seq < r.1).map (·.2)).getD 0

/-- A queue's ring holds a work item of the pattern, not admitted yet, that an earlier read of TAIL than `k` has shown. -/
def ringRuns (s : State) (x : Queue) (h k : Nat) : Bool :=
  !x.stopped && (List.range (x.tail - x.head)).any fun i =>
    decide (x.readOf (x.head + i) < k) && ({ seq := x.head + i, desc := s.ringDesc x (x.head + i) } : Entry).runs h

/-- UNLOAD_PATTERN waits for the work items of the pattern submitted before it on any queue (R231), across queues in the order in
which the Shuttles' reads of TAIL showed them (assumption 21). -/
def unloadWaits (s : State) (q : Queue) (e : Entry) : Bool :=
  s.queues.any fun x => x.ctx == q.ctx
    && ((x.entries.any fun d => d.runs e.handle && (if x.num = q.num then d.seq < e.seq else d.order < e.order))
      || (x.num != q.num && ringRuns s x e.handle e.order))

/-- DVA ranges that a command reads or writes (R343–R346). -/
def Entry.spans (e : Entry) : List (Nat × Nat) :=
  let d := e.desc
  match e.op with
  | 0x01 => [(desc64 d 24, desc64 d 32), (desc64 d 40, desc64 d 48)]
  | 0x02 => (if desc16 d 32 = 0 then [(desc64 d 16, desc64 d 24)] else []) ++ [(desc64 d 40, 2 * descByte d 34)]
  | 0x04 => (if desc16 d 40 = 0 then [(desc64 d 16, desc64 d 32)] else []) ++ (if desc16 d 42 = 0 then [(desc64 d 24, desc64 d 32)] else [])
  | 0x05 => if desc16 d 40 = 0 then [(desc64 d 16, desc64 d 24)] else []
  | 0x06 => [(desc64 d 24, 4 * desc32 d 20)]
  | 0x07 => if descByte d 16 = 0 then [] else [(desc64 d 24, 8)]
  | 0x08 => [(desc64 d 24, 8)]
  | 0x0D => [(desc64 d 24, desc32 d 32)]
  | _ => []

/-- A hub die's logic is off (R382). -/
def hubDown (s : State) (h : Nat) : Bool := !s.power.hubsUp.getLsbD h || s.power.hubSleep.getLsbD h

/-- A hub die serves its three tiles (R16): its logic is on, and it is not being reset (R461). -/
def hubServes (s : State) (h : Nat) : Bool := !hubDown s h && !s.mod.resets.running.contains (.hubDie, h)

/-- The memory behind a page is in self-refresh or off (R382). -/
def pageDown (s : State) (p : Page) : Bool :=
  let h := p.addr / 2 ^ 30 / 216
  (p.target == 1 && (!s.power.hbmUp.getLsbD h || hubDown s h)) || (p.target == 2 && !s.power.lpUp)

/-- The tile rests in a power state. -/
def tileRests (x : Tile) : Bool := x.rest != .run && x.st != .quarantined

/-- A command for tiles needs the hub die of the active Tailor (R27, R384), and those that serve the tiles. -/
def hubsWait (s : State) (tiles : Nat → Bool) : Bool :=
  hubDown s (if s.tailor.onHd2 then 2 else 0) || (List.range 12).any fun t => tiles t && hubDown s (t % 4)

/-- The tiles that a command uses (R384): those it names, those of its pattern's pieces, or for a load any in service. -/
def usesTile (s : State) (q : Queue) (e : Entry) (t : Nat) : Bool :=
  if e.op == 0x0B || e.op == 0x0C then (desc16 e.desc 16).testBit t
  else if e.op == 0x01 then s.pats.any fun p => p.ctx == q.ctx && p.handle == e.handle && p.onTile t
  else e.op == 0x02 && (if h : t < 12 then s.tiles[t].st == .locked else false)

/-- The command needs a domain that is powered down (R384): it stalls until DOMAIN_DEMAND_WAKE has woken it. -/
def stalls (s : State) (q : Queue) (e : Entry) : Bool :=
  (match s.ctx? q.ctx with
   | some c => e.spans.any fun r => c.pages.any fun p => p.dva < r.1 + r.2 && r.1 < p.dva + p.size && pageDown s p
   | none => false)
    || (s.mod.mstate == .ready && (e.op == 0x01 || e.op == 0x02 || e.op == 0x0B || e.op == 0x0C) && hubsWait s (usesTile s q e))
    || (s.mod.mstate == .ready &&
        (((e.op == 0x0B || e.op == 0x0C) && s.tiles.toList.zipIdx.any fun x => (desc16 e.desc 16).testBit x.2 && tileRests x.1)
          || (e.op == 0x02 && s.tiles.toList.any tileRests && !s.tiles.toList.any fun x => x.st == .locked && x.rest == .run)))

/-- What a command meets when its turn is tried. -/
inductive Verdict where
  | wait | hold | go
  deriving DecidableEq, Repr

def verdict (s : State) (q : Queue) (e : Entry) : Verdict :=
  if e.st == .finished || !shuttleRuns s q.num then .wait
  else if holdNow s q e then (if e.st == .begun then .wait else .hold)
  else if stalls s q e then .wait
  else if e.st == .begun then .go
  else if q.entries.any fun d => d.seq < e.seq && blockedBy s q e d then .wait
  else if e.op == 0x01 && !trackAllows s q e then .wait
  else if e.op == 0x03 && unloadWaits s q e then .wait
  else .go

/-- Runs a command of opcode `op` in its turn: held, or made to wait, or its body on the queue, context and entry. A
command presented out of its turn changes nothing (assumption 22). -/
def inTurn (op q seq : Nat) (s : State) (body : Queue → Ctx → Entry → State) : State :=
  match s.queue? q with
  | none => s
  | some x =>
    match x.entry? seq, s.ctx? x.ctx with
    | some e, some c =>
      if e.op = op then
        match verdict s x e with
        | .wait => s
        | .hold => hold q seq s
        | .go => body x c e
      else s
    | _, _ => s

end Sys2Proof.Machine
end

