-- ==== Sys2Proof/Machine/Queue.lean ====
section
/-! DEFINITION. Queue service: doorbells (R330–R337), admission (R333, R341), completion records (R331, R332, R351), status
pages (R354), interrupts (R355), and NOP, FENCE, SIGNAL and QUERY_STATUS. -/
namespace Sys2Proof.Machine

/-! ### Doorbell slots and interrupts -/

def queueFlags (q : Queue) : Nat := bitAt 0 q.sleeping + bitAt 1 q.cqWait + bitAt 2 q.stopped

/-- The device writes FLAGS and HEAD of the slot as one 8-byte write (R330); it waits while the function's host memory is
out of reach (R301). -/
def writeSlot (n : Nat) (s : State) : State :=
  match s.queue? n with
  | none => s
  | some q =>
    if hostOk s (queueFn s q) (slotAddr s q) 64 then
      updQueue n (fun q => { q with headOut := q.head })
        (busWrite (queueFn s q) (slotAddr s q + 8) (leBytes 4 (queueFlags q) ++ leBytes 4 (q.head % 2 ^ 32)) s)
    else s

/-- The queue's interrupt is sent: one message covers every record written before it (R355). -/
def sendQueueInt (n : Nat) (s : State) : State :=
  match s.queue? n with
  | none => s
  | some q =>
    if q.pendInt = 0 then s
    else sendMsix (queueFn s q) q.vector (updQueue n (fun q => { q with pendInt := 0 }) s)

/-- The completion ring is full as far as the Shuttle knows, and a record waits for it (R334). -/
def cqFull (q : Queue) : Bool :=
  (q.entries.any fun e => e.seq == q.recs && e.st == .finished) && 2 ^ q.sizeLog2 ≤ q.recs - q.cqHead

/-- The count whose low 32 bits are `raw`, at or after `now` (R330: counts modulo 2³²). -/
def countFrom (now raw : Nat) : Nat := now + (raw + 2 ^ 32 - now % 2 ^ 32) % 2 ^ 32

/-- STOPPED is set, once, and a pending interrupt sent (R355, R357). -/
def shutQueue (n : Nat) (s : State) : State :=
  if (s.queue? n).any (·.stopped) then s
  else sendQueueInt n (writeSlot n (updQueue n (fun q => { q with stopped := true, reread := false, cqReread := false }) s))

/-- A queue stops on a count that cannot be (R334): logged. -/
def stopQueue (n : Nat) (s : State) : State := if (s.queue? n).any (·.stopped) then s else note (.queueStopped n) (shutQueue n s)

/-- The Shuttle reads a slot: its cached TAIL is exhausted, or a record waits for ring space, and it is not asleep on it or a
further read is outstanding (R301, R335). In FAULT it reads every slot (R470). A stopped queue's commands complete (R334), so it
is read while a record waits for space: no NUDGE reaches it (R337; assumption 125). -/
def readsSlot (s : State) (q : Queue) : Bool :=
  ((!q.stopped && (s.mod.mstate == .fault || q.reread || (!q.closing && !q.sleeping && q.tail == q.head)))
    || (cqFull q && (q.stopped || !q.cqWait || q.cqReread))) && (q.num != 0 || s.admin.running)

/-- What the read's TAIL does (R334, R335). -/
def takeTail (n raw : Nat) (s : State) : State :=
  match s.queue? n with
  | none => s
  | some q =>
    let t := countFrom q.head raw
    if q.stopped || q.closing then updQueue n (fun q => { q with reread := false }) s
    else if 2 ^ q.sizeLog2 < t - q.head then stopQueue n s
    else if q.tail < t then
      let s' := updQueue n (fun q => { q with tail := t, seen := q.seen ++ [(t, s.tailReads)], sleeping := false, reread := false })
        { s with tailReads := s.tailReads + 1 }
      if q.sleeping then writeSlot n s' else s'
    else if s.mod.mstate == .fault || q.tail != q.head || q.sleeping then updQueue n (fun q => { q with reread := false }) s
    else writeSlot n (updQueue n (fun q => { q with sleeping := true, reread := true }) s)

/-- What the read's CQ_HEAD does (R334): a CQ_HEAD ahead of the records stops the queue; one that leaves the ring full
sets CQ_WAIT, and the slot is read once more. -/
def takeCqHead (n raw : Nat) (s : State) : State :=
  match s.queue? n with
  | none => s
  | some q =>
    let c := countFrom q.cqHead raw
    if q.recs < c then stopQueue n s
    else
      let s := updQueue n (fun q => { q with cqHead := c }) s
      let full := cqFull { q with cqHead := c }
      if !full then
        (if q.cqWait then writeSlot n (updQueue n (fun q => { q with cqWait := false, cqReread := false }) s) else s)
      else if s.mod.mstate == .fault then s
      else if q.cqWait then updQueue n (fun q => { q with cqReread := false }) s
      else sendQueueInt n (writeSlot n (updQueue n (fun q => { q with cqWait := true, cqReread := true }) s))

/-- The return of a slot read: its host memory as the host has left it, or a failed read, which faults the context (R462). -/
def slotRead (n : Nat) (hs : List Cell) (rsp : Rsp) (s : State) : State :=
  let s := seeHost hs s
  match s.queue? n with
  | none => s
  | some q =>
    if !(queueServed s q && readsSlot s q) then s
    else if !rsp.came then faultCtx q.ctx (timedOutAt (queueFn s q) 0 rsp s)
    else
      let a := slotAddr s q
      takeTail n (leNat (memReadN s.host a 4)) (takeCqHead n (leNat (memReadN s.host (a + 4) 4)) s)

def execDoorbellSlotRead (q : Nat) (hs : List Cell) (rsp : Rsp) (s : State) : Out := done s (slotRead q hs rsp s)

/-- In FAULT the Shuttles that can run re-read TAIL and CQ_HEAD every 100 µs (R470). -/
def execFaultDoorbellPoll (q : Nat) (hs : List Cell) (rsp : Rsp) (s : State) : Out :=
  done s (if s.mod.mstate == .fault then slotRead q hs rsp s else seeHost hs s)

/-- A NUDGE is discarded and counted (R337). -/
def discardNudge (s : State) : State := { s with mgmt := { s.mgmt with nudgeDiscards := s.mgmt.nudgeDiscards + 1 } }

/-- NUDGE (R337, R485, R489): the queue number in [11:0]; a 32-bit aligned write only (R9). A sleeping queue, or one that
waits for ring space, is woken: its flags are cleared and it is served again. -/
def nudge (fn : Fin 64) (width : Nat) (value : Word) (s : State) : State :=
  if !(s.link.cfgUp && linkUsable s && s.funcs[fn].enabled && !s.funcs[fn].d3) || width != 4 then s
  else if s.mod.mstate == .fault || value.toNat / 2 ^ 12 != 0 then discardNudge s
  else
    match s.queue? (value.toNat % 2 ^ 12) with
    | none => discardNudge s
    | some q =>
      if q.stopped || queueFn s q != fn then discardNudge s
      else if q.sleeping || q.cqWait then
        writeSlot q.num (updQueue q.num (fun q =>
          { q with sleeping := false, reread := false, cqWait := false, cqReread := false }) s)
      else s

def execNudge (fn : Fin 64) (width : Nat) (value : Word) (s : State) : Out := barDone fn s (nudge fn width value s)

/-- HEAD is written while it changes (R333). -/
def execHeadWriteback (q : Nat) (s : State) : Out :=
  done s (match s.queue? q with
    | some x => if queueServed s x && x.head != x.headOut then writeSlot q s else s
    | none => s)

/-! ### Admission -/

/-- Admitted and uncompleted commands of one Shuttle (R333). -/
def shuttleLoad (s : State) (h : Nat) : Nat :=
  ((s.queues.filter fun q => q.num % 4 == h).map fun q => q.entries.length).foldl (· + ·) 0

/-- The Shuttle can admit the next descriptor of the queue (R333, R338); entering OFF stops admission (R388). -/
def mayAdmit (s : State) (q : Queue) : Bool :=
  queueServed s q && s.power.moving != some .off && !q.stopped && q.head < q.tail && q.entries.length < 256 && shuttleLoad s (q.num % 4) < 32768
    && (q.num != 0 || (s.admin.running && s.admin.en))

/-- A queue of higher PRIORITY at the Shuttle is admitted first (R358). -/
def inLine (s : State) (q : Queue) : Bool :=
  s.queues.all fun y => !(y.num % 4 == q.num % 4 && q.priority < y.priority && mayAdmit s y)

/-- The entry a descriptor makes (R341, R356, R470): a failed check, a CANCEL that named it in the ring, or a module in
FAULT gives its status at once. -/
def admitted (s : State) (q : Queue) (c : Ctx) (d : Desc) : Entry :=
  let e : Entry := { seq := q.head, desc := d, order := q.readOf q.head }
  if q.doomed.any fun r => r.1 ≤ q.head && q.head ≤ r.2 then { e with st := .finished, status := .cancelled }
  else match admitCheck d q c with
    | some st => { e with st := .finished, status := st }
    | none =>
      if s.mod.mstate == .fault && e.op != 0x00 && e.op != 0x0D then { e with st := .finished, status := .moduleFault } else e

/-- One descriptor is copied from the ring into Shuttle memory (R331, R333); HEAD is written each 16. -/
def admitNext (n : Nat) (hs : List Cell) (rsp : Rsp) (s : State) : State :=
  let s := seeHost hs s
  match s.queue? n with
  | none => s
  | some q =>
    match s.ctx? q.ctx with
    | none => s
    | some c =>
      if !(mayAdmit s q && inLine s q) then s
      else if !rsp.came then updQueue n (fun q => { q with ringLost := true }) (faultCtx q.ctx (timedOutAt (queueFn s q) 0 rsp s))
      else
        let d := s.ringDesc q q.head
        let s := updQueue n (fun y => { y with
          head := y.head + 1, ringLost := false, entries := y.entries ++ [admitted s q c d], seen := y.seen.filter fun r => q.head + 1 < r.1 }) s
        if 16 ≤ q.head + 1 - q.headOut then writeSlot n s else s

def execDescriptorAdmit (q : Nat) (hs : List Cell) (rsp : Rsp) (s : State) : Out := done s (admitNext q hs rsp s)

/-! ### Completion records -/

def Status.code : Status → Nat
  | .ok => 0 | .cancelled => 1 | .notRun => 2 | .accessFault => 3 | .dataUncorrectable => 4 | .integrityFail => 5
  | .scaleSkew => 6 | .patternInvalid => 7 | .modeRejected => 8 | .tempHold => 9 | .resourceShort => 10 | .descInvalid => 11
  | .notPermitted => 12 | .contextFaulted => 13 | .moduleFault => 14

/-- DEADLINE in µs has passed `elapsed` control-clock cycles after doorbell-visible (R342: 781.25 cycles a µs). -/
def late (d : Desc) (elapsed : Nat) : Bool := desc32 d 8 != 0 && desc32 d 8 * 78125 < elapsed * 100

def flagByte (fl : Flags) (lateBit : Bool) : Nat :=
  bitAt 0 lateBit + bitAt 1 fl.saturated + bitAt 2 fl.replayed + bitAt 3 fl.degraded

/-- The 32 bytes of a completion record (R331, R332). -/
def recordBytes (q : Queue) (e : Entry) (lateBit : Bool) : List Byte :=
  leBytes 8 e.seq ++ leBytes 8 e.info ++ leBytes 4 (desc32 e.desc 4) ++ leBytes 2 (e.seq % 2 ^ q.sizeLog2)
    ++ leBytes 2 q.num ++ leBytes 1 e.op ++ leBytes 1 e.status.code ++ leBytes 1 (flagByte e.flags lateBit)
    ++ leBytes 4 (min e.info2 0xFFFFFFFF) ++ leBytes 1 (bitAt 0 (e.seq / 2 ^ q.sizeLog2 % 2 == 0))

/-- Counters of the context that a record advances (R126, R353). -/
def countRecord (e : Entry) (lateBit : Bool) (c : Ctx) : Ctx :=
  { c with
    completed := c.completed + 1
    saturated := c.saturated + BitVec.ofNat 64 e.info2
    replayed := c.replayed + (if e.flags.replayed then 1 else 0)
    late := c.late + (if lateBit then 1 else 0)
    errors := c.errors + (if e.status == .ok then 0 else 1) }

/-- The record is written: ring slot, counters, the entry leaves Shuttle memory. -/
def putRecord (q : Queue) (e : Entry) (lateBit : Bool) (s : State) : State :=
  let s := busWrite (queueFn s q) (q.cq + 32 * (e.seq % 2 ^ q.sizeLog2)) (recordBytes q e lateBit) s
  let s := updCtx q.ctx (countRecord e lateBit) s
  updQueue q.num (fun q =>
    { q with recs := q.recs + 1, pendInt := q.pendInt + 1, entries := q.entries.filter (·.seq != e.seq) }) s

/-- A work item's tracker takes its entry at the completion boundary (R130, R131). -/
def recordTracking (q : Queue) (e : Entry) (s : State) : State :=
  if e.op = 0x01 then
    match s.pat? q.ctx e.handle with
    | some p =>
      let obs := ((s.work? q.num e.seq).map (·.obs)).getD []
      putTracker (trackRecord p.file (e.status == .ok) obs (trackerOf s p.file p.handle q.num)) s
    | none => s
  else s

/-- Unread run-ahead data of a completed work item counts as discarded (R299); its feed-dog requests are cancelled. -/
def closeWork (q : Queue) (e : Entry) (s : State) : State :=
  let s := countUnused q.num e.seq s
  cancelReqs q.num e.seq { s with works := s.works.filter fun w => !(w.q == q.num && w.seq == e.seq) }

/-- A waiting CANCEL sees the record of an item it named (R356). -/
def countCancelled (q : Queue) (e : Entry) (s : State) : State :=
  { s with cancelling := s.cancelling.map fun c =>
      if c.q == q.num && c.named.contains e.seq then
        { c with named := c.named.filter (· != e.seq), count := c.count + (if e.status == .cancelled then 1 else 0) }
      else c }

/-- The interrupt is due at this record (R355): IRQ_NOW, a status other than OK, or the coalescing count. -/
def intDue (q : Queue) (e : Entry) : Bool :=
  descByte e.desc 1 % 2 == 1 || e.status != .ok || q.coalCount ≤ 1 || q.coalCount ≤ q.pendInt + 1

/-- The admin queue stops running once it is disabled and its admitted commands have completed (R338). -/
def adminDrain (s : State) : State :=
  if s.admin.running && !s.admin.en && ((s.queue? 0).map fun q => q.entries.isEmpty).getD true then
    { s with admin := { s.admin with running := false } }
  else s

/-- The record of a queue's next command can be written. -/
def recordDue (s : State) (q : Queue) (e : Entry) : Bool :=
  e.st == .finished && queueServed s q && q.recs - q.cqHead < 2 ^ q.sizeLog2

/-- COMPLETION_RECORD_WRITE: the next record in SEQ order, once its command has finished and the ring has room (R334,
R351). -/
def writeRecord (n elapsed : Nat) (s : State) : State :=
  match s.queue? n with
  | none => s
  | some q =>
    match q.entry? q.recs with
    | none => s
    | some e =>
      if recordDue s q e then
        let lateBit := late e.desc elapsed
        let s := putRecord q e lateBit (countCancelled q e (closeWork q e (recordTracking q e s)))
        adminDrain (if intDue q e then sendQueueInt n s else s)
      else s

def execCompletionRecordWrite (q elapsed : Nat) (s : State) : Out := done s (writeRecord q elapsed s)

/-- COAL_TIME has passed since the first record without an interrupt (R355). -/
def execCoalTimeExpiry (q : Nat) (s : State) : Out :=
  done s (match s.queue? q with
    | some x => if x.coalTime = 0 then s else sendQueueInt q s
    | none => s)

/-! ### Status pages -/

/-- A page is written with GEN odd, its body, then GEN even (R354): what stands in host memory after it. -/
def pageBytes (gen : BitVec 64) (body : List Byte) : List Byte := leBytes 8 gen.toNat ++ body

/-- Address of a function's status page while EN is 1 (R338). -/
def fspAddr (f : Func) : Option Nat :=
  if f.fspLo.getLsbD 0 then some (f.fspLo.toNat / 4096 * 4096 + f.fspHi.toNat * 2 ^ 32) else none

/-- STATUS_PAGE_WRITE: a page whose content has changed is written, its GEN the next even value. -/
def statusPage (page : PageSel) (s : State) : State :=
  match page with
  | .function fn =>
    let f := s.funcs[fn]
    (match fspAddr f with
     | some a =>
       if f.dirty && hostOk s fn a 4096 then
         updFunc fn (fun f => { f with dirty := false, fspGen := f.fspGen + 2 })
           (busWrite fn a (pageBytes (f.fspGen + 2) (funcPageBody s fn)) s)
       else s
     | none => s)
  | .context n =>
    match s.ctx? n with
    | some c =>
      if c.dirty && c.cspOn && hostOk s c.owner c.csp 4096 then
        updCtx n (fun c => { c with dirty := false, gen := c.gen + 2 })
          (busWrite c.owner c.csp (pageBytes (c.gen + 2) (ctxPageBody s c)) s)
      else s
    | none => s

def execStatusPageWrite (page : PageSel) (s : State) : Out := .next (statusPage page s)

/-! ### NOP, FENCE, SIGNAL, QUERY_STATUS -/

def execNop (q seq : Nat) (s : State) : Out := done s (inTurn 0x00 q seq s fun _ _ _ => finish q seq .ok 0 s)

/-- FENCE's wait is over (R345, R352), or its read fails (R265). -/
def fenceTry (q seq : Nat) (c : Ctx) (d : Desc) (s : State) : State :=
  if descByte d 16 = 0 then finish q seq .ok 0 s
  else
    match rangeFault s c (desc64 d 24) 8 false with
    | some a => finish q seq .accessFault a s
    | none =>
      if hostWaits s c (desc64 d 24) 8 then begin_ q seq s
      else if desc64 d 32 ≤ leNat (dvaReadN s c (desc64 d 24) 8) then finish q seq .ok 0 s
      else begin_ q seq s

/-- FENCE (R352): begins once every earlier record is written; with WAIT_MEM it then reads its address. -/
def execFence (q seq : Nat) (hs : List Cell) (s : State) : Out :=
  let s1 := seeHost hs s
  done s (inTurn 0x07 q seq s1 fun _ c e => fenceTry q seq c e.desc s1)

/-- FENCE_POLL (R352): a FENCE that waits reads its address again. -/
def execFencePoll (q seq : Nat) (hs : List Cell) (s : State) : Out :=
  let s1 := seeHost hs s
  done s (inTurn 0x07 q seq s1 fun _ c e => if e.st == .begun then fenceTry q seq c e.desc s1 else s1)

/-- The FENCEs of a context that wait on an address read it at once after a SIGNAL wrote it (R352). -/
def wakeFences (c : Ctx) (a : Nat) (s : State) : State :=
  (s.queues.filter (·.ctx == c.num)).foldl (fun s q =>
    (q.entries.filter fun e => e.op == 0x07 && e.st == .begun && desc64 e.desc 24 == a).foldl (fun s e => fenceTry q.num e.seq c e.desc s) s) s

/-- SIGNAL (R352): VALUE as one 8-byte write once every earlier command has completed. -/
def signal (q seq : Nat) (c : Ctx) (d : Desc) (s : State) : State :=
  match rangeFault s c (desc64 d 24) 8 true with
  | some a => finish q seq .accessFault a s
  | none =>
    if hostWaits s c (desc64 d 24) 8 then s
    else wakeFences c (desc64 d 24) (finish q seq .ok 0 (storeDva c (desc64 d 24) false (leBytes 8 (desc64 d 32)) s))

def execSignal (q seq : Nat) (s : State) : Out := done s (inTurn 0x08 q seq s fun _ c e => signal q seq c e.desc s)

/-- Queue block (R346). -/
def queueBlock (x : Queue) : List Byte :=
  leBytes 8 x.head ++ leBytes 8 x.recs ++ leBytes 4 x.entries.length ++ leBytes 1 x.priority ++ leBytes 1 (queueFlags x)
    ++ List.replicate 10 0

/-- Tracker block (R346, R521). -/
def trackerBlock (t : Tracker) (k : Nat) : List Byte :=
  let fixed := trackReady t k
  let kk := if fixed then k else (t.slots.map fun x => x.exps.length - 1).foldl min k
  leBytes 1 (bitAt 0 t.frozen) ++ leBytes 1 t.slots.length ++ leBytes 1 (bitAt 0 fixed) ++ List.replicate 5 0 ++ leBytes 8 k
    ++ (List.range 32).map fun i =>
        match t.slots[i]? with
        | some x => BitVec.ofNat 8 (wrap 8 (slotExp t.frozen kk x))
        | none => 0

/-- Spool block (R346). -/
def spoolBlock (x : Spool) : List Byte :=
  leBytes 8 x.gen ++ leBytes 8 x.length ++ leBytes 4 x.size ++ leBytes 4 0 ++ leBytes 8 x.inc

/-- Number of the next work item of a pattern on a queue that has not begun (R130). -/
def nextNumber (t : Tracker) (x : Queue) (h : Nat) : Nat :=
  match x.entries.find? fun e => e.runs h && e.st != .begun && e.st != .finished with
  | some e => workNumber t x h e.seq
  | none => t.count + (x.entries.filter (·.runs h)).length

/-- The block that WHAT selects, or the status that refuses it (R346). -/
def queryBlock (s : State) (x : Queue) (c : Ctx) (what id : Nat) : Except Status (List Byte) :=
  match what with
  | 0 => (match s.queue? id with
          | some y => if y.ctx = c.num then .ok (queueBlock y) else .error .accessFault
          | none => .error .accessFault)
  | 1 => (match s.pat? c.num id with
          | some p => let t := trackerOf s p.file p.handle x.num
                      if p.runnable then .ok (trackerBlock t (nextNumber t x p.handle)) else .error .patternInvalid
          | none => .error .patternInvalid)
  | 2 => (match s.spool? id with
          | some y => if y.ctx = some c.num then .ok (spoolBlock y) else .error .accessFault
          | none => .error .accessFault)
  | _ => .ok (leBytes 8 c.gen.toNat ++ ctxPageHead s c)

/-- QUERY_STATUS (R346, R350): the block cut to DST_LEN; INFO the bytes written. A refused ID has no DVA: INFO 0. -/
def queryStatus (q seq : Nat) (x : Queue) (c : Ctx) (d : Desc) (s : State) : State :=
  match queryBlock s x c (descByte d 16) (desc16 d 18) with
  | .error st => finish q seq st 0 s
  | .ok blk =>
    let bs := blk.take (desc32 d 32)
    match rangeFault s c (desc64 d 24) bs.length true with
    | some a => finish q seq .accessFault a s
    | none =>
      if hostWaits s c (desc64 d 24) bs.length then s
      else finish q seq .ok bs.length (storeDva c (desc64 d 24) false bs s)

def execQueryStatus (q seq : Nat) (s : State) : Out :=
  done s (inTurn 0x0D q seq s fun x c e => queryStatus q seq x c e.desc s)

end Sys2Proof.Machine
end

