-- ==== Sys2Proof/Machine/Mem.lean ====
section
/-! DEFINITION. The memory tiers: COPY and FILL (R294, R344), the vault's journal and windows (R276–R284, R509), errors and
repair (R286, R289–R291), and the feed dog's responses (R295–R299, R315). -/
namespace Sys2Proof.Machine

/-! ### COPY and FILL -/

def segBytes : Nat := 2 ^ 21

/-- Status of a source read that came back wrong (R291, R315). -/
def rspStatus : Rsp → Status
  | .ok | .corrected => .ok
  | .uncorrectable | .poisoned => .dataUncorrectable
  | .tablesLost | .unsupported | .abort | .timeout => .accessFault

/-- Two ranges of `n` bytes overlap. -/
def overlaps (a b n : Nat) : Bool := a < b + n && b < a + n

/-- An address of device memory gave an uncorrectable error: its data stays bad until it is rewritten (R291), and a second one
within 24 h has the row repaired, which is logged (R290). -/
def noteUncorrectable (tier a : Nat) (s : State) : State :=
  let old := (s.repairs.find? fun r => r.tier == tier && r.addr == a).getD { tier := tier, addr := a, errs := 0 }
  let n := if old.errs = 0 then 1 else if Config.withinDay s.free then old.errs + 1 else 1
  let new := { old with errs := n, soft := old.soft || decide (2 ≤ n) }
  let s := { (if old.errs = 0 then s else draw s) with
    repairs := new :: s.repairs.filter (fun r => !(r.tier == tier && r.addr == a))
    bad := if s.bad.contains (.mem tier a) then s.bad else .mem tier a :: s.bad }
  if new.soft && !old.soft then note (.repair tier a false) s else s

/-- A corrected error is counted (R289). -/
def countCorrected (tier : Nat) (s : State) : State :=
  if tier = 1 then { s with hbmCorr := s.hbmCorr + 1 } else if tier = 2 then { s with lpCorr := s.lpCorr + 1 } else s

/-- What a read of device memory leaves behind, by how it came back (R289–R291). -/
def noteRead (tier a : Nat) (r : Rsp) (s : State) : State :=
  if tier != 1 && tier != 2 then s
  else match r with
    | .corrected => countCorrected tier s
    | .uncorrectable => noteUncorrectable tier a s
    | _ => s

/-- The same of a read at a DVA. -/
def noteDva (c : Ctx) (a : Nat) (r : Rsp) (s : State) : State :=
  match dvaPlace c a with
  | some (t, x) => timedOutAt c.owner t r (noteRead t x r s)
  | none => s

/-- What a read of n bytes at a DVA meets first: the answer that its command brings, or data that keeps failing (R291). -/
def readMeets (s : State) (c : Ctx) (a n : Nat) (bad : Option (Nat × Rsp)) : Option (Nat × Rsp) :=
  match bad, badDva s c a n with
  | some (k, r), some d => if k ≤ d - a && !r.came then some (k, r) else some (d - a, .uncorrectable)
  | none, some d => some (d - a, .uncorrectable)
  | b, none => b

/-- Why a segment of a transfer cannot be made: status and INFO. `src` is a DVA where `fromDva`; the host's answer to the
read of offset k is `bad`. -/
def segError (s : State) (c : Ctx) (fromDva : Bool) (src dst off n : Nat) (bad : Option (Nat × Rsp)) (segs : Nat) :
    Option (Status × Nat) :=
  match (if fromDva then rangeFault s c (src + off) n false else none) with
  | some a => some (.accessFault, a)
  | none =>
    match rangeFault s c (dst + off) n true with
    | some a => some (.accessFault, a)
    | none =>
      match bad with
      | some (k, r) =>
        if off ≤ k && k < off + n && !r.came then
          some (rspStatus r, if rspStatus r == .accessFault then src + k else segs)
        else none
      | none => none

/-- What the read of a segment of device memory leaves behind. -/
def noteSegment (c : Ctx) (fromDva : Bool) (src off n : Nat) (bad : Option (Nat × Rsp)) (s : State) : State :=
  match bad with
  | some (k, r) => if fromDva && off ≤ k && k < off + n then noteDva c (src + k) r s else s
  | none => s

/-- The segments of a transfer to DVAs in order: each is staged and checked in full before any byte of it is written
(R294). `bytes s off n` are the source bytes. -/
def segments (q seq : Nat) (c : Ctx) (fromDva : Bool) (src dst len : Nat) (bad : Option (Nat × Rsp))
    (bytes : State → Nat → Nat → List Byte) : Nat → Nat → State → State
  | 0, _, s => finish q seq .ok (len / segBytes) s
  | k + 1, segs, s =>
    let off := segs * segBytes
    if len ≤ off then finish q seq .ok (len / segBytes) s
    else
      let n := min segBytes (len - off)
      match segError s c fromDva src dst off n bad segs with
      | some (st, info) => finish q seq st info (noteSegment c fromDva src off n (if (segError s c fromDva src dst off n none segs).isNone then bad else none) s)
      | none =>
        segments q seq c fromDva src dst len bad bytes k (segs + 1)
          (noteSegment c fromDva src off n bad (storeDva c (dst + off) true (bytes s off n) s))

/-- Whether a source range can be read in full, and its bytes: a DVA range. -/
def srcDva (s : State) (c : Ctx) (a n : Nat) (bad : Option (Nat × Rsp)) : Except (Status × Nat) (List Byte) :=
  match rangeFault s c a n false with
  | some x => .error (.accessFault, x)
  | none =>
    match bad with
    | some (k, r) => if k < n && !r.came then .error (rspStatus r, if rspStatus r == .accessFault then a + k else 0)
        else .ok (dvaReadN s c a n)
    | none => .ok (dvaReadN s c a n)

/-- A read of a spool at an offset, by how it came back (R284, R291): a corrected codeword is counted; one uncorrectable after
read retry is counted and stays so. -/
def countVault (id off : Nat) (r : Rsp) (s : State) : State :=
  if r == .corrected then { s with vault := { s.vault with corr := s.vault.corr + 1 } }
  else if r.came then s
  else { s with vault := { s.vault with uncorr := s.vault.uncorr + 1 }, bad := .cw id (off / 4096) :: s.bad.filter (· != .cw id (off / 4096)) }

/-- The first offset within a read of a spool that meets a codeword which keeps failing (R291). -/
def badCw (s : State) (id off n : Nat) : Option Nat :=
  (s.bad.filterMap fun b => match b with
    | .cw i k => if i == id && off < 4096 * (k + 1) && 4096 * k < off + n then some (4096 * k - off) else none
    | _ => none).foldl (fun best d => some (match best with | some b => min b d | none => d)) none

/-- The vault's answer to a read of a spool: its command's, or a codeword that keeps failing; what cannot be read is an
uncorrectable codeword (R291). -/
def vaultBad (s : State) (id off n : Nat) (bad : Option (Nat × Rsp)) : Option (Nat × Rsp) :=
  match badCw s id off n with
  | some k => some (k, .uncorrectable)
  | none =>
    match bad with
    | some (k, r) => if n ≤ k || r == .ok then none else some (k, if r.came then r else .uncorrectable)
    | none => none

/-- What the read leaves behind. -/
def vaultMet (id off : Nat) (bad : Option (Nat × Rsp)) (s : State) : State :=
  match bad with
  | some (k, r) => countVault id (off + k) r s
  | none => s

/-- It cannot be read in full. -/
def readFails (bad : Option (Nat × Rsp)) : Bool := match bad with | some (_, r) => !r.came | none => false

/-- A spool of the context as a source (R276, R280): not being deleted or reassigned, reads not held, within the committed
length. -/
def srcSpool (s : State) (c : Ctx) (id off n : Nat) : Except (Status × Nat) Spool :=
  if vaultRefuses s then .error (.notPermitted, 0)
  else
    match s.spool? id with
    | none => .error (.accessFault, off)
    | some x =>
      if x.ctx != some c.num || x.closing then .error (.accessFault, off)
      else if s.vault.readHold then .error (.tempHold, 0)
      else if x.length < off + n then .error (.accessFault, max off x.length)
      else .ok x

/-- A spool write (R276–R278, R280, R284): its checks in order, then one transaction that waits for its commit record; it waits
for an earlier write to the spool first. -/
def spoolWrite (q seq : Nat) (c : Ctx) (id off : Nat) (bs : List Byte) (s : State) : State :=
  if vaultRefuses s then finish q seq .notPermitted 0 s
  else
    match s.spool? id with
    | none => finish q seq .accessFault off s
    | some x =>
      if x.ctx != some c.num || x.closing then finish q seq .accessFault off s
      else if off % 4096 != 0 || bs.length % 4096 != 0 || x.size * 2 ^ 26 < off + bs.length then finish q seq .accessFault off s
      else if s.vault.writeHold then finish q seq .tempHold 0 s
      else if s.vault.st == 3 then finish q seq .resourceShort 0 s
      else if !s.vault.holdup then s
      else
        let w : Xact := { q := q, seq := seq, spool := id, off := off, len := bs.length, data := memWriteN [] off bs
                          space := 0, copies := 0, started := false }
        if s.vault.writes.any (·.spool == id) then begin_ q seq { s with vault := { s.vault with writes := s.vault.writes ++ [w] } }
        else if s.vault.xact < w.inside x then finish q seq .resourceShort 0 s
        else
          begin_ q seq { s with vault := { s.vault with
            writes := s.vault.writes ++ [{ w with started := true, space := w.inside x }], xact := s.vault.xact - w.inside x } }

/-- COPY (R344): each of its four forms. -/
def copyCmd (q seq : Nat) (bad : Option (Nat × Rsp)) (c : Ctx) (e : Entry) (s : State) : State :=
  let d := e.desc
  let src := desc64 d 16
  let dst := desc64 d 24
  let len := desc64 d 32
  let ss := desc16 d 40
  let ds := desc16 d 42
  if e.st == .begun then s
  else if ss == ds && overlaps src dst len then finish q seq .descInvalid 0 s
  else if (ss == 0 && hostWaits s c src len) || (ds == 0 && hostWaits s c dst len) then s
  else if ds = 0 then
    (if ss = 0 then
      segments q seq c true src dst len (readMeets s c src len bad) (fun s off n => dvaReadN s c (src + off) n) (len / segBytes + 1) 0 s
     else
      match srcSpool s c ss src len with
      | .error (st, i) => finish q seq st i s
      | .ok x =>
        let met := vaultBad s ss src len bad
        segments q seq c false src dst len met (fun _ off n => memReadN x.data (src + off) n) (len / segBytes + 1) 0
          (vaultMet ss src met s))
  else if ss = 0 then
    let met := readMeets s c src len bad
    match srcDva s c src len met with
    | .error (st, i) => finish q seq st i (noteSegment c true src 0 len (if st == .dataUncorrectable then met else none) s)
    | .ok bs => spoolWrite q seq c ds dst bs (noteSegment c true src 0 len met s)
  else
    match srcSpool s c ss src len with
    | .error (st, i) => finish q seq st i s
    | .ok x =>
      let met := vaultBad s ss src len bad
      if readFails met then finish q seq .dataUncorrectable 0 (vaultMet ss src met s)
      else spoolWrite q seq c ds dst (memReadN x.data src len) (vaultMet ss src met s)

def execCopy (q seq : Nat) (hs : List Cell) (bad : Option (Nat × Rsp)) (s : State) : Out :=
  let s1 := seeHost hs s
  done s (inTurn 0x04 q seq s1 fun _ c e => copyCmd q seq bad c e s1)

/-- `n` bytes of an 8-byte value repeated, from an 8-byte boundary (R344). -/
def fillBytes (v n : Nat) : List Byte := (List.replicate (n / 8) (leBytes 8 v)).flatten

/-- FILL (R344). -/
def fillCmd (q seq : Nat) (c : Ctx) (e : Entry) (s : State) : State :=
  let d := e.desc
  let dst := desc64 d 16
  let len := desc64 d 24
  let v := desc64 d 32
  if e.st == .begun then s
  else if desc16 d 40 = 0 then
    (if 2 ^ 52 ≤ dst then finish q seq .accessFault dst s
     else if hostWaits s c dst len then s
     else segments q seq c false 0 dst len none (fun _ _ n => fillBytes v n) (len / segBytes + 1) 0 s)
  else spoolWrite q seq c (desc16 d 40) dst (fillBytes v len) s

def execFill (q seq : Nat) (s : State) : Out := done s (inTurn 0x05 q seq s fun _ c e => fillCmd q seq c e s)

/-! ### The vault -/

/-- The spool that a fetch reads: none where the expert comes from the warm tier. -/
def fetchSpool (x : Pattern) (e : Nat) : Option Nat :=
  if x.cache.any fun c => c.expert == e && !c.hot then none else some (x.spools.getD (expertSpool x.file e) 0)

/-- Expert fetches that read a spool now: pattern and record. -/
def readersOf (s : State) (id : Nat) : List (Nat × Nat) :=
  s.pats.flatMap fun x => (x.fetches.filter fun r => r.begun && fetchSpool x r.expert == some id).map fun r => (x.handle, r.expert)

/-- Transaction space returns once no read holds the pages that a write superseded (R277, R278). -/
def returnOwed (s : State) : State :=
  let live := s.pats.flatMap fun x => (x.fetches.filter (·.begun)).map fun r => (x.handle, r.expert)
  let owed := s.vault.owed.map fun o => (o.1, o.2.filter live.contains)
  { s with vault := { s.vault with
    owed := owed.filter fun o => !o.2.isEmpty
    xact := s.vault.xact + ((owed.filter (·.2.isEmpty)).map (·.1)).foldl (· + ·) 0 } }

/-- A memory with another's bytes written over a range of it. -/
def overWrite (m new : Memory) (off len : Nat) : Memory :=
  new.foldl (fun m c => memWrite m c.1 c.2) (zeroRange m off len)

/-- The commit record of a write (R278 step 3). DESIGN CHOICE: its digest is taken over the fields as 8-byte words in the order in
which the rule lists them, for the rule gives no layout (assumption 123). -/
def recordOf (w : Xact) (x : Spool) : CommitRec :=
  let root := Config.translationRoot w.spool (x.gen + 1)
  { spool := w.spool, inc := x.inc, gen := x.gen + 1, off := w.off, len := w.len, root := root
    digest := sha384 ([w.spool, x.inc, x.gen + 1, w.off, w.len, root].flatMap (leBytes 8)) }

/-- The commit of a write (R278 step 4): data, length and generation at once. What keeps failing there is rewritten (R291). -/
def commitWrite (w : Xact) (s : State) : State :=
  updSpool w.spool (fun x =>
    { x with
      data := overWrite x.data w.data w.off w.len, length := max x.length (w.off + w.len), gen := x.gen + 1
      record := some (recordOf w x), prev := some { record := x.record, length := x.length, gen := x.gen, data := x.data } })
    { s with
      vault := { s.vault with commits := s.vault.commits + 1 }
      bad := s.bad.filter fun b => match b with | .cw i k => !(i == w.spool && w.off ≤ 4096 * k && 4096 * k < w.off + w.len) | _ => true }

/-- Copies of its record have been programmed. -/
def countCopies (n : Nat) (x : Spool) : Spool := { x with record := x.record.map fun r => { r with copies := min 2 (r.copies + n) } }

/-- COMMIT_RECORD_PROGRAMMED (R277, R278): copies of the record of the spool's running write. The first commits it; the command
completes after both, its transaction space returns once no read holds the pages it superseded, and the next write to the spool
starts. What was issued before the rails dropped is programmed all the same (R282, R283). -/
def commitRecord (spool copies : Nat) (s : State) : State :=
  match s.vault.writes.find? (·.spool == spool) with
  | none => s
  | some w =>
    if copies = 0 || !w.started || !(s.vault.st == 2 || !s.mod.rails) then s
    else
      let held := if w.copies = 0 then readersOf s spool else w.readers
      let s := updSpool spool (countCopies copies) (if w.copies = 0 then commitWrite w s else s)
      let n := w.copies + copies
      if n < 2 then
        { s with vault := { s.vault with
          writes := updWhere (fun x => x.q == w.q && x.seq == w.seq) (fun x => { x with copies := n, readers := held }) s.vault.writes } }
      else
        let s := returnOwed { s with vault := { s.vault with
          writes := s.vault.writes.filter (fun x => !(x.q == w.q && x.seq == w.seq)), owed := s.vault.owed ++ [(w.space, held)] } }
        startWrites (finish w.q w.seq .ok (((s.spool? spool).map (·.gen)).getD 0) s)

def execCommitRecordProgrammed (spool copies : Nat) (s : State) : Out := done s (commitRecord spool copies s)

/-- Reserved sizes of all spools, in units of 64 MiB. -/
def reservedUnits (s : State) : Nat := (s.vault.spools.map (·.size)).foldl (· + ·) 0

/-- Units of spools under scrub whose space returns to the free pool. -/
def Vault.scrubUnits (v : Vault) : Nat := ((v.scrubbing.filter (·.back)).map (·.left)).foldl (· + ·) 0

/-- A spool's latest commit record verifies in neither copy. -/
def recordLost (bad : List (Nat × Nat)) (x : Spool) : Bool :=
  match x.record with
  | some r => (List.range r.copies).all fun k => bad.contains (x.id, k)
  | none => false

/-- The spool as its latest commit with a record that verifies left it (R279). -/
def mountSpool (bad : List (Nat × Nat)) (x : Spool) : Spool :=
  if recordLost bad x then
    match x.prev with
    | some p => { x with record := p.record, length := p.length, gen := p.gen, data := p.data, prev := none }
    | none => { x with record := none, length := 0, gen := 0, data := [] }
  else x

/-- The command of a write is still admitted: only the vault processor was reset (R461). -/
def stillAsked (s : State) (w : Xact) : Bool := ((s.queue? w.q).bind (·.entry? w.seq)).isSome

/-- VAULT_MOUNT (R279, R284, R449): each spool stands at its latest valid commit; writes without a commit record are discarded and
counted; free space and transaction space stand again; log numbering resumes from the anchor. -/
def vaultMount (spare : Nat) (reads : MountReads) (s : State) : State :=
  if vaultRefuses s || 2 ≤ s.vault.st || !s.mod.rails || s.mod.resets.running.contains (.vault, 0) then s
  else
    let lost := (s.vault.writes.filter (·.copies == 0)).length + (s.vault.spools.filter (recordLost reads.bad)).length
    { s with
      vault := { s.vault with
        st := if spare = 0 || s.vault.holdupFault then 3 else 2
        spools := s.vault.spools.map (mountSpool reads.bad)
        free := 393216 - reservedUnits s - s.vault.scrubUnits, xact := 2 ^ 40, spare := min spare 100, owed := []
        replayed := 0 < lost, discard := s.vault.discard + BitVec.ofNat 32 lost
        writes := (s.vault.writes.filter fun w => w.copies != 0 && stillAsked s w).map fun w => { w with space := 0 } }
      mgmt := numberLog s.mgmt.anchor false { s.mgmt with credential := reads.credentialOk } }

def execVaultMount (spare : Nat) (reads : MountReads) (s : State) : Out := done s (deliverLog (vaultMount spare reads s))

/-- Writes in progress without a commit record end with TEMP_HOLD, their space returned (R281). -/
def abandonWrites (s : State) : State :=
  (s.vault.writes.filter (·.copies == 0)).foldl (fun s w => failCmd w.q w.seq .tempHold 0 s) s

/-- VAULT_TEMPERATURE_READ (R280, R281), in 0.01 °C: the windows close. -/
def vaultTemp (lo hi : Int) (s : State) : State :=
  let close := lo < 0 || 7500 < hi
  let s := { s with vault := { s.vault with
    tempMin := some lo, tempMax := some hi
    writeHold := s.vault.writeHold || close, readHold := s.vault.readHold || decide (8500 < hi) } }
  if close then abandonWrites s else s

def execVaultTemperatureRead (coldest hottest : Int) (s : State) : Out := done s (vaultTemp coldest hottest s)

/-- VAULT_HOLD_RELEASE (R280): the last readings have held within 2–73 °C, or at or below 83 °C, for 1 s. -/
def vaultRelease (s : State) : State :=
  match s.vault.tempMin, s.vault.tempMax with
  | some lo, some hi =>
    { s with vault := { s.vault with
      writeHold := s.vault.writeHold && !(200 ≤ lo && hi ≤ 7300), readHold := s.vault.readHold && !(hi ≤ 8300) } }
  | _, _ => s

def execVaultHoldRelease (s : State) : Out := done s (vaultRelease s)

/-- So many units of the scrubs, in turn. -/
def scrubSome : Nat → List SpoolScrub → List SpoolScrub
  | _, [] => []
  | n, x :: xs => if x.left ≤ n then scrubSome (n - x.left) xs else { x with left := x.left - n } :: xs

/-- The background scrub of spools proceeds (R361, R362): space returns, and the end of each scrub is logged. -/
def spoolScrub (units : Nat) (s : State) : State :=
  let old := s.vault
  let new := { old with scrubbing := scrubSome units old.scrubbing }
  (old.scrubbing.take (old.scrubbing.length - new.scrubbing.length)).foldl (fun s x => note (.scrubEnd 3 x.spool) s)
    { s with vault := { new with free := old.free + (old.scrubUnits - new.scrubUnits) } }

/-- SPOOL_SCRUB (R361). -/
def execSpoolScrub (units : Nat) (s : State) : Out :=
  done s (if s.vault.st = 2 && !s.vault.writeHold then spoolScrub units s else s)

/-- Spare blocks are used up: the vault is read-only once none is left (R284). How many a page costs is a free value (assumption
124). -/
def useSpare (s : State) : State :=
  let left := s.vault.spare - Config.spareLost s.free
  draw { s with vault := { s.vault with spare := left, st := if left = 0 && s.vault.st = 2 then 3 else s.vault.st } }

/-- VAULT_BACKGROUND_SCAN (R289): counted; a weak page is relocated within its generation, which changes no data. -/
def backgroundScan (strengthPct : Nat) (result : ReadResult) (s : State) : State :=
  if !((s.vault.st = 2 || s.vault.st = 3) && !s.vault.readHold) then s
  else
    match result with
    | .clean => s
    | .corrected =>
      let s := { s with vault := { s.vault with corr := s.vault.corr + 1 } }
      if 75 < strengthPct && !s.vault.writeHold then useSpare s else s
    | .uncorrectable => { s with vault := { s.vault with uncorr := s.vault.uncorr + 1 } }

def execVaultBackgroundScan (_page strengthPct : Nat) (result : ReadResult) (s : State) : Out := done s (backgroundScan strengthPct result s)

/-- LPDDR4X_PATROL_SCRUB (R288–R290): the unit of 256 bytes with that number. -/
def patrolScrub (unit : Nat) (result : ReadResult) (s : State) : State :=
  if !s.power.lpUp then s
  else
    match result with
    | .clean => s
    | .corrected => countCorrected 2 s
    | .uncorrectable => noteUncorrectable 2 (256 * unit) s

def execLpddr4xPatrolScrub (unit : Nat) (result : ReadResult) (s : State) : Out := done s (patrolScrub unit result s)

/-- HOLDUP_CHARGE_TIMEOUT (R509): logged, and read-only until the next module reset. -/
def execHoldupChargeTimeout (s : State) : Out :=
  done s (note .holdupLow { s with vault := { s.vault with
    holdup := false, holdupFault := true, st := if s.vault.st = 2 then 3 else s.vault.st } })

/-! ### Die-to-die links -/

/-- A die-to-die flit (R286, as R170): delivered in order and authenticated, or refused; four tag failures in a row take the
link down. -/
def d2dFlit (link : Nat) (f : Flit) (s : State) : State :=
  let (_, next, fails, down) := (s.d2d.find? (·.1 == link)).getD (link, 0, 0, false)
  let put := fun (x : Nat × BitVec 16 × Nat × Bool) => { s with d2d := x :: s.d2d.filter (·.1 != link) }
  if down then s
  else if !f.fecOk || !f.crcOk then s
  else if !f.tagOk then
    (if 3 ≤ fails then note (.d2dIntegrity link) (put (link, next, 4, true)) else put (link, next, fails + 1, false))
  else if f.seqNo = next then put (link, next + 1, 0, false)
  else put (link, next, 0, false)

def execD2dFlitReceive (link : Nat) (flit : Flit) (s : State) : Out := done s (d2dFlit link flit s)

/-! ### Feed-dog responses -/

/-- A discarded response (R298). -/
def countDiscarded (n : Nat) (s : State) : State := updCtx n (fun c => { c with discarded := c.discarded + 1 }) s

/-- The feed dog and pin set of a target (R295): host 0, LPDDR4X 1, the HBM of a hub die 2–5, the vault 6. -/
def dogOf (target addr : Nat) : Nat := if target = 0 then 0 else if target = 1 then 2 + addr / bolt0 / 216 else 1

/-- Pins of a feed dog (R295); 224 for the host in non-flit mode without 10-bit tags (R305). -/
def pinsOf (s : State) (dog : Nat) : Nat :=
  if dog = 0 then (if !s.link.flit && !s.link.tags10 then 224 else 256) else if dog = 1 then 512 else if dog = 6 then 4096 else 2048

/-- The feed dog that brings an expert: from the warm tier, or from the vault. -/
def fetchDog (x : Pattern) (e : Nat) : Nat := if (fetchSpool x e).isNone then 1 else 6

/-- Pins that expert fetches in progress hold, prefetches alone or all (R253, R295). -/
def fetchPins (s : State) (dog : Nat) (ahead : Bool) : Nat :=
  (s.pats.map fun x => ((x.fetches.filter fun r => r.begun && fetchDog x r.expert == dog && (r.prefetch || !ahead)).map (·.pins)).foldl (· + ·) 0).foldl (· + ·) 0

/-- Pins in use: a request holds its pin until its response arrives or it times out (R295, R298, R315). -/
def pinsUsed (s : State) (dog : Nat) : Nat :=
  (s.reqs.filter fun r => !r.timedOut && dogOf r.target r.addr == dog).length + fetchPins s dog false

/-- Pins that run-ahead and prefetches hold, at most three quarters (R296). -/
def aheadPins (s : State) (dog : Nat) : Nat :=
  (s.reqs.filter fun r => !r.demand && !r.timedOut && dogOf r.target r.addr == dog).length + fetchPins s dog true

/-- Input region of a work item (R343). -/
def inAddr (s : State) (q seq : Nat) : Nat :=
  match s.queue? q with
  | some x => (match x.entry? seq with | some e => desc64 e.desc 24 | none => 0)
  | none => 0

/-- Every fetch has returned: the passes may run (R292, R343). -/
def startRunning (q seq : Nat) (s : State) : State :=
  if s.reqs.any fun r => r.q == q && r.seq == seq && r.demand && !r.cancelled then s
  else updWork q seq (fun w => if w.stage == .fetching && w.toFetch.isEmpty then { w with stage := .running } else w) s

/-- Run-ahead is in flight for the piece of input. -/
def FdReq.runsTo (q seq off : Nat) (r : FdReq) : Bool := r.q == q && r.seq == seq && r.off == off && !r.demand && !r.cancelled && !r.timedOut

/-- What is left of a piece of input behind a request of `n` bytes for it. -/
def leftOf (off n len : Nat) : List (Nat × Nat) := if n < len then [(off + n, len - n)] else []

/-- Length of a read request (R305): at the host within Max_Read_Request_Size, and within a 4 KiB page as PCI Express asks. -/
def reqLen (s : State) (target addr len : Nat) : Nat :=
  if target = 0 then min (min len s.link.readLimit) (4096 - addr % 4096) else len

/-- A read request of a work item: the owning function is its Requester ID; at the host it carries the context's PASID where the
page says so, and a cached translation (R312, R314, R326). -/
def fdReq (s : State) (c : Ctx) (w : Work) (off len target addr : Nat) (demand : Bool) : FdReq :=
  let dva := inAddr s w.q w.seq + off
  { id := s.nextReq, q := w.q, seq := w.seq, ctx := c.num, dva := dva, off := off, len := len, target := target, addr := addr
    demand := demand, fn := c.owner
    pasid := if target = 0 then (c.pages.find? (·.covers dva)).bind (Page.tag · c) else none
    translated := if target = 0 then atcAt s c.owner addr false else none }

/-- One demand request for the next piece of input: run-ahead has brought it, or is to bring it (R297); otherwise it faults,
waits for the host link or a pin, or is issued. -/
def issueNext (c : Ctx) (w : Work) (off len : Nat) (s : State) : Option State :=
  let dva := inAddr s w.q w.seq + off
  let next := fun (n : Nat) (w : Work) => { w with toFetch := leftOf off n len ++ w.toFetch.tail }
  match w.got.find? (·.1 == off), s.reqs.find? (FdReq.runsTo w.q w.seq off) with
  | some g, _ => some (updWork w.q w.seq (fun w => { next g.2.length w with
      input := memWriteN w.input off g.2, got := w.got.filter (·.1 != off), unused := w.unused - 1 }) s)
  | none, some r => some (updWork w.q w.seq (next r.len)
      { s with reqs := updWhere (FdReq.runsTo w.q w.seq off) (fun r => { r with demand := true }) s.reqs })
  | none, none =>
    match rangeFault s c dva len false, dvaPlace c dva with
    | some a, _ => some (errWork w.q w.seq .accessFault a s)
    | none, none => none
    | none, some (target, addr) =>
      let n := reqLen s target addr len
      if hostWaits s c dva n || (wantedIn s c false dva n).isSome || pinsOf s (dogOf target addr) ≤ pinsUsed s (dogOf target addr) then none
      else some (updWork w.q w.seq (next n)
        { s with reqs := s.reqs ++ [fdReq s c w off n target addr true], nextReq := s.nextReq + 1 })

/-- Requests of a work item, in order, as far as they go now. -/
def issueWork (q seq : Nat) : Nat → State → State
  | 0, s => s
  | k + 1, s =>
    match s.work? q seq with
    | none => s
    | some w =>
      match w.toFetch, s.ctx? w.ctx with
      | (off, len) :: _, some c =>
        (match issueNext c w off len s with
         | some s' => issueWork q seq k s'
         | none => s)
      | _, _ => s

/-- The input streams of the work item have their buffers (R243, R247). -/
def inputOpen (s : State) (w : Work) : Bool :=
  match s.pat? w.ctx w.pat with
  | some x => inputGranted s x.file w
  | none => true

/-- The translation permits a run-ahead read (R297). -/
def aheadOk (s : State) (c : Ctx) (w : Work) (off len : Nat) : Bool :=
  (rangeFault s c (inAddr s w.q w.seq + off) len false).isNone && (dvaPlace c (inAddr s w.q w.seq + off)).isSome

/-- One run-ahead request within the declared input (R297): issued only where the translation permits the read, and where
run-ahead leaves a quarter of the pins to demand (R296). -/
def aheadReq (c : Ctx) (w : Work) (off len : Nat) (s : State) : Option State :=
  let dva := inAddr s w.q w.seq + off
  match aheadOk s c w off len, dvaPlace c dva with
  | true, some (target, addr) =>
    let dog := dogOf target addr
    let n := reqLen s target addr len
    if hostWaits s c dva n || (wantedIn s c false dva n).isSome || pinsOf s dog ≤ pinsUsed s dog || 3 * pinsOf s dog ≤ 4 * aheadPins s dog then none
    else some { s with reqs := s.reqs ++ [fdReq s c w off n target addr false], nextReq := s.nextReq + 1 }
  | _, _ => none

/-- The next run-ahead beyond what the pattern consumes; at the first page that does not permit it, run-ahead ends. -/
def aheadNext (c : Ctx) (w : Work) (off len : Nat) (s : State) : Option State :=
  if aheadOk s c w off len then
    (aheadReq c w off len s).map (updWork w.q w.seq fun w => { w with
      ahead := leftOf off ((((dvaPlace c (inAddr s w.q w.seq + off)).map fun x => reqLen s x.1 x.2 len)).getD len) len ++ w.ahead.tail })
  else some (updWork w.q w.seq (fun w => { w with ahead := [] }) s)

/-- Run-ahead on input that the work item will demand: one request after the other, until one cannot be issued. -/
def issueEarly (c : Ctx) (w : Work) : List (Nat × Nat) → State → State
  | [], s => s
  | (off, len) :: l, s => match aheadReq c w off len s with | some s' => issueEarly c w l s' | none => s

/-- Run-ahead on the demand of a work item that waits for its credits (R243, R297): as many requests as a free number says
(assumption 62), once. -/
def runEarly (w : Work) (s : State) : State :=
  match w.toFetch, s.ctx? w.ctx with
  | (off, len) :: _, some c =>
    if w.ranAhead || (aheadReq c w off len s).isNone then s
    else issueEarly c w (w.toFetch.take (Config.runAhead s.free)) (draw (updWork w.q w.seq (fun w => { w with ranAhead := true }) s))
  | _, _ => s

/-- Run-ahead of a work item whose demand requests are all issued. -/
def issueAhead (q seq : Nat) : Nat → State → State
  | 0, s => s
  | k + 1, s =>
    match s.work? q seq with
    | none => s
    | some w =>
      match w.toFetch, w.ahead, s.ctx? w.ctx with
      | [], (off, len) :: _, some c =>
        (match aheadNext c w off len s with
         | some s' => issueAhead q seq k s'
         | none => s)
      | _, _, _ => s

/-- Under ATS the next read asks for a translation that it lacks, and waits for it (R312). -/
def askNext (w : Work) (s : State) : State :=
  match w.toFetch.head?.or w.ahead.head?, s.ctx? w.ctx with
  | some (off, len), some c =>
    let dva := inAddr s w.q w.seq + off
    (match dvaPlace c dva with
     | some (target, addr) =>
       let n := reqLen s target addr len
       (match (if inputOpen s w && (rangeFault s c dva n false).isNone && !hostWaits s c dva n then wantedIn s c false dva n else none) with
        | some p => askPage { fn := c.owner, page := p, q := w.q, seq := w.seq, dva := dva, demand := !w.toFetch.isEmpty, write := false } s
        | none => s)
     | none => s)
  | _, _ => s

/-- The feed dogs issue what they can for every work item: demand first, run-ahead after it (R296). -/
def pump (s : State) : State :=
  let s := s.works.foldl (fun s w =>
    if w.stage == .fetching && inputOpen s w then startRunning w.q w.seq (issueWork w.q w.seq (34 * w.toFetch.length) s) else s) s
  let s := s.works.foldl (fun s w =>
    if w.stage == .writeOut then s
    else
      let s := match s.work? w.q w.seq with | some w => runEarly w s | none => s
      issueAhead w.q w.seq (34 * w.ahead.length) s) s
  s.works.foldl (fun s w => if w.stage == .writeOut then s else askNext w s) s

/-- Data in a range of device memory keeps failing (R291). -/
def memBad (s : State) (tier a n : Nat) : Bool :=
  s.bad.any fun b => match b with | .mem t x => t == tier && a ≤ x && x < a + n | _ => false

/-- A response is used: up to 4 KiB of input, or the work item that needs it fails (R291, R315); run-ahead data is kept, and no
error of it counts. -/
def useResponse (r : FdReq) (rsp0 : Rsp) (s0 : State) : State :=
  let rsp := if rsp0.came && memBad s0 r.target r.addr r.len then .uncorrectable else rsp0
  let s := noteRead r.target r.addr rsp s0
  if rsp.came && !r.demand then
    updWork r.q r.seq (fun w => { w with
      unused := w.unused + 1
      got := if w.toFetch.any (·.1 == r.off) then
          (r.off, ((s.ctx? r.ctx).map fun c => dvaReadN s c r.dva r.len).getD []) :: w.got else w.got }) s
  else if rsp.came then
    match s.ctx? r.ctx with
    | some c =>
      let bs := dvaReadN s c r.dva r.len
      startRunning r.q r.seq (updWork r.q r.seq (fun w => { w with input := memWriteN w.input r.off bs }) s)
    | none => s
  else if r.demand then
    errWork r.q r.seq (rspStatus rsp) (if rspStatus rsp == .accessFault then r.dva else 0) s
  else s

/-- FEED_DOG_RESPONSE (R298, R315): its pin returns; a cancelled or late one is discarded and counted. -/
def feedDogResponse (id : Nat) (rsp : Rsp) (s : State) : State :=
  match s.reqs.find? (·.id == id) with
  | none => s
  | some r =>
    let s := timedOutAt r.fn r.target rsp { s with reqs := s.reqs.filter (·.id != id) }
    pump (if r.cancelled || r.timedOut then countDiscarded r.ctx s else useResponse r rsp s)

/-- COMPLETION_TIMEOUT on a host read (R315): the pin returns, the item ends with ACCESS_FAULT naming the DVA. -/
def timeoutReq (id : Nat) (s : State) : State :=
  match s.reqs.find? (·.id == id) with
  | none => s
  | some r =>
    if r.target != 0 || r.timedOut then s
    else
      let s := { s with
        reqs := updWhere (·.id == id) (fun x => { x with timedOut := true }) s.reqs
        link := { s.link with aer := (r.fn.val, 0) :: s.link.aer } }
      pump (if r.cancelled || !r.demand then s else errWork r.q r.seq .accessFault r.dva s)

def execCompletionTimeout (id : Nat) (s : State) : Out := done s (timeoutReq id s)

end Sys2Proof.Machine
end

