-- ==== Sys2Proof/Machine/Compute.lean ====
section
/-! DEFINITION. The arithmetic of a work item: weight blocks (R83–R86, R227), the gathering of group sums (R101, R102, R117),
scaling (R115–R121), finished elements (R122–R129), and the requests for experts (R250–R254). -/
namespace Sys2Proof.Machine

/-! ### Experts (R250–R252) -/

/-- An expert of a set ranked among others (R250): by score descending, then by index ascending. -/
def rankIn (f : List Byte) (score : Nat → Int) (r : Nat) : List Nat → List Nat
  | [] => [r]
  | a :: as_ =>
    if score a < score r || (score a == score r && expertIndex f r < expertIndex f a) then r :: a :: as_ else a :: rankIn f score r as_

/-- The EXPERTS records of a set, the highest scores first. -/
def ranked (f : List Byte) (score : Nat → Int) (set : Nat) : List Nat :=
  ((List.range (nExperts f)).filter fun i => expertSet f i == set).foldr (rankIn f score) []

/-- The expert pieces that share a routing: one set, one stage. -/
def expertPeers (f : List Byte) (p : Nat) : List Nat :=
  (List.range (nPieces f)).filter fun q =>
    pieceExpert f q && !pieceDynamic f q && pieceSet f q == pieceSet f p && pieceStage f q == pieceStage f p

/-- The EXPERTS record that vector v of an expert piece uses (R250: a token goes to all its experts): the k-th such piece takes
the k-th of the at most eight highest scores. No record names the router piece, and the spec gives its program no content: the
scores are free values of the vector (assumption 29). -/
def expertFor (f : List Byte) (w : Work) (p v : Nat) : Option Nat :=
  let peers := expertPeers f p
  let q := peers.headD p
  let xs := ((pieceInput f w q).drop (v * pieceRed f q)).take (pieceRed f q)
  (ranked f (fun r => Config.score f xs (pieceSet f p) (expertIndex f r)) (pieceSet f p))[(peers.takeWhile (· != p)).length % 8]?

/-- The expert of a vector of a piece: none where the piece is no expert piece. -/
def vecExpert (f : List Byte) (w : Work) (p v : Nat) : Option Nat := if pieceRouted f p then expertFor f w p v else none

/-- Bytes of a cached expert from an offset on. -/
def expertBytes (x : Pattern) (e off n : Nat) : List Byte :=
  match x.cache.find? (·.expert == e) with
  | some c => fileN c.data off n
  | none => List.replicate n 0

/-! ### Blocks (R83–R86, R226, R227) -/

def halfSum (f : Nat → Int) (h : Nat) : Int := ((List.range 32).map fun i => f (32 * h + i)).foldl (· + ·) 0

/-- Offset-binary weight u of row group j on a channel (R83, R84). -/
def planeWeight (wb : Nat) (planes : List (BitVec 64)) (j ch : Nat) : Nat :=
  ((List.range wb).map fun b => bitAtN b ((planes.getD (wb * j + b) 0).getLsbD ch)).foldl (· + ·) 0
where
  bitAtN (n : Nat) (b : Bool) : Nat := if b then 2 ^ n else 0

/-- Σw(j, h) at 2j + h for n row groups (R86). -/
def planeSigma (wb : Nat) (planes : List (BitVec 64)) (n : Nat) : List Int :=
  (List.range (2 * n)).map fun i => halfSum (fun ch => (planeWeight wb planes (i / 2) ch : Int) - 2 ^ (wb - 1)) (i % 2)

def planesOf (bs : List Byte) : List (BitVec 64) := (List.range 64).map fun r => BitVec.ofNat 64 (fileNat bs (8 * r) 8)

/-- Row r's 64 codes (R48, R64). -/
def codesOf (bs : List Byte) : List (List Nat) :=
  (List.range 64).map fun r => (List.range 64).map fun ch => fileNat bs (48 * r) 48 / 2 ^ (6 * ch) % 64

/-- Sums of the rows' codes (R59). -/
def codeSums (codes : List (List Nat)) : List Int := codes.map fun r => ((r.foldl (· + ·) 0 : Nat) : Int)

/-- Check values stored with a block, of the row groups or rows in use (R86, R227). -/
def storedSigma (analog : Bool) (n : Nat) (bs : List Byte) : List Int :=
  if analog then (List.range n).map fun r => (fileNat bs (3072 + 2 * r) 2 : Int)
  else (List.range (2 * n)).map fun i => signedOf 16 (fileNat bs (512 + 2 * i) 2)

/-- The even and all-row parities that the selvedge rows hold (R91). -/
def xorAll (l : List (BitVec 64)) : BitVec 64 := l.foldl (· ^^^ ·) 0

/-- A block as loaded from its bytes, with the sums that the converter forms. Row groups that the set does not use are loaded
all-OFF (R85, R226). -/
def blockOf (x : Pattern) (p set pass : Nat) (bs : List Byte) : Block :=
  let num := pieceNum x.file p
  let n := setRows x.file p set
  if numAnalog num then
    let codes := (codesOf bs).take n ++ List.replicate (64 - n) (List.replicate 64 0)
    { pat := x.handle, piece := p, set := set, pass := pass, analog := true, wb := 6, groups := n, codes := codes
      sigma := codeSums (codes.take n) }
  else
    let wb := weightBits (numWFmt num)
    let planes := (planesOf bs).take (wb * n) ++ List.replicate (64 - wb * n) 0
    { pat := x.handle, piece := p, set := set, pass := pass, analog := false, wb := wb, groups := n, planes := planes
      sel64 := xorAll planes, sel65 := xorAll ((List.range 32).map fun i => planes.getD (2 * i) 0)
      sigma := planeSigma wb planes n }

/-- Check values of a block, as its producer writes them: those of a requantiser (R242), or of the vault controller (R252). -/
def withSigma (x : Pattern) (p set pass : Nat) (raw : List Byte) : List Byte :=
  raw ++ (blockOf x p set pass raw).sigma.flatMap fun v => leBytes 2 (wrap 16 v)

/-- Bytes of a block of a piece as its source holds them, check values included; a work item where its stream brings the weights,
an EXPERTS record where the piece takes an expert's. The host and vector-unit programs write check values themselves (R242). -/
def blockSource (x : Pattern) (w : Option Work) (e : Option Nat) (p set pass : Nat) : Option (List Byte) :=
  let b := set * nPasses x.file p + pass
  let analog := numAnalog (pieceNum x.file p)
  if pieceDynamic x.file p then
    match w, weightStream x.file p with
    | some w, some i =>
      let rec_ := fileN (streamData x.file w i) (b * (if analog then 3200 else 640)) (if analog then 3200 else 640)
      if streamProd x.file i = 0xFFFF || pieceVu x.file (streamProd x.file i) != 0xFFFF then some rec_
      else some (withSigma x p set pass (rec_.take (if analog then 3072 else 512)))
    | _, _ => none
  else if pieceExpert x.file p then
    e.map fun e => withSigma x p set pass (expertBytes x e (b * (if analog then 3072 else 512)) (if analog then 3072 else 512))
  else some (fileN x.file ((sect x.file 2).off + (pieceBlock0 x.file p + b) * blockRecord x.file) (blockRecord x.file))

/-! ### Groups (R101, R102, R115–R122) -/

/-- The reduction of an element in progress. -/
def accOf (w : Work) (p v j : Nat) : Acc :=
  (w.accs.find? fun a => a.piece == p && a.vec == v && a.group == j).getD { piece := p, vec := v, group := j }

def putAcc (a : Acc) (w : Work) : Work :=
  { w with accs := a :: w.accs.filter fun b => !(b.piece == a.piece && b.vec == a.vec && b.group == a.group) }

/-- A group sum handed off: vector, row group, group, and the sum. -/
abbrev Hand := Nat × Nat × Nat × Int

/-- One pass's half sums join the groups of an element (R102, R117): the group sums that are complete with it. -/
def gather (f : List Byte) (p pass v j : Nat) (ya yb : Int) (w : Work) : Work × List Hand :=
  match numGroup (pieceNum f p) with
  | 1 => (w, (v, j, 2 * pass, ya) :: if 2 * pass + 1 < nGroups f p then [(v, j, 2 * pass + 1, yb)] else [])
  | 3 =>
    let a := accOf w p v j
    let rest := a.open_.filter (·.1 != pass / 2)
    if pass % 2 = 0 then (putAcc { a with open_ := (pass / 2, ya + yb) :: rest } w, [])
    else (putAcc { a with open_ := rest } w, [(v, j, pass / 2, ((a.open_.find? (·.1 == pass / 2)).map (·.2)).getD 0 + ya + yb)])
  | _ => (w, [(v, j, pass, ya + yb)])

/-- The scale word that a group's term takes: the one the reader presents, or as stored (R117, R252). -/
def storedWord (x : Pattern) (w : Work) (p v j g : Nat) : Nat :=
  if pieceRouted x.file p then
    match expertFor x.file w p v with
    | some e =>
      let blocks := nPasses x.file p * nSets x.file p * (if numAnalog (pieceNum x.file p) then 3072 else 512)
      leNat (expertBytes x e (blocks + 4 * (j * nGroups x.file p + g)) 4)
    | none => 0
  else scaleWordAt x.file p j g

/-- A handed-off group is checked, scaled and added (R115, R118, R119, R121, R122): reserved bits before the tag. -/
def takeGroup (f : List Byte) (p : Nat) (h : Hand) (word : Nat) (w : Work) : Except (Status × List Note) Work :=
  let n := pieceNum f p
  let a := accOf w p h.1 h.2.1
  let add := fun (t : Int) => putAcc { a with sum := a.sum + t, count := a.count + 1 } w
  if numGroup n = 0 then .ok (add h.2.2.2)
  else if word / 2 ^ 22 % 4 != 0 then .error (.integrityFail, [])
  else if word / 2 ^ 24 != h.2.2.1 % 256 then .error (.scaleSkew, [.scaleSkew p h.2.1 h.2.2.1 (word / 2 ^ 24)])
  else .ok (add (scaleTerm (numRnd n) h.2.2.2 word))

/-- Handed-off groups in order, each with its word. -/
def takeGroups (f : List Byte) (p : Nat) : List (Hand × Nat) → Work → Except (Status × List Note) Work
  | [], w => .ok w
  | (h, word) :: l, w =>
    match takeGroup f p h word w with
    | .ok w => takeGroups f p l w
    | .error e => .error e

/-- A finished element: its value, the saturation count, and its observation (R122–R126, R129). -/
def finishElem (f : List Byte) (p v j : Nat) (w : Work) : Work :=
  let n := pieceNum f p
  let rq := if numOutFmt n = 4 then 0 else rqWordAt f p j
  let sum := (accOf w p v j).sum
  let slot := numTrackOut n
  let o := outputElem n rq (if numTrackOut n = numTrackIn n then 0 else expOf w slot)
    (if numTrackOut n = numTrackIn n then 0 else expOf w (numTrackIn n)) sum
  { w with
    accs := w.accs.filter fun b => !(b.piece == p && b.vec == v && b.group == j)
    elems := { piece := p, vec := v, group := j, value := o.1 } :: w.elems
    sat := w.sat + (if o.2 then 1 else 0)
    obs := if slot = 0xFF then w.obs
      else (slot, max (((w.obs.find? (·.1 == slot)).map (·.2)).getD 0) (observe n rq sum)) :: w.obs.filter (·.1 != slot) }

/-- A vector-unit program runs once its piece's operands are there (R225, R518): its input is the exponent of the tensor it
consumes (R128) and its elements, weighted where the piece has weights; its outputs are free values (assumption 4). -/
def runProgram (f : List Byte) (p : Nat) (w : Work) : Work :=
  if pieceVu f p = 0xFFFF then w
  else
    let xs := if pieceWeights f p then pieceTensor f w p else pieceInput f w p
    let out := (outStreams f p).map fun i =>
      (i, Config.vuProgram (vuBytes f (pieceVu f p)) (expOf w (numTrackIn (pieceNum f p)) :: xs) (streamBytes f i))
    { w with vuOut := out ++ w.vuOut }

/-- The elements of one row-group set and some vectors finish after the last pass (R63). -/
def finishVecs (f : List Byte) (p set : Nat) (vs : List Nat) (w : Work) : Work :=
  let rows := (List.range (setRows f p set)).map fun jl => set * setGroups (pieceNum f p) + jl
  let w := vs.foldl (fun w v => rows.foldl (fun w j => finishElem f p v j w) w) w
  if elemsDone f w p && !pieceVuOnly f p then runProgram f p w else w

/-- One committed pass of a set (R101, R102): `y` gives each vector's, row group's and half's sum; `words` the scale words
that the reader presents, in the order of the groups handed off, as stored where absent; `last` says that the reduction is
complete with it. -/
def commitPass (x : Pattern) (p set pass : Nat) (last : Bool) (vs : List Nat) (y : Nat → Nat → Nat → Int)
    (words : Option (List Word)) (w : Work) : Except (Status × List Note) Work :=
  let f := x.file
  let rows := List.range (setRows f p set)
  let (w1, hands) := (vs.flatMap fun v => rows.map fun jl => (v, jl)).foldl
    (fun (acc : Work × List Hand) vj =>
      let r := gather f p pass vj.1 (set * setGroups (pieceNum f p) + vj.2) (y vj.1 vj.2 0) (y vj.1 vj.2 1) acc.1
      (r.1, acc.2 ++ r.2)) (w, [])
  let tagged := hands.mapIdx fun i h =>
    (h, match words with
        | some ws => ((ws[i]?).map (·.toNat)).getD (storedWord x w p h.1 h.2.1 h.2.2.1)
        | none => storedWord x w p h.1 h.2.1 h.2.2.1)
  match takeGroups f p tagged w1 with
  | .error e => .error e
  | .ok w2 => .ok (if last then finishVecs f p set vs w2 else w2)

/-- An error of a work item's arithmetic: logged, and the item ends (R108, R119, R121). -/
def arithError (q seq : Nat) (e : Status × List Note) (s : State) : State := errWork q seq e.1 0 (e.2.foldl (fun s n => note n s) s)

/-! ### Direct sums (R103, R104) -/

/-- Weight of row group jl on a channel of a block. -/
def blockWeight (b : Block) (jl ch : Nat) : Int :=
  if b.analog then (((b.codes.getD jl []).getD ch 32 : Nat) : Int) - 32
  else (planeWeight b.wb b.planes jl ch : Int) - 2 ^ (b.wb - 1)

/-- Σ (x − z_x) × w over one half of a pass. -/
def directSum (f : List Byte) (p : Nat) (xs : List Int) (b : Block) (pass v jl h : Nat) : Int :=
  let e := passElems f p xs v pass
  halfSum (fun ch => if 64 * pass + ch < pieceRed f p then (e.getD ch 0 - numZx (pieceNum f p)) * blockWeight b jl ch else 0) h

/-! ### Expert requests (R253, R254) -/

/-- The expert is in the hot tier. -/
def expertHot (x : Pattern) (e : Nat) : Bool := x.cache.any fun c => c.expert == e && c.hot

/-- Vectors of a piece that are there and not finished. -/
def openVecs (f : List Byte) (w : Work) (p : Nat) : List Nat :=
  (List.range (nVecs f p)).filter fun v => feedReady f w p v && !vecDone f w p v

/-- Experts that a running work item needs now: those of the unfinished vectors of pieces that are ready. -/
def expertsNeeded (x : Pattern) (w : Work) : List Nat :=
  (((List.range (nPieces x.file)).filter fun p => pieceRouted x.file p && pieceReady x.file w p).flatMap fun p =>
    (openVecs x.file w p).filterMap (expertFor x.file w p)).eraseDups

/-- A demand request joins the expert queue (R254): a request for the expert takes the waiter. It stands behind the demand
requests of earlier work items of its queue and of earlier arrivals, and before every prefetch; a demand that a waiter joins
does not fall back. -/
def addDemand (e q seq : Nat) (l : List ExpertReq) : List ExpertReq :=
  let old := (l.find? (·.expert == e)).getD { expert := e, prefetch := true, pin := false, waiters := [] }
  let req := { old with prefetch := false, waiters := if old.waiters.contains (q, seq) then old.waiters else old.waiters ++ [(q, seq)] }
  let rest := l.filter (·.expert != e)
  let ahead := (rest.takeWhile fun r => !r.prefetch && !r.waiters.any fun u => u.1 == q && seq < u.2).length
  let at_ := if old.prefetch then ahead else min ahead (l.takeWhile (·.expert != e)).length
  rest.take at_ ++ req :: rest.drop at_

/-- A fetch may go on (R276): it is in progress, or its spool takes new requests and its committed length covers the expert. -/
def fetchServed (s : State) (x : Pattern) (r : ExpertReq) : Bool :=
  let n := expertFrom x.file r.expert + expertLen x.file r.expert
  r.begun || (match fetchSpool x r.expert with
    | some id =>
      (match s.spool? id with
       | some y => y.ctx == some x.ctx && !y.closing && decide (n ≤ y.length)
       | none => false)
    | none => true)

/-- The fetch fails: every work item that waits for it ends (R254, R280, R463). -/
def failFetch (x : Pattern) (r : ExpertReq) (st : Status) (info : Nat) (s : State) : State :=
  r.waiters.foldl (fun s u => errWork u.1 u.2 st info s)
    (updPat x.ctx x.handle (fun y => { y with fetches := y.fetches.filter (·.expert != r.expert) }) s)

/-- The bytes of an expert that a fetch brings: from the warm tier, or from its spool. -/
def fetchedData (s : State) (x : Pattern) (e : Nat) : List Byte :=
  match x.cache.find? (·.expert == e) with
  | some c => c.data
  | none =>
    match s.spool? (x.spools.getD (expertSpool x.file e) 0) with
    | some y => memReadN y.data (expertFrom x.file e) (expertLen x.file e)
    | none => []

/-- A fetch begins once it has a pin (R295, R296): from the generation committed now (R277). -/
def ExpertReq.start (s : State) (x : Pattern) (r : ExpertReq) : ExpertReq :=
  let dog := fetchDog x r.expert
  let free := pinsOf s dog - pinsUsed s dog
  let free := if r.prefetch then min free (3 * pinsOf s dog / 4 - aheadPins s dog) else free
  if r.begun || free = 0 then r
  else { r with begun := true, data := fetchedData s x r.expert, pins := min free ((expertLen x.file r.expert + 4095) / 4096) }

/-- New requests of a spool that is being deleted or reassigned fail at once (R276); the head of each queue is in progress. -/
def fetchFollow (s : State) : State :=
  let s := s.pats.foldl (fun s x => (x.fetches.filter fun r => !fetchServed s x r).foldl
    (fun s r => failFetch x r .accessFault (expertFrom x.file r.expert) s) s) s
  returnOwed (s.pats.foldl (fun s x =>
    updPat x.ctx x.handle (fun y => { y with fetches := match y.fetches with | r :: l => r.start s y :: l | [] => [] }) s) s)

/-- Cold experts that the running work items need are requested. -/
def requestExperts (s : State) : State :=
  fetchFollow (s.works.foldl (fun s w =>
    match s.pat? w.ctx w.pat with
    | some x =>
      if nExperts x.file = 0 then s
      else
        ((expertsNeeded x w).filter fun e => !expertHot x e).foldl (fun s e =>
          updPat w.ctx w.pat (fun y => { y with fetches := addDemand e w.q w.seq y.fetches }) s) s
    | none => s) s)

end Sys2Proof.Machine
end

