-- ==== Sys2Proof/Machine/Admin.lean ====
section
/-! DEFINITION. The admin commands: contexts, queues, mappings, partitions, priorities and cancellation (R263, R264, R347,
R356, R357, R360–R362, R520). Admin commands run on queue 0, one at a time; one that waits is presented again. -/
namespace Sys2Proof.Machine

/-- The lowest number from `lo` to below `hi` that is not used. -/
def freeNumber (lo hi : Nat) (used : List Nat) : Option Nat :=
  ((List.range (hi - lo)).map (· + lo)).find? fun n => !used.contains n

/-! ### Contexts and queues -/

/-- CREATE_CONTEXT (R347). The number is the lowest free one (assumption 23). -/
def createContext (seq : Nat) (d : Desc) (s : State) : State :=
  let owner : Fin 64 := ⟨desc16 d 16 % 64, Nat.mod_lt _ (by decide)⟩
  if !s.funcs[owner].enabled then finish 0 seq .notPermitted 0 s
  else
    match freeNumber 0 1024 (s.ctxs.map (·.num)) with
    | none => finish 0 seq .resourceShort 0 s
    | some n =>
      let c : Ctx :=
        { num := n, owner := owner, weight := descByte d 19
          pasid := if descByte d 18 % 2 = 1 then some (desc32 d 20) else none
          dbPage := desc64 d 24, csp := desc64 d 32 }
      finish 0 seq .ok n { s with ctxs := s.ctxs ++ [c] }

def execCreateContext (seq : Nat) (s : State) : Out :=
  done s (inTurn 0x40 0 seq s fun _ _ e => createContext seq e.desc s)

/-- The queue that CREATE_QUEUE describes (R347). -/
def newQueue (n : Nat) (d : Desc) : Queue :=
  { num := n, ctx := desc16 d 16, slot := descByte d 18, sizeLog2 := descByte d 19, vector := desc16 d 20
    priority := descByte d 22, coalCount := descByte d 23, coalTime := desc16 d 40, ring := desc64 d 24, cq := desc64 d 32 }

/-- CREATE_QUEUE (R347, R520): FLAGS = 0 and HEAD = 0 are written into the slot. A VF's vector above 63 is out of range. -/
def createQueue (seq : Nat) (d : Desc) (s : State) : State :=
  match s.ctx? (desc16 d 16) with
  | none => finish 0 seq .notPermitted 0 s
  | some c =>
    if c.owner != 0 && 63 < desc16 d 20 then finish 0 seq .descInvalid 0 s
    else
      match freeNumber 1 4096 (s.queues.map (·.num)) with
      | none => finish 0 seq .resourceShort 0 s
      | some n =>
        if s.queues.any fun q => q.ctx == c.num && q.slot == descByte d 18 then finish 0 seq .notPermitted 0 s
        else finish 0 seq .ok n (writeSlot n { s with queues := s.queues ++ [newQueue n d] })

def execCreateQueue (seq : Nat) (s : State) : Out := done s (inTurn 0x42 0 seq s fun _ _ e => createQueue seq e.desc s)

/-- All items of a queue are named as by CANCEL with ALL, those still in the ring included (R356, R357). -/
def doomQueue (n : Nat) (s : State) : State :=
  match s.queue? n with
  | none => s
  | some q => updQueue n (fun q => { q with doomed := (q.head, q.tail - 1) :: q.doomed, closing := true }) (cancelItems n q.entries s)

/-- Nothing that TAIL covers is left to admit. What can no longer be read (queue stopped, ring read failed) gets no record
(R334, R462; assumption 24). -/
def ringDone (q : Queue) : Bool := q.tail ≤ q.head || q.stopped || q.ringLost

/-- Every record of a doomed queue is written. -/
def queueDrained (q : Queue) : Bool :=
  q.entries.isEmpty && ringDone q

/-- A drained queue goes: STOPPED in its slot, its pending interrupt sent (R355, R357). -/
def closeQueue (n : Nat) (s : State) : State := removeQueue n (sendQueueInt n (shutQueue n s))

/-- STOPPED is set once every item that was named has been admitted (R357). -/
def shutDone (n : Nat) (s : State) : State := if (s.queue? n).any ringDone then shutQueue n s else s

/-- DESTROY_QUEUE (R357). -/
def destroyQueue (seq : Nat) (e : Entry) (s : State) : State :=
  let n := desc16 e.desc 16
  if n = 0 then finish 0 seq .notPermitted 0 s
  else
    match s.queue? n with
    | none => finish 0 seq (if e.st == .begun then .ok else .notPermitted) 0 s
    | some _ =>
      let s := shutDone n (if e.st == .begun then s else begin_ 0 seq (doomQueue n s))
      match s.queue? n with
      | none => s
      | some q => if queueDrained q then finish 0 seq .ok 0 (closeQueue n s) else s

def execDestroyQueue (seq : Nat) (s : State) : Out := done s (inTurn 0x43 0 seq s fun _ _ e => destroyQueue seq e s)

/-- DESTROY_CONTEXT (R357): its queues as DESTROY_QUEUE, then its patterns, mappings, partitions and spools, once no request
under its mappings is in flight (R264). -/
def destroyContext (seq : Nat) (e : Entry) (s : State) : State :=
  let n := desc16 e.desc 16
  if n = 0 then finish 0 seq .notPermitted 0 s
  else
    match s.ctx? n with
    | none => finish 0 seq (if e.st == .begun then .ok else .notPermitted) 0 s
    | some _ =>
      let own := (s.queues.filter (·.ctx == n)).map (·.num)
      let s := if e.st == .begun then s else begin_ 0 seq (own.foldl (fun s q => doomQueue q s) s)
      let s := own.foldl (fun s q => shutDone q s) s
      if (s.queues.all fun q => q.ctx != n || queueDrained q) && (s.reqs.all (·.ctx != n)) then
        finish 0 seq .ok 0 (wipeCtx n (own.foldl (fun s q => closeQueue q s) s))
      else s

def execDestroyContext (seq : Nat) (s : State) : Out := done s (inTurn 0x41 0 seq s fun _ _ e => destroyContext seq e s)

/-! ### MAP and UNMAP -/

/-- Bytes of a table of a level (R261). -/
def tableSize (level : Nat) : Nat := if level = 3 then 256 else 16384

/-- The tables below L0 that a page needs: level, and the DVA at which their range begins (R261). -/
def pageTables (p : Page) : List (Nat × Nat) :=
  [(1, p.dva / 2 ^ 43 * 2 ^ 43), (2, p.dva / 2 ^ 32 * 2 ^ 32)] ++ if p.big then [] else [(3, p.dva / 2 ^ 21 * 2 ^ 21)]

/-- Those that a context has not got. -/
def needTables (c : Ctx) (ps : List Page) : List (Nat × Nat) :=
  (ps.flatMap pageTables).eraseDups.filter fun t => !c.tables.any fun x => x.level == t.1 && x.base == t.2

def poolUsed (s : State) : Nat := ((s.ctxs.flatMap (·.tables)).map fun t => tableSize t.level).foldl (· + ·) 0

/-- The lowest place in the pool that no table overlaps. DESIGN CHOICE: firmware's choice shows nowhere (assumption 109). -/
def poolPlace (s : State) (n : Nat) : Nat :=
  let used := s.ctxs.flatMap (·.tables)
  let open_ := (0 :: used.map fun t => (t.off + tableSize t.level + n - 1) / n * n).filter fun a =>
    used.all fun t => a + n ≤ t.off || t.off + tableSize t.level ≤ a
  open_.foldl min (open_.headD 0)

/-- MAP takes from the pool every table that it needs (R261). -/
def addTables (n : Nat) (ps : List Page) (s : State) : State :=
  match s.ctx? n with
  | none => s
  | some c => (needTables c ps).foldl (fun s t =>
      updCtx n (fun c => { c with tables := c.tables ++ [{ level := t.1, base := t.2, off := poolPlace s (tableSize t.1) }] }) s) s

/-- Tables that still hold an entry. -/
def keepTables (ps : List Page) (ts : List Table) : List Table :=
  ts.filter fun t => ps.any fun p => (pageTables p).contains (t.level, t.base)

/-! The entries of the tables as the system bolts hold them (R262): a view of the context's pages and tables. -/

/-- Device HBM address of a table: the pool lies in the two system bolts of each hub die, 1 GiB in each pair (R261, R267). -/
def Table.addr (t : Table) : Nat := (216 * (t.off / bolt0) + 214) * bolt0 + t.off % bolt0

/-- An entry: ADDR, TARGET, PASID, WRITE, READ, LEAF, VALID. -/
def tableWord (addr target : Nat) (pasid write read leaf : Bool) : BitVec 64 :=
  BitVec.ofNat 64 (addr % 2 ^ 52 / 2 ^ 8 * 2 ^ 8 + target * 2 ^ 6 + bitAt 5 (pasid && target == 0) + bitAt 3 write + bitAt 2 read
    + bitAt 1 leaf + 1)

def Page.entry (p : Page) : BitVec 64 := tableWord p.addr p.target p.pasid p.write p.read true

/-- A pointer to a table; its target is always HBM. -/
def Table.entry (t : Table) : BitVec 64 := tableWord t.addr 1 false false false false

/-- What one entry of a table of a level covers. -/
def entrySpan (level : Nat) : Nat := match level with | 0 => 2 ^ 43 | 1 => 2 ^ 32 | 2 => 2 ^ 21 | _ => 2 ^ 16

/-- Entry i of the context's table of a level whose range begins at `base`; 0 where it is not in use. -/
def tableEntry (c : Ctx) (level base i : Nat) : BitVec 64 :=
  let a := base + i * entrySpan level
  match c.pages.find? fun p => p.dva == a && level == (if p.big then 2 else 3) with
  | some p => p.entry
  | none => (match c.tables.find? fun t => t.level == level + 1 && t.base == a with | some t => t.entry | none => 0)

/-- System bolts (R267). -/
def systemBolt (b : Nat) : Bool := b % 216 == 214 || b % 216 == 215

/-- Whether a new page is at fault (R260, R263). -/
def mapFault (s : State) (c : Ctx) (p : Page) : Bool :=
  p.dva % p.size != 0 || 2 ^ 52 ≤ p.dva
    || (c.pages.any fun x => x.dva < p.dva + p.size && p.dva < x.dva + x.size)
    || (p.target == 1 && unitOwner s.bolts (p.addr / bolt0) != some c.num)
    || (p.target != 2 && p.addr % p.size != 0)
    || (p.target == 0 && 2 ^ 52 ≤ p.addr)

/-- The pages a MAP or UNMAP descriptor names (R347). -/
def descPages (d : Desc) : List Page :=
  let a := descByte d 18
  let big := a % 2 == 1
  let size := if big then 2 ^ 21 else 2 ^ 16
  (List.range (desc32 d 20)).map fun i =>
    { dva := desc64 d 24 + i * size, big := big, target := a / 2 % 4
      addr := if a / 2 % 4 = 2 then 0 else desc64 d 32 + i * size
      pasid := a / 8 % 2 == 1, read := a / 16 % 2 == 1, write := a / 32 % 2 == 1 }

/-- A free LPDDR4X frame: the one firmware chooses, a free value (R262, R269; assumption 12). -/
def pickFrame (s : State) : Nat :=
  let want := Config.frameChoice s.free % 249856 * 2 ^ 21
  if s.frames.contains want then
    let left := ((List.range 249856).map (· * 2 ^ 21)).filter fun a => !s.frames.contains a
    left.getD (Config.frameChoice s.free % left.length) 0
  else want

/-- Maps one page, taking its frame where it is an LPDDR4X page. -/
def mapPage (n : Nat) (s : State) (p : Page) : State :=
  let a := if p.target = 2 then pickFrame s else p.addr
  let s := if p.target = 2 then draw { s with frames := s.frames ++ [a] } else s
  updCtx n (fun c => { c with pages := c.pages ++ [{ p with addr := a }] }) s

/-- MAP (R263): all or nothing. -/
def mapCmd (seq : Nat) (d : Desc) (s : State) : State :=
  match s.ctx? (desc16 d 16) with
  | none => finish 0 seq .notPermitted 0 s
  | some c =>
    let ps := descPages d
    match ps.find? (mapFault s c) with
    | some p => finish 0 seq .accessFault p.dva s
    | none =>
      if (descByte d 18 / 2 % 4 == 2 && 249856 < s.frames.length + ps.length)
          || 2 ^ 32 < poolUsed s + ((needTables c ps).map fun t => tableSize t.1).foldl (· + ·) 0
      then finish 0 seq .resourceShort 0 s
      else finish 0 seq .ok 0 (addTables c.num ps (ps.foldl (mapPage c.num) s))

def execMap (seq : Nat) (s : State) : Out := done s (inTurn 0x44 0 seq s fun _ _ e => mapCmd seq e.desc s)

/-- A page of that size is mapped at that DVA. -/
def isMapped (c : Ctx) (p : Page) : Bool := c.pages.any fun x => x.dva == p.dva && x.big == p.big

/-- A feed-dog request under one of the pages is in flight. -/
def reqUnder (s : State) (n : Nat) (ps : List Page) : Bool :=
  s.reqs.any fun r => r.ctx == n && ps.any fun p => p.dva < r.dva + 4096 && r.dva < p.dva + p.size

/-- UNMAP (R261, R264): all or nothing, once every request under the pages has returned; frames are scrubbed and freed, and tables
without an entry return to the pool. -/
def unmapCmd (seq : Nat) (d : Desc) (s : State) : State :=
  match s.ctx? (desc16 d 16) with
  | none => finish 0 seq .notPermitted 0 s
  | some c =>
    let ps := descPages d
    match ps.find? fun p => !isMapped c p with
    | some p => finish 0 seq .accessFault p.dva s
    | none =>
      if reqUnder s c.num ps then begin_ 0 seq s
      else
        let gone := c.pages.filter fun x => ps.any fun p => p.dva == x.dva
        let s := freeFrames gone s
        let s := updFunc c.owner (fun f => { f with atc := f.atc.filter fun t => !gone.any fun p => p.target == 0 && p.addr ≤ t.1 * 4096 && t.1 * 4096 < p.addr + p.size }) s
        finish 0 seq .ok 0
          (updCtx c.num (fun x =>
            let left := x.pages.filter fun y => !ps.any fun p => p.dva == y.dva
            { x with pages := left, tables := keepTables left x.tables }) s)

def execUnmap (seq : Nat) (s : State) : Out := done s (inTurn 0x45 0 seq s fun _ _ e => unmapCmd seq e.desc s)

/-! ### Partitions -/

/-- Units a SET_PARTITION names: kind, numbers. -/
def partUnits (d : Desc) : List Nat := (List.range (desc32 d 24)).map (· + desc32 d 20)
def partKind (d : Desc) : Nat := descByte d 16
def partAction (d : Desc) : Nat := descByte d 17
def partCtx (d : Desc) : Nat := desc16 d 18

def ownList (s : State) (kind : Nat) : List (Nat × Nat) := if kind = 2 then s.bolts else s.swatches

/-- Gives a unit to a context, or to the device. -/
def setOwner (kind u : Nat) (o : Option Nat) (s : State) : State :=
  let l := (ownList s kind).filter (·.1 != u)
  let l := match o with | some n => l ++ [(u, n)] | none => l
  if kind = 2 then { s with bolts := l } else { s with swatches := l }

/-- A unit of the command is under scrub: the command waits (R360). -/
def underScrub (s : State) (d : Desc) : Bool :=
  s.scrubs.any fun x => (x.kind == 2) == (partKind d == 2) && (partUnits d).contains x.unit

/-- A SET_PARTITION body on swatches and bolts: context, waiting and system bolts are settled first (R360, R520). -/
def onUnits (seq : Nat) (s : State) (e : Entry) (action : Nat) (body : Ctx → State) : State :=
  let d := e.desc
  if partAction d != action then s
  else if e.st == .begun then s
  else
    match s.ctx? (partCtx d) with
    | none => finish 0 seq .notPermitted 0 s
    | some c =>
      if partKind d = 2 && (partUnits d).any systemBolt then finish 0 seq .notPermitted 0 s
      else if underScrub s d then s
      else body c

/-- Assign (R360). -/
def partAssign (seq : Nat) (d : Desc) (c : Ctx) (s : State) : State :=
  let us := partUnits d
  let l := ownList s (partKind d)
  if us.any fun u => match unitOwner l u with | some n => n != c.num | none => false then finish 0 seq .notPermitted 0 s
  else finish 0 seq .ok 0 (us.foldl (fun s u => setOwner (partKind d) u (some c.num) s) s)

def execSetPartitionAssign (seq : Nat) (s : State) : Out :=
  done s (inTurn 0x46 0 seq s fun _ _ e => onUnits seq s e 0 fun c => partAssign seq e.desc c s)

/-- A unit is in use by a loaded pattern or a mapped page (R360, assumption 25): a tray swatch where a piece stands on its
tile, a hub swatch where the context has a pattern, a bolt where a page or a pattern's HBM buffer may lie in it. -/
def unitInUse (s : State) (kind u n : Nat) : Bool :=
  match kind with
  | 0 => s.pats.any (·.ctx == n)
  | 1 => s.pats.any fun p => p.ctx == n && p.onTile ((u - 256) / 12)
  | _ => (s.ctxs.any fun c => c.num == n && c.pages.any fun p => p.target == 1 && p.addr / bolt0 == u)
      || s.pats.any fun p => p.ctx == n && (0 < p.hot || (List.range (nStreams p.file)).any fun i => 0 < streamEscape p.file i)

/-- Cores that hold a context's weights are loaded all-OFF at the next fix point of each tile (R362 step 3), which an idle tile
has at once. -/
def allOffCtx (n : Nat) (s : State) : State :=
  mapTiles (fun _ x => if x.st == .locked then x.await (.allOff n) else mapCores (allOffCore s n) x) s

/-- Release (R360, R362). -/
def partRelease (seq : Nat) (d : Desc) (c : Ctx) (s : State) : State :=
  let us := partUnits d
  let k := partKind d
  if us.any fun u => unitOwner (ownList s k) u != some c.num || unitInUse s k u c.num then finish 0 seq .notPermitted 0 s
  else begin_ 0 seq (allOffCtx c.num (startScrub (some seq) k us (fun _ => some c.num) none (us.foldl (fun s u => setOwner k u none s) s)))

def execSetPartitionRelease (seq : Nat) (s : State) : Out :=
  done s (inTurn 0x46 0 seq s fun _ _ e => onUnits seq s e 1 fun c => partRelease seq e.desc c s)

/-- An outgoing context becomes REVOKED (R328), its admitted items are cancelled (R362 step 2), and its cores loaded all-OFF. -/
def revokeCtx (n : Nat) (s : State) : State :=
  let s := updCtx n (fun c => { c with st := if c.st == .active then .revoked else c.st }) s
  allOffCtx n (s.queues.foldl (fun s q => if q.ctx == n && q.num != 0 then cancelItems q.num q.entries s else s) s)

/-- Reassign of swatches and bolts (R360, R362): units already CONTEXT's stay. -/
def partReassign (seq : Nat) (d : Desc) (c : Ctx) (s : State) : State :=
  let k := partKind d
  let l := ownList s k
  let us := (partUnits d).filter fun u => unitOwner l u != some c.num
  if us.isEmpty then finish 0 seq .ok 0 s
  else
    let owners := (us.filterMap (unitOwner l)).eraseDups
    let s := owners.foldl (fun s n => revokeCtx n s) s
    begin_ 0 seq (startScrub (some seq) k us (unitOwner l) (some c.num) (us.foldl (fun s u => setOwner k u none s) s))

/-- The next incarnation of a spool ID (R276). -/
def nextInc (s : State) (id : Nat) : Nat := ((s.vault.incs.find? (·.1 == id)).map (·.2)).getD 0 + 1

def setInc (id n : Nat) (s : State) : State :=
  { s with vault := { s.vault with incs := (id, n) :: s.vault.incs.filter (·.1 != id) } }

/-- A SET_PARTITION body on a spool: context and vault are settled first (R427, R463, R520). -/
def onSpool (seq : Nat) (s : State) (e : Entry) (action : Nat) (body : Ctx → State) : State :=
  if partAction e.desc != action then s
  else
    match s.ctx? (partCtx e.desc) with
    | none => finish 0 seq .notPermitted 0 s
    | some c => if vaultRefuses s then finish 0 seq .notPermitted 0 s else body c

/-- A named spool that exists and that no write is changing (R276, R520). -/
def withSpool (seq : Nat) (d : Desc) (s : State) (body : Spool → State) : State :=
  match s.spool? (desc32 d 20) with
  | none => finish 0 seq .notPermitted 0 s
  | some x => body x

/-- Reads and writes of a spool in progress: transactions, and expert fetches (R276, R278). -/
def spoolBusy (s : State) (id : Nat) : Bool :=
  s.vault.writes.any (·.spool == id) || s.pats.any fun x => x.fetches.any fun r => r.begun && fetchSpool x r.expert == some id

/-- A command waits for them; new requests fail at once. -/
def closeSpool (seq id : Nat) (s : State) : State := fetchFollow (begin_ 0 seq (updSpool id (fun y => { y with closing := true }) s))

/-- The old incarnation of a spool is scrubbed in the background from here on, which is logged (R361, R362). -/
def scrubSpool (x : Spool) (back : Bool) (s : State) : State :=
  note (.scrubStart 3 x.id) { s with
    bad := s.bad.filter fun b => match b with | .cw i _ => i != x.id | _ => true
    vault := { s.vault with scrubbing := s.vault.scrubbing ++ [{ spool := x.id, left := x.size, back := back }] } }

/-- Reassign of a spool (R276, R360, R361): the owner REVOKED, and, once no request is in progress, a new incarnation of length
0 for CONTEXT. -/
def spoolReassign (seq : Nat) (d : Desc) (c : Ctx) (s : State) : State :=
  withSpool seq d s fun x =>
    if x.ctx = some c.num then finish 0 seq .ok 0 s
    else
      let s := match x.ctx with | some n => revokeCtx n s | none => s
      if spoolBusy s x.id then closeSpool seq x.id s
      else
        let inc := nextInc s x.id
        let s := updSpool x.id (fun y => { y with
          ctx := some c.num, fn := c.owner.val, length := 0, gen := 0, inc := inc, data := [], closing := false, record := none, prev := none }) s
        finish 0 seq .ok 0 (fetchFollow (scrubSpool x false (setInc x.id inc s)))

def execSetPartitionReassign (seq : Nat) (s : State) : Out :=
  done s (inTurn 0x46 0 seq s fun _ _ e =>
    if partKind e.desc = 3 then onSpool seq s e 2 fun c => spoolReassign seq e.desc c s
    else onUnits seq s e 2 fun c => partReassign seq e.desc c s)

/-- Create (R276, R360): length 0, generation 0, the next incarnation of the lowest free ID. -/
def spoolCreate (seq : Nat) (d : Desc) (c : Ctx) (s : State) : State :=
  let size := desc32 d 28
  match freeNumber 1 4096 (s.vault.spools.map (·.id)) with
  | none => finish 0 seq .resourceShort 0 s
  | some id =>
    if s.vault.free < size then finish 0 seq .resourceShort 0 s
    else
      let inc := nextInc s id
      let x : Spool :=
        { id := id, ctx := some c.num, fn := c.owner.val, label := desc64 d 32, size := size, length := 0, gen := 0
          inc := inc, data := [] }
      finish 0 seq .ok id (setInc id inc
        { s with vault := { s.vault with spools := s.vault.spools ++ [x], free := s.vault.free - size } })

def execSetPartitionCreate (seq : Nat) (s : State) : Out :=
  done s (inTurn 0x46 0 seq s fun _ _ e => onSpool seq s e 3 fun c => spoolCreate seq e.desc c s)

/-- Resize (R360): at least the committed length; growth needs free space. -/
def spoolResize (seq : Nat) (d : Desc) (c : Ctx) (s : State) : State :=
  withSpool seq d s fun x =>
    let size := desc32 d 28
    if x.ctx != some c.num || size * 2 ^ 26 < x.length then finish 0 seq .notPermitted 0 s
    else if x.size + s.vault.free < size then finish 0 seq .resourceShort 0 s
    else if s.vault.writes.any fun w => w.spool == x.id && decide (size * 2 ^ 26 < w.off + w.len) then begin_ 0 seq s
    else finish 0 seq .ok 0 (updSpool x.id (fun y => { y with size := size })
      { s with vault := { s.vault with free := s.vault.free + x.size - size } })

def execSetPartitionResize (seq : Nat) (s : State) : Out :=
  done s (inTurn 0x46 0 seq s fun _ _ e => onSpool seq s e 4 fun c => spoolResize seq e.desc c s)

/-- Delete (R276, R360–R362): once no request is in progress; unreachable at once, scrubbed in the background. -/
def spoolDelete (seq : Nat) (d : Desc) (c : Ctx) (s : State) : State :=
  withSpool seq d s fun x =>
    if x.ctx != some c.num then finish 0 seq .notPermitted 0 s
    else if spoolBusy s x.id then closeSpool seq x.id s
    else finish 0 seq .ok 0 (fetchFollow (allOffCtx c.num (scrubSpool x true
      { s with vault := { s.vault with spools := s.vault.spools.filter (·.id != x.id) } })))

def execSetPartitionDelete (seq : Nat) (s : State) : Out :=
  done s (inTurn 0x46 0 seq s fun _ _ e => onSpool seq s e 5 fun c => spoolDelete seq e.desc c s)

/-- Attach (R360): a parked spool whose function and label match. -/
def spoolAttach (seq : Nat) (d : Desc) (c : Ctx) (s : State) : State :=
  withSpool seq d s fun x =>
    if x.ctx.isSome || x.fn != c.owner.val || x.label != desc64 d 32 then finish 0 seq .notPermitted 0 s
    else finish 0 seq .ok 0 (updSpool x.id (fun y => { y with ctx := some c.num }) s)

def execSetPartitionAttach (seq : Nat) (s : State) : Out :=
  done s (inTurn 0x46 0 seq s fun _ _ e => onSpool seq s e 6 fun c => spoolAttach seq e.desc c s)

/-- The domain that holds a unit is down (R382, R389): the scrub is a demand access, and waits for it; SAFELIGHT
keeps tile rails off, and a tray without power holds nothing (R465). -/
def unitDown (s : State) (kind u : Nat) : Bool :=
  if kind = 2 then !s.power.hbmUp.getLsbD (u / 216) || hubDown s (u / 216)
  else if u < 256 then hubDown s (u / 64)
  else s.mod.mstate != .safelight && !s.power.tilesUp.getLsbD (trayTile u)

/-- A scrub waits for all-OFF loads and its darkroom (R362 step 3), and for the outgoing context's work items in write-out (step
2). -/
def scrubWaits (s : State) (x : Scrub) : Bool :=
  unitDown s x.kind x.unit || (s.tiles.toList.any fun t => t.st == .locked && t.pend.any fun p => match p, x.from_ with | .allOff n, some m => n == m | _, _ => false)
    || (x.kind == 1 && s.tiles.toList.zipIdx.any fun y => y.2 == trayTile x.unit && y.1.st == .locked && y.1.pend.contains .darkroom)
    || (match x.from_ with
        | some n => s.works.any fun w => w.ctx == n && w.inWriteOut && (match s.queue? w.q with
            | some q => (match q.entry? w.seq with | some e => e.st != .finished | none => false)
            | none => false)
        | none => false)

/-- The darkroom of a scrub ends, or is asked for no more. -/
def Tile.scrubBright (t : Nat) (x : Tile) : Tile := Tile.bright 2 t { x with pend := x.pend.filter (· != .darkroom) }

/-- PARTITION_SCRUB_DONE (R361, R362): the oldest scrub ends: the unit reads 0, its ownership is recorded, the end is logged, and
the command completes with the last of its units. -/
def scrubDone (s : State) : State :=
  match s.scrubs with
  | [] => s
  | x :: rest =>
    if scrubWaits s x || s.sec.window == some 21 then s
    else
      let s := if x.kind = 2 then
          { s with
            hbm := zeroRange s.hbm (x.unit * bolt0) bolt0
            bad := s.bad.filter fun b => match b with | .mem t a => !(t == 1 && a / bolt0 == x.unit) | _ => true }
        else s
      let s := { s with scrubs := rest }
      let s := setOwner x.kind x.unit x.to_ s
      let s := if x.kind = 1 && !(rest.any fun y => y.kind == 1 && trayTile y.unit == trayTile x.unit) then
          mapTiles (fun t y => if t = trayTile x.unit then y.scrubBright t else y) s
        else s
      let s := note (.scrubEnd x.kind x.unit) s
      match x.seq with
      | some seq => if rest.any (·.seq == some seq) then s else finish 0 seq .ok 0 s
      | none => s

def execPartitionScrubDone (s : State) : Out := done s (scrubDone s)

/-! ### Priorities and cancellation -/

/-- SET_PRIORITY (R347, R520); the admin queue's priority stays 7 (R479, assumption 26). -/
def setPriority (seq : Nat) (d : Desc) (s : State) : State :=
  let id := desc16 d 18
  if descByte d 16 = 0 then
    match s.queue? id with
    | none => finish 0 seq .notPermitted 0 s
    | some _ => if id = 0 then finish 0 seq .notPermitted 0 s
        else finish 0 seq .ok 0 (updQueue id (fun q => { q with priority := descByte d 20 }) s)
  else
    match s.ctx? id with
    | none => finish 0 seq .notPermitted 0 s
    | some _ => finish 0 seq .ok 0 (updCtx id (fun c => { c with weight := descByte d 20 }) s)

def execSetPriority (seq : Nat) (s : State) : Out := done s (inTurn 0x47 0 seq s fun _ _ e => setPriority seq e.desc s)

/-- The SEQs a CANCEL names (R356): covered by the last TAIL read, no record yet; a stopped queue admits no more. -/
def cancelNames (d : Desc) (q : Queue) : List Nat :=
  let hi := if q.stopped then q.head else q.tail
  let all := descByte d 18 % 2 == 1
  ((List.range (hi - q.recs)).map (· + q.recs)).filter fun k => all || (desc64 d 24 ≤ k && k ≤ desc64 d 32)

/-- The first execution of a CANCEL. -/
def cancelStart (seq n : Nat) (d : Desc) (q : Queue) (s : State) : State :=
  let names := cancelNames d q
  let s := cancelItems n (q.entries.filter fun e => names.contains e.seq) s
  let s := updQueue n (fun x => { x with doomed := (names.filter (q.head ≤ ·)).map (fun k => (k, k)) ++ x.doomed }) s
  begin_ 0 seq { s with cancelling := some { seq := seq, q := n, named := names, count := 0 } }

/-- A CANCEL completes once every named item has its record, or its queue is gone (R356). -/
def cancelEnd (seq : Nat) (s : State) : State :=
  match s.cancelling with
  | none => s
  | some c =>
    let left := match s.queue? c.q with
      | none => []
      | some q =>
        if q.stopped || q.ringLost then c.named.filter (· < q.head) else c.named
    if c.seq = seq && left.isEmpty then finish 0 seq .ok c.count { s with cancelling := none } else s

/-- CANCEL (R356): queue 0 gives NOT_PERMITTED. -/
def cancelCmd (seq : Nat) (e : Entry) (s : State) : State :=
  let n := desc16 e.desc 16
  if e.st == .begun then cancelEnd seq s
  else if n = 0 then finish 0 seq .notPermitted 0 s
  else
    match s.queue? n with
    | none => finish 0 seq .notPermitted 0 s
    | some q => cancelEnd seq (cancelStart seq n e.desc q s)

def execCancel (seq : Nat) (s : State) : Out := done s (inTurn 0x48 0 seq s fun _ _ e => cancelCmd seq e s)

end Sys2Proof.Machine
end

