-- ==== Sys2Proof/Machine/Layout.lean ====
section
/-! DEFINITION. Byte layouts of the firmware and security structures: the manifest (R405, R406), the debug token (R426), the
attestation report (R416) and the log entry (R450). Fields are little-endian; keys, digests, signatures and nonces are byte strings
(R4), whose byte i is bits 8i to 8i + 7 of the numbers that stand for them. -/

namespace Sys2Proof

open Machine

/-! ### The manifest -/

/-- An image entry of 96 bytes. -/
def BundleRead.image (b : BundleRead) (i : Nat) : ImageEntry :=
  { type := fileNat b.bytes (64 + 96 * i) 1, handoverMin := fileNat b.bytes (65 + 96 * i) 1
    handover := fileNat b.bytes (66 + 96 * i) 1, digest := fileNat b.bytes (96 + 96 * i) 64 }

def BundleRead.imageOff (b : BundleRead) (i : Nat) : Nat := fileNat b.bytes (72 + 96 * i) 8
def BundleRead.imageLen (b : BundleRead) (i : Nat) : Nat := fileNat b.bytes (80 + 96 * i) 8

/-- Check 1 of R407: MAGIC, VERSION, N_IMAGES, and every reserved byte 0. -/
def BundleRead.formOk (b : BundleRead) : Bool :=
  b.bytes.length == 8192 && fileNat b.bytes 0 4 == 0x31464D47 && fileNat b.bytes 4 2 == 1 && fileNat b.bytes 7 1 == 8
    && fileNat b.bytes 6 1 < 4 && fileNat b.bytes 8 8 ≤ 64 && fileNat b.bytes 16 4 < 16 && fileNat b.bytes 20 4 < 4
    && fileNat b.bytes 6157 2035 == 0
    && (List.range 8).all fun i => fileNat b.bytes (67 + 96 * i) 1 == 0 && fileNat b.bytes (88 + 96 * i) 8 == 0

/-- The largest image of a type (R406): the private memory of its processor, or 1 MiB for microcode. -/
def imageMax (type : Nat) : Nat :=
  match type with
  | 1 => privateSize .thimble
  | 2 => privateSize .management
  | 3 => privateSize .housekeeping
  | 4 => privateSize .vault
  | 5 => privateSize .tailor
  | 6 => privateSize .shuttle
  | 7 => privateSize .tile
  | 8 => 2 ^ 20
  | _ => 0

/-- Check 6 of R407: each type once; every image on a 4 KiB boundary within the image region (R404), no two of them overlapping.
-/
def BundleRead.imagesFit (b : BundleRead) : Bool :=
  let ends := fun i => b.imageOff i + b.imageLen i
  (List.range 8).all fun i =>
    (List.range 8).any (fun j => (b.image j).type == i + 1)
      && b.imageOff i % 4096 == 0 && 0x3000 ≤ b.imageOff i && ends i ≤ 0x3800000 && b.imageLen i ≤ imageMax (b.image i).type
      && (List.range i).all fun j => ends i ≤ b.imageOff j || ends j ≤ b.imageOff i

/-- The manifest that the bytes hold. -/
def BundleRead.manifest (b : BundleRead) : Manifest :=
  { formOk := b.formOk, keySlot := ⟨fileNat b.bytes 6 1 % 4, Nat.mod_lt _ (by decide)⟩, svn := fileNat b.bytes 8 8
    revokeMask := BitVec.ofNat 4 (fileNat b.bytes 16 4), steppingMask := BitVec.ofNat 2 (fileNat b.bytes 20 4)
    pubDigest := b.pubDigest, edOk := b.edOk, mldsaOk := b.mldsaOk, imagesFit := b.imagesFit
    images := (List.range 8).map b.image, digest := b.digest }

/-! ### The debug token -/

/-- MAGIC matches, KEY_SLOT is one of the four, and every reserved byte is 0. -/
def TokenRead.formOk (k : TokenRead) : Bool :=
  k.bytes.length == 5392 && fileNat k.bytes 0 4 == 0x31544447 && fileNat k.bytes 5 1 < 4 && fileNat k.bytes 6 2 == 0
    && fileNat k.bytes 56 8 == 0 && fileNat k.bytes 5389 3 == 0

def TokenRead.request (k : TokenRead) : Nat := fileNat k.bytes 4 1
def TokenRead.keySlot (k : TokenRead) : Nat := fileNat k.bytes 5 1
def TokenRead.serial (k : TokenRead) : BitVec 128 := BitVec.ofNat 128 (fileNat k.bytes 8 16)
def TokenRead.challenge (k : TokenRead) : BitVec 256 := BitVec.ofNat 256 (fileNat k.bytes 24 32)

end Sys2Proof

namespace Sys2Proof.Machine

/-! ### The attestation report -/

def zeros (n : Nat) : List Byte := List.replicate n 0

def CompState.code : CompState → Nat
  | .running => 0 | .staged => 1 | .activating => 2 | .activated => 3 | .resetting => 4 | .failed => 5 | .off => 6 | .pending => 7

/-- A component entry of 136 bytes. -/
def compBytes (x : Nat × Nat × CompState × Nat × Nat) : List Byte :=
  leBytes 1 x.1 ++ (leBytes 1 x.2.1 ++ (leBytes 1 x.2.2.1.code ++ (zeros 5 ++ (leBytes 64 x.2.2.2.1 ++ leBytes 64 x.2.2.2.2))))

/-- A bit map of n bytes with the bits of a list of numbers set. -/
def bitMap (n : Nat) (l : List Nat) : List Byte := leBytes n (bitsOf (8 * n) l.contains)

/-- A context entry of 176 bytes and its spool IDs, padded to a multiple of 8 bytes. -/
def CtxReport.bytes (c : CtxReport) : List Byte :=
  leBytes 2 c.ctx ++ (leBytes 1 c.fn ++ (leBytes 1 c.st.code ++ (leBytes 2 c.spools.length ++ (zeros 2
    ++ (bitMap 32 c.hub ++ (bitMap 18 (c.tray.map (· - 256)) ++ (zeros 6 ++ (bitMap 108 c.bolts ++ (zeros 4
    ++ (c.spools.flatMap (leBytes 2) ++ zeros ((8 - 2 * c.spools.length % 8) % 8)))))))))))

/-- The fields after the keys and before the entries: bytes 2,056 to 2,223. -/
def Attested.bytes (a : Attested) : List Byte :=
  leBytes 8 a.svn ++ (leBytes 1 a.revoked.toNat ++ (leBytes 1 a.debug ++ (leBytes 1 a.mstate.code ++ (leBytes 1 a.slots ++ (zeros 4
    ++ (leBytes 64 a.runManifest ++ (leBytes 64 a.otherManifest ++ (leBytes 8 a.runSvn ++ (leBytes 8 a.otherSvn
    ++ (leBytes 2 a.comps.length ++ (leBytes 2 a.ctxs.length ++ zeros 4)))))))))))

/-- Everything before the signatures from byte 16 on. -/
def Report.body (r : Report) : List Byte :=
  leBytes 8 r.generation ++ (leBytes 32 r.nonce.toNat ++ (leBytes 16 r.serial.toNat ++ (leBytes 32 r.edPub.toNat ++ (r.mldsaPub
    ++ (r.att.bytes ++ (r.att.comps.flatMap compBytes ++ r.att.ctxs.flatMap CtxReport.bytes))))))

/-- The report: MAGIC, VERSION, LENGTH, the body, the signatures. -/
def Report.bytes (r : Report) : List Byte :=
  leBytes 4 0x31524147 ++ (leBytes 2 1 ++ (zeros 2 ++ (leBytes 4 (16 + r.body.length + r.sigs.length) ++ (zeros 4 ++ (r.body ++ r.sigs)))))

/-! ### The log entry -/

/-- A log entry of 64 bytes, as readers get it and as it is committed. -/
def LogEntry.bytes (x : LogEntry) : List Byte :=
  leBytes 8 (x.seq.getD 0) ++ (leBytes 8 x.e.localCount ++ ([x.e.source, x.e.inst] ++ (leBytes 1 x.e.severity ++ (leBytes 1 x.e.cls
    ++ (leBytes 2 x.e.code.toNat ++ (leBytes 2 x.rep ++ (leBytes 1 (bitAt 0 x.unanchored + bitAt 1 x.restart) ++ (zeros 7
    ++ leBytes 32 x.e.params.toNat))))))))

end Sys2Proof.Machine
end

