-- ==== Sys2Proof/Machine/OptCore.lean ====
section
/-! DEFINITION. The optical core: weight loads (R57–R61), exact passes with their levels, checks, replays and diagnosis
(R79–R101), analog passes (R64–R68), and the core fix point (R50, R51, R97, R202). -/
namespace Sys2Proof.Machine

/-! ### Weight load -/

/-- A replica of the piece, or one that moves off, has the block on the core. -/
def hostsSet (x : Pattern) (p set pass : Nat) (core : Fin 48) : Bool :=
  x.places.any fun pl => pl.piece == p && (standsOn x.file p set pass core pl.cores || standsOn x.file p set pass core pl.from_)

/-- The work item has not finished the piece. -/
def wantsPiece (x : Pattern) (w : Work) (p : Nat) : Bool :=
  w.ctx == x.ctx && w.pat == x.handle && w.stage != .writeOut && !pieceDone x.file w p

/-- Operand vectors of a work item that still need a block; on the vector units all that are not finished. -/
def needyVecs (x : Pattern) (w : Work) (p set pass : Nat) : List Nat :=
  (List.range (operandVecs x.file p)).filter fun v =>
    if x.onFallback.contains p || pieceVuOnly x.file p then (vecsOf x.file p v).any fun u => !vecDone x.file w p u
    else decide (nextPass x.file w p set pass v ≤ pass)

/-- The work item still needs the block: of an expert piece, the block of expert e. -/
def needsBlock (x : Pattern) (w : Work) (e : Option Nat) (p set pass : Nat) : Bool :=
  wantsPiece x w p && (needyVecs x w p set pass).any fun v =>
    !pieceRouted x.file p || (feedReady x.file w p v && expertFor x.file w p v == e)

/-- The expert of the first vector of a work item that needs an expert's block, the expert being in the hot tier. -/
def neededExpert (x : Pattern) (w : Work) (p set pass : Nat) : Option Nat :=
  (needyVecs x w p set pass).findSome? fun v =>
    if feedReady x.file w p v then (vecExpert x.file w p v).filter (expertHot x) else none

/-- The oldest work item that is ready to use the block: the weights of DYNAMIC_W and EXPERT pieces are its own. -/
def loadFor (s : State) (x : Pattern) (p set pass : Nat) : Option Work :=
  s.inOrder.find? fun w => wantsPiece x w p && !(needyVecs x w p set pass).isEmpty && pieceReady x.file w p
    && (!pieceRouted x.file p || (neededExpert x w p set pass).isSome)

/-- Bytes of a block as they reach the core: the source's, with the bytes that one path has changed (R59, R241). -/
def flipBytes (fl : List Cell) (bs : List Byte) : List Byte := fl.foldl (fun bs c => bs.set c.1 c.2) bs

/-- A load's comparison (R59, R86). -/
def loadMatches (x : Pattern) (p set pass : Nat) (bs : List Byte) : Bool :=
  (blockOf x p set pass bs).sigma == storedSigma (numAnalog (pieceNum x.file p)) (setRows x.file p set) bs

/-- A core may take a load: it is in service, its tile keeps its light or is fogged (R61), and the pattern is in its quantum
(R358). -/
def mayLoad (s : State) (x : Pattern) (core : Fin 48) : Bool :=
  let c := s.core core
  let t := s.tiles[coreTile core]
  (t.st == .locked || t.st == .fogged) && c.st != .retired && c.faulty.isEmpty && !c.sweep
    && (match c.current with | some r => r == (x.ctx, x.handle) | none => false)

/-- The piece batches queries on a library chunk (R258). -/
def pieceBatches (f : List Byte) (p : Nat) : Bool := pieceDynamic f p && numAnalog (pieceNum f p) && decide (0 < pieceBatch f p)

/-- The chunk that a work item's weight stream brings. -/
def chunkOf (x : Pattern) (w : Work) (p : Nat) : Option (List Byte) := (weightStream x.file p).map (streamData x.file w)

/-- Work items whose queries wait at a piece. -/
def waitsAt (s : State) (x : Pattern) (p : Nat) : List Work :=
  s.works.filter fun w => wantsPiece x w p && pieceReady x.file w p

/-- Queries that wait for the library chunk that this work item's stream brings (R258). -/
def queriesWaiting (s : State) (x : Pattern) (p : Nat) (w : Work) : Nat :=
  (((waitsAt s x p).filter fun u => chunkOf x u p == chunkOf x w p).map fun _ => nVecs x.file p).foldl (· + ·) 0

/-- A batching piece's chunk may be loaded: 4,096 queries wait for it, or its window has expired (R258). -/
def batchOpen (s : State) (x : Pattern) (p : Nat) (own : Option Work) : Bool :=
  !pieceBatches x.file p || x.batchDue.contains p || (match own with | some w => decide (4096 ≤ queriesWaiting s x p w) | none => false)

/-- The last block of a chunk is loaded: its window is over. -/
def batchClose (x : Pattern) (p set pass : Nat) (s : State) : State :=
  if set + 1 = nSets x.file p && pass + 1 = nPasses x.file p then
    updPat x.ctx x.handle (fun y => { y with batchDue := y.batchDue.filter (· != p) }) s
  else s

/-- The expert that a load uses was last used by this work item (R253). -/
def touchExpert (x : Pattern) (own : Option Work) (e : Option Nat) (s : State) : State :=
  match own, e with
  | some w, some e =>
    updPat x.ctx x.handle (fun y => { y with cache := updWhere (·.expert == e) (fun c => { c with lastUse := max c.lastUse w.seq }) y.cache }) s
  | _, _ => s

/-- A load that passed its comparison: the gate opens, 500 cycles after it closed, where nothing else keeps it closed (R57, R61,
R69). -/
def loadDone (_x : Pattern) (core : Fin 48) (b : Block) (n : Nat) (s : State) : State :=
  updCore core (fun c => { c with
    block := some b, gateShut := false, ringWritten := true
    wloads := c.wloads + BitVec.ofNat 32 n
    st := if c.st == .dark then .dark else if ({ c with gateShut := false } : Core).gateSt == .held then .held else .loading }) s

/-- Every work item that needs a block which has failed twice ends with INTEGRITY_FAIL (R59, R104, R242): that of a DYNAMIC_W
piece is its own item's, that of an expert piece the expert's. -/
def failBlock (x : Pattern) (own : Option Work) (e : Option Nat) (p set pass : Nat) (s : State) : State :=
  let hit := match (if pieceDynamic x.file p then own else none) with
    | some w => [w]
    | none => s.works.filter fun w => needsBlock x w e p set pass
  hit.foldl (fun s w => errWork w.q w.seq .integrityFail 0 s) s

/-- A second mismatch (R59): the gate stays closed, and every work item that needs the block ends with INTEGRITY_FAIL. DESIGN
CHOICE: the core shows HELD and MODE none, R59 saying only that the gate stays closed (assumption 91). -/
def loadFailed (core : Fin 48) (x : Pattern) (own : Option Work) (e : Option Nat) (p set pass : Nat) (s : State) : State :=
  let s := updCore core (fun c => { c with
    block := none, wloads := c.wloads + 2, gateShut := true, st := if c.st == .dark then .dark else .held }) s
  failBlock x own e p set pass s

/-- A resident block has been read from its tier and stands on a core (R231, R241). -/
def markWritten (x : Pattern) (p set pass : Nat) (s : State) : State :=
  let b := (p, set * nPasses x.file p + pass)
  updPat x.ctx x.handle (fun y => if y.written.contains b then y else { y with written := b :: y.written }) s

/-- WEIGHT_LOAD (R57, R59): the block is read, written and compared; on a mismatch once more. The last resident block of a load
completes its LOAD_PATTERN (R231). -/
def weightLoad (core : Fin 48) (h p set pass : Nat) (flips : List (List Cell)) (s : State) : State :=
  match s.pats.find? (·.handle == h) with
  | none => s
  | some x =>
    let own := if pieceDynamic x.file p || pieceExpert x.file p then loadFor s x p set pass else none
    let expert := own.bind fun w => neededExpert x w p set pass
    if !(mayLoad s x core && hostsSet x p set pass core && batchOpen s x p own && pass < nPasses x.file p
        && set < nSets x.file p) then s
    else
      match blockSource x own expert p set pass with
      | none => s
      | some bs =>
        let b1 := flipBytes (flips.headD []) bs
        let b2 := flipBytes ((flips.drop 1).headD []) bs
        let tag := fun (b : Block) =>
          { b with item := if pieceDynamic x.file p then own.map fun w => (w.q, w.seq) else none, expert := expert }
        let good := fun (b : Block) (n : Nat) =>
          let s := batchClose x p set pass (touchExpert x own b.expert (loadDone x core b n s))
          loadFollow (if pieceResident x.file p then markWritten x p set pass s else s)
        if loadMatches x p set pass b1 then good (tag (blockOf x p set pass b1)) 1
        else if loadMatches x p set pass b2 then good (tag (blockOf x p set pass b2)) 2
        else loadFailed core x own expert p set pass s

def execWeightLoad (core : Fin 48) (pat piece set pass : Nat) (flips : List (List Cell)) (s : State) : Out :=
  done s (weightLoad core pat piece set pass flips s)

/-! ### Level decision (R87–R89) -/

/-- Centre of level k in 1/16 code. -/
def levelCentre (h : Half) (k : Nat) : Int :=
  (h.o + ((2 * k * 32514048 + h.k) / (2 * h.k) : Nat) + 8) / 16 + h.delta.getD k 0

/-- Threshold between levels k and k + 1. -/
def threshold (h : Half) (k : Nat) : Int := (levelCentre h k + levelCentre h (k + 1) + 1) / 2

/-- The 32 thresholds T_1 … T_32. -/
def thresholds (h : Half) : List Int := (List.range 32).map (threshold h)

/-- The decided level of a code, and whether the decision is doubtful. -/
def decideLevel (ts : List Int) (code : Nat) : Nat × Bool :=
  ((ts.filter (· ≤ 16 * (code : Int))).length, ts.any fun t => (16 * (code : Int) - t).natAbs < 16)

/-- The half-row is fit for exact service (R88): its thresholds rise. -/
def thresholdsRise : List Int → Bool
  | [] => true
  | t :: ts => (match ts with | [] => true | u :: _ => decide (t < u)) && thresholdsRise ts

/-! ### Operand vectors (R79–R81) -/

/-- The 64 bytes of an exact operand vector. A missing second vector reads the zero point (R517). -/
def operandBytes (f : List Byte) (p : Nat) (xs : List Int) (vec pass : Nat) : List Nat :=
  let four := fmtBits4 (numAFmt (pieceNum f p))
  let m := if four && !pairedVecs f p then vec / 2 else vec
  let lo := passElems f p xs (if four then 2 * m else m) pass
  let hi := passElems f p xs (2 * m + 1) pass
  (List.range 64).map fun ch =>
    if four then wrap 4 (lo.getD ch 0) + 16 * wrap 4 (hi.getD ch 0) else wrap 8 (lo.getD ch 0)

/-- Slice k of an operand vector: bit k of every byte. -/
def sliceOf (bytes : List Nat) (k : Nat) : BitVec 64 :=
  BitVec.ofNat 64 (((List.range 64).map fun ch => if (bytes.getD ch 0).testBit k then 2 ^ ch else 0).foldl (· + ·) 0)

/-- Ones of a word in one half. -/
def popHalf (w : BitVec 64) (h : Nat) : Nat := ((List.range 32).filter fun i => w.getLsbD (32 * h + i)).length

/-- Logical row r of a block: payload rows, then the selvedge rows (R91). -/
def Block.row (b : Block) (r : Nat) : BitVec 64 := if r = 64 then b.sel64 else if r = 65 then b.sel65 else b.planes.getD r 0

/-- The physical row that stands for a logical row (R50). -/
def physRow (c : Core) (r : Nat) : Nat :=
  match c.baste with
  | some (x, _) => if x.val = r then 66 else r
  | none => r

def Row.half (r : Row) (h : Nat) : Half := if h = 0 then r.a else r.b

/-- Decisions of one attempt: for logical row r, half h, slice k at (2r + h) × 8 + k, the level, the doubt, and whether it
differs from the true level (R96). `samples` holds the code of physical row r, half h, slice k at (2r + h) × 8 + k. -/
def decisions (c : Core) (b : Block) (bytes : List Nat) (samples : List Byte) : List (Nat × Bool × Bool) :=
  let slices := (List.range 8).map (sliceOf bytes)
  (List.range 132).flatMap fun rh =>
    let r := rh / 2
    let h := rh % 2
    let pr := physRow c r
    let ts := thresholds ((c.row pr).half h)
    (List.range 8).map fun k =>
      let d := decideLevel ts (samples.getD ((2 * pr + h) * 8 + k) 0).toNat
      (d.1, d.2, d.1 != popHalf (slices.getD k 0 &&& b.row r) h)

def levelAt (ds : List (Nat × Bool × Bool)) (r h k : Nat) : Nat := (ds.getD ((2 * r + h) * 8 + k) (0, false, false)).1

/-- Check 64 of half h and slice k (R92): the levels of all payload rows against row 64. -/
def check64 (ds : List (Nat × Bool × Bool)) (h k : Nat) : Bool :=
  (((List.range 64).map fun r => levelAt ds r h k).foldl (· + ·) 0 + levelAt ds 64 h k) % 2 == 0

/-- Check 65: the levels of the even payload rows against row 65. -/
def check65 (ds : List (Nat × Bool × Bool)) (h k : Nat) : Bool :=
  (((List.range 32).map fun i => levelAt ds (2 * i) h k).foldl (· + ·) 0 + levelAt ds 65 h k) % 2 == 0

/-- Checks 64 and 65 of every slice and half (R92). -/
def parityOk (ds : List (Nat × Bool × Bool)) : Bool :=
  (List.range 16).all fun hk => check64 ds (hk % 2) (hk / 2) && check65 ds (hk % 2) (hk / 2)

/-- The checks of one kind that fail, bit 8h + k (R93). -/
def failedChecks (chk : Nat → Nat → Bool) : BitVec 16 :=
  BitVec.ofNat 16 (((List.range 16).map fun i => if chk (i / 8) (i % 8) then 0 else 2 ^ i).foldl (· + ·) 0)

def doubtful (ds : List (Nat × Bool × Bool)) : Bool := ds.any (·.2.1)

/-- Rows that diagnosis finds faulty: the physical rows of wrong or doubtful decisions (R96). -/
def faultyRows (c : Core) (ds : List (Nat × Bool × Bool)) : List (Fin 67) :=
  (List.finRange 67).filter fun (pr : Fin 67) =>
    (List.range 66).any fun r => physRow c r == pr.val
      && (List.range 16).any fun i => let d := ds.getD (16 * r + i) (0, false, false); d.2.1 || d.2.2

/-- Codes 0 and 255 of an attempt (R56). -/
def clips (samples : List Byte) : Nat := (samples.filter fun b => b == 0 || b == 255).length

/-- The attempts of an exact pass (R94): at most `n`; the core's counters as they leave them, and the decisions where an
attempt passed. The fourth failure holds the core with the faulty rows of the diagnosis (R95, R96). DESIGN CHOICE: TC_CORE_REPLAYS
counts a failing pass here and the passes discarded behind it in `passesBehind` (R73, R94; assumption 60). -/
def exactAttempts (b : Block) (bytes : List Nat) : Nat → List (List Byte) → Core → Core × Option (List (Nat × Bool × Bool))
  | 0, _, c => (c, none)
  | _ + 1, [], c => (c, none)
  | n + 1, smp :: rest, c =>
    let ds := decisions c b bytes smp
    let c := { c with adcClip := c.adcClip + BitVec.ofNat 32 (clips smp) }
    if parityOk ds && !doubtful ds then ({ c with passes := c.passes + 1 }, some ds)
    else
      let c := { c with selvFail := c.selvFail + (if parityOk ds then 0 else 1) }
      if n = 0 then
        ({ c with
           faulty := faultyRows c ds, st := .held
           checks := c.checks ++ (faultyRows c ds).map fun r => (r, failedChecks (check64 ds), failedChecks (check65 ds)) }, none)
      else exactAttempts b bytes n rest { c with replays := c.replays + 1 }

/-! ### Recombination (R101) -/

/-- Logical vector and weight of slice k (R80). -/
def sliceVec (fmt k : Nat) : Nat := if fmtBits4 fmt then k / 4 else 0
def sliceWeight (fmt k : Nat) : Int :=
  match fmt with
  | 1 => if k = 7 then -128 else 2 ^ k
  | 2 => 2 ^ (k % 4)
  | 3 => if k % 4 = 3 then -8 else 2 ^ (k % 4)
  | _ => 2 ^ k

/-- y of a logical vector, row group and half (R101). -/
def recombine (fmt : Nat) (zx : Int) (b : Block) (ds : List (Nat × Bool × Bool)) (xsum : Int) (v jl h : Nat) : Int :=
  let p := ((List.range 8).map fun k =>
    if sliceVec fmt k = v then
      sliceWeight fmt k * ((List.range b.wb).map fun q => ((2 ^ q * levelAt ds (b.wb * jl + q) h k : Nat) : Int)).foldl (· + ·) 0
    else 0).foldl (· + ·) 0
  p - 2 ^ (b.wb - 1) * xsum - zx * b.sigma.getD (2 * jl + h) 0

/-! ### Analog rows (R65, R66) -/

/-- The analog row value V from the two codes of a row. -/
def rowValue (r : Row) (ca cb : Nat) : Int :=
  let t := (r.a.k : Int) * (256 * ca - r.a.o) + (r.b.k : Int) * (256 * cb - r.b.o)
  clampInt 0 254016 (roundShift false t 13)

/-- y of an analog row (R66). `samples` holds the code of physical row r, half h at 2r + h. -/
def analogY (c : Core) (b : Block) (zx xsum : Int) (samples : List Byte) (jl : Nat) : Int :=
  let pr := physRow c jl
  rowValue (c.row pr) (samples.getD (2 * pr) 0).toNat (samples.getD (2 * pr + 1) 0).toNat
    - 32 * xsum - zx * (b.sigma.getD jl 0 - 2048)

/-! ### A pass -/

/-- Rows of a core go out of service at its next fix point; the core is HELD and drained at once, its passes in flight
discarded (R99, R204). -/
def holdForRows (core : Fin 48) (rows : List (Fin 67)) (s : State) : State :=
  let c := s.core core
  let new := rows.filter fun r => !(c.row r.val).quar && !c.faulty.contains r
  if new.isEmpty || c.st == .retired then s
  else
    updCore core (fun c => { c with
      faulty := c.faulty ++ new, st := if c.st == .dark then .dark else .held }) (discardPasses (· == core) s)

/-- Every row that carries the block's levels is in exact service (R88). -/
def exactService (c : Core) : Bool :=
  (List.range 66).all fun r =>
    thresholdsRise (thresholds (c.row (physRow c r)).a) && thresholdsRise (thresholds (c.row (physRow c r)).b)

/-- Symbols enter the core (R62): the modulators are driven. -/
def Core.issue (c : Core) : Core :=
  { c with modWritten := true, st := if c.st == .held || c.st == .dark then c.st else .running }

/-- An exact operand vector enters by one of the two operand registers (R21, R48, R62). -/
def Core.feed (bytes : List Nat) (c : Core) : Core := { c.issue with operands := bytes :: c.operands.take 1 }

/-- A DYNAMIC_W block serves the item whose stream brought it, and, where its piece batches (R258), every item whose stream brings
the same weights. -/
def itsBlock (_s : State) (x : Pattern) (w : Work) (b : Block) : Bool :=
  b.item == some (w.q, w.seq)
    || (0 < pieceBatch x.file b.piece && numAnalog (pieceNum x.file b.piece) && (match blockSource x (some w) none b.piece b.set b.pass with
        | some bs => (blockOf x b.piece b.set b.pass bs).codes == b.codes
        | none => false))

/-- The core stands ready for a pass of the work item: dealt to the item, gate open, its block loaded, in its quantum, the
operands there, credits for what it writes, and the pass next in order for its vector. -/
def passReady (s : State) (x : Pattern) (w : Work) (b : Block) (core : Fin 48) (p set pass vec : Nat) : Bool :=
  let c := s.core core
  s.tiles[coreTile core].st == .locked && hubServes s (core.val / 4 % 4) && c.drive != 0 && (c.st == .idle || c.st == .running || c.st == .loading) && !c.gateShut
    && (match c.current with | some r => r == (x.ctx, x.handle) | none => false)
    && standsOn x.file p set pass core (w.coresFor p) && granted s x.file w p
    && !pieceVuOnly x.file p && b.pat == x.handle && b.piece == p && b.set == set && b.pass == pass
    && (if pieceDynamic x.file p then itsBlock s x w b else b.item.isNone)
    && b.expert == vecExpert x.file w p vec
    && pieceReady x.file w p && vec < operandVecs x.file p && nextPass x.file w p set pass vec == pass
    && ((vecsOf x.file p vec).all (feedReady x.file w p)) && (b.analog || exactService c)

/-- A pass has committed for its vectors: the work item goes on, or ends with an arithmetic error. -/
def passCommit (x : Pattern) (w : Work) (p set pass vec : Nat) (y : Nat → Nat → Nat → Int) (words : Option (List Word))
    (s : State) : State :=
  match commitPass x p set pass (passesDone w p set vec + 1 == nPasses x.file p) (vecsOf x.file p vec) y words w with
  | .error e => arithError w.q w.seq e s
  | .ok w' =>
    let s := touchExpert x (some w) (vecExpert x.file w p vec) s
    requestExperts (updWork w.q w.seq (fun _ => { Work.countPass p set pass vec w' with
      flags := { w'.flags with degraded := w'.flags.degraded || replicas x p < pieceRepMin x.file p } }) s)

/-- Later passes of the core that the failures of `n` attempts discard (R94): a free number of at most 44 behind each attempt
(assumption 14). DESIGN CHOICE: TC_CORE_REPLAYS counts them with the failed passes, for they are reissued too (assumption 60). -/
def passesBehind (s : State) (core : Fin 48) (w : Work) (n : Word) : Word :=
  BitVec.ofNat 32 (Config.inFlight s.free core.val w.q w.seq % (44 * n.toNat + 1))

/-- An exact pass (R62, R79–R101). -/
def exactPass (core : Fin 48) (x : Pattern) (w : Work) (b : Block) (p set pass vec : Nat) (samples : List (List Byte))
    (words : Option (List Word)) (s : State) : State :=
  let f := x.file
  let num := pieceNum f p
  let xs := pieceInput f w p
  let bytes := operandBytes f p xs vec pass
  let r := exactAttempts b bytes 4 samples (s.core core)
  let n := r.1.replays - (s.core core).replays
  let s1 := updCore core (fun _ => Core.feed bytes { r.1 with
    faulty := (s.core core).faulty, st := (s.core core).st, replays := r.1.replays + passesBehind s core w n }) s
  let s1 := if n = 0 then s1 else draw s1
  match r.2 with
  | some ds =>
    let four := fmtBits4 (numAFmt num)
    let y := fun v jl h =>
      recombine (numAFmt num) (numZx num) b ds (halfSum (fun ch => (passElems f p xs v pass).getD ch 0) h) (if four then v % 2 else 0) jl h
    passCommit x w p set pass vec y words s1
  | none =>
    if r.1.faulty.isEmpty then s1
    else
      -- R99, R100: a quarantine discards the failed pass, which is reissued
      updWork w.q w.seq (fun w => { w with flags := { w.flags with replayed := true } })
        (updCore core (fun c => { c with replayDue := true }) (holdForRows core r.1.faulty s1))

/-- An analog pass (R48, R62–R68): no check, no replay, and no operand register. -/
def analogPass (core : Fin 48) (x : Pattern) (w : Work) (b : Block) (p set pass vec : Nat) (samples : List Byte)
    (words : Option (List Word)) (s : State) : State :=
  let f := x.file
  let xs := pieceInput f w p
  let c := s.core core
  let s := updCore core (fun c => Core.issue { c with passes := c.passes + 1, adcClip := c.adcClip + BitVec.ofNat 32 (clips samples) }) s
  let y := fun v jl h =>
    if h = 0 then analogY c b (numZx (pieceNum f p)) ((passElems f p xs v pass).foldl (· + ·) 0) samples jl else 0
  passCommit x w p set pass vec y words s

/-- Selvedge failures on two cores of a tile between two of its sensor reads, which are 10 µs apart, fog it (R154, R162); the
cause is over at once, so probes may run (R163). -/
def selvedgeFog (core : Fin 48) (a b : State) : State :=
  if (b.core core).selvFail == (a.core core).selvFail then b
  else
    let t := coreTile core
    let hit := b.tiles[t].selvHit ||| (1#4 <<< (coreSlot core).val)
    if hit == (1#4 <<< (coreSlot core).val) then updTile t (fun x => { x with selvHit := hit }) b
    else updTile t (fun x => { x with selvHit := 0, mayProbe := x.st == .fogged }) (fogTile t .selvedge b)

/-- PASS (R62): `samples` are the ADC codes of its attempts in order; `operandOk` is false where the tray read of the operand
meets an uncorrectable error (R99). -/
def passCmd (core : Fin 48) (q seq p set pass vec : Nat) (samples : List (List Byte)) (words : Option (List Word))
    (operandOk : Bool) (s : State) : State :=
  match s.work? q seq, (s.core core).block with
  | some w, some b =>
    match s.pat? w.ctx w.pat with
    | none => s
    | some x =>
      if !passReady s x w b core p set pass vec then s
      else if !operandOk then errWork q seq .dataUncorrectable 0 s
      else if b.analog then
        match samples with
        | [] => s
        | smp :: _ => analogPass core x w b p set pass vec smp words s
      else selvedgeFog core s (exactPass core x w b p set pass vec samples words s)
  | _, _ => s

def execPass (core : Fin 48) (q seq piece set pass vec : Nat) (samples : List (List Byte)) (words : Option (List Word))
    (operandOk : Bool) (s : State) : Out :=
  done s (passCmd core q seq piece set pass vec samples words operandOk s)

/-! ### Core fix point -/

def Core.quarRow (r : Fin 67) (c : Core) : Core := Core.updRow r (fun x => { x with quar := true, restoreDue := false }) c

/-- One faulty row that is not yet quarantined (R50, R51, R97): the basting row stands in for it, or is itself lost, or the core
retires. A single-row load is counted where a substitution begins or ends. -/
def Core.loseRow (r : Fin 67) (c : Core) : Core :=
  let c0 := c.settleSlot
  let stands := match c0.baste with | some (_, true) => true | _ => false
  let c1 := (Core.endWalk c0).quarRow r
  if (c0.row r.val).quar then c0
  else if r = 66 then
    (if stands then { c1 with st := .retired } else Core.reload c0 c1)
  else if stands || (c0.row 66).quar then { c1 with st := .retired }
  else Core.reload c0 { c1 with baste := some (r, true) }

/-- The rows that wait leave service (R97): two or more retire the core. -/
def Core.loseRows (rows : List (Fin 67)) (c : Core) : Core :=
  let c0 := c.settleSlot
  match rows.filter fun r => !(c0.row r.val).quar with
  | [] => c0
  | [r] => Core.loseRow r c0
  | l => { l.foldl (fun c r => Core.quarRow r c) (Core.endWalk c0) with st := .retired }

/-- The failed checks 64 and 65 kept with a faulty row (R93). -/
def Core.checksOf (c : Core) (r : Fin 67) : BitVec 16 × BitVec 16 := ((c.checks.find? (·.1 == r)).map (·.2)).getD (0, 0)

/-- CORE_FIX_POINT (R202): the drained core's substitution is made by a single-row load, and the gate opens; the failed pass is
replayed; a core that retires loses its pieces (R51, R98). No pass and no load is left in the core (R69). A slot that this ends
is summarised (R220), and centring with it (R166). -/
def coreFixPoint (core : Fin 48) (s : State) : State :=
  let c := s.core core
  if c.st == .retired then s
  else if c.faulty.isEmpty then
    (if c.st == .running || c.st == .loading then updCore core (fun c => { c with st := c.gateSt }) s else s)
  else
    let t := s.tiles[coreTile core]
    let c1 := Core.loseRows c.faulty c
    let c2 := { c1 with faulty := [], replayDue := false, checks := [] }
    let s := c.faulty.foldl (fun s r => note (.rowQuarantined core.val r.val (c.checksOf r).1 (c.checksOf r).2) s) s
    let put := fun (k : Core) => ditherFollow (coreTile core)
      (updTile (coreTile core) (fun x => Tile.slotEnded x (Tile.updCore (coreSlot core) (fun _ => k) x)) s)
    if c1.st == .retired then loseCore core (put { c2 with block := none, gateShut := false, drive := 0 })
    else
      let c3 := { c2 with
        replays := c2.replays + (if c.replayDue then 1 else 0)
        st := if t.st == .locked then c2.gateSt else .dark }
      put (if c1.wloads == c.wloads then c3 else c3.underLoad)

def execCoreFixPoint (core : Fin 48) (s : State) : Out := done s (coreFixPoint core s)

end Sys2Proof.Machine
end

