-- ==== Sys2Proof/Machine/Pattern.lean ====
section
/-! DEFINITION. Patterns and work items: LOAD_PATTERN (R229–R231, R343), RUN_PATTERN and write-out (R292, R293, R343), the
digital fallback (R104, R239), experts (R250–R255), scale commands (R135–R137), and the Tailor's own events (R27, R237,
R245, R249, R257–R259, R358, R359). -/
namespace Sys2Proof.Machine

/-! ### LOAD_PATTERN -/

/-- The file's bytes (R343, R265, R276), or the status that its read ends with. -/
def readFile (s : State) (c : Ctx) (d : Desc) (rsp : Rsp) : Except (Status × Nat) (List Byte) :=
  let src := desc64 d 16
  let n := desc64 d 24
  if desc16 d 32 = 0 then srcDva s c src n (readMeets s c src n (some (0, rsp)))
  else
    match srcSpool s c (desc16 d 32) src n with
    | .error e => .error e
    | .ok x => if readFails (vaultBad s x.id src n (some (0, rsp))) then .error (.dataUncorrectable, 0) else .ok (memReadN x.data src n)

/-- What the read of a file leaves behind (R284, R289–R291). -/
def noteFile (c : Ctx) (d : Desc) (rsp : Rsp) (s : State) : State :=
  let src := desc64 d 16
  let n := desc64 d 24
  if desc16 d 32 = 0 then noteSegment c true src 0 n (readMeets s c src n (some (0, rsp))) s
  else vaultMet (desc16 d 32) src (vaultBad s (desc16 d 32) src n (some (0, rsp))) s

/-- The spools that SPOOL_LIST names (R343). -/
def spoolList (s : State) (c : Ctx) (d : Desc) : Except (Status × Nat) (List Nat) :=
  let n := descByte d 34
  if n = 0 then .ok []
  else
    match rangeFault s c (desc64 d 40) (2 * n) false with
    | some a => .error (.accessFault, a)
    | none => .ok ((List.range n).map fun i => leNat (dvaReadN s c (desc64 d 40 + 2 * i) 2))

/-- Check 5 (R229, R247, R343): a tray and a hub swatch hold every class minimum; bolts and frames hold the rest. DESIGN CHOICE:
one tray and one hub swatch are asked for even where no stream of the pattern would use them (assumption 120). -/
def roomOk (s : State) (c : Ctx) (f : List Byte) (d : Desc) : Bool :=
  (s.swatches.any fun x => x.2 == c.num && x.1 < 256) && (s.swatches.any fun x => x.2 == c.num && 256 ≤ x.1)
    && (escapeBytes f : Int) + desc32 d 36 * 2 ^ 26 ≤ boltRoom s c.num 256
    && s.frames.length + desc32 d 48 * 32 ≤ 249856

/-- Check 6 (R229): the first expert record that no named spool of the context covers, or a named spool that is not the
context's: the spool offset for INFO. -/
def spoolGap (s : State) (c : Ctx) (f : List Byte) (ids : List Nat) : Option Nat :=
  if ids.any fun i => ((s.spool? i).map fun (x : Spool) => x.ctx != some c.num || x.closing).getD true then some 0
  else
    ((List.range (nExperts f)).find? fun e =>
      match ids[expertSpool f e]? with
      | some i => (match s.spool? i with | some x => decide (x.length < expertFrom f e + expertLen f e) | none => true)
      | none => true).map (expertFrom f)

/-- The checks of R229 in their order: the status and INFO of the first that fails. -/
def loadCheck (s : State) (c : Ctx) (d : Desc) (f : List Byte) (ids : List Nat) : Option (Status × Nat) :=
  if !headOk f then some (.patternInvalid, 0)
  else if sha384 (digested f) != fileN f 16 48 then some (.integrityFail, 0)
  else if !contentOk f || 256 ≤ s.pats.length || 64 ≤ (s.pats.filter (·.ctx == c.num)).length then some (.patternInvalid, 0)
  else if !escapesOk f then some (.patternInvalid, 0)
  else if !roomOk s c f d then some (.resourceShort, 0)
  else (spoolGap s c f ids).map fun a => (.accessFault, a)

/-- n free LPDDR4X frames (R269, R343). -/
def takeFrames : Nat → State × List Nat → State × List Nat
  | 0, r => r
  | n + 1, (s, l) =>
    let a := pickFrame s
    takeFrames n (draw { s with frames := s.frames ++ [a] }, l ++ [a])

/-- The widest width whose stripe buffers fit the context's hub SRAM, the narrowest where none does (R257). -/
def stripeStart (s : State) (ctx : Nat) (f : List Byte) : Nat :=
  let room := ((ctxUnits s.swatches ctx).filter (· < 256)).length * 2 ^ 22
  ((List.range (stripes f).length).find? fun i => Config.stripeBytes f ((stripes f).getD i 0) ≤ room).getD ((stripes f).length - 1)

/-- A load that passed its checks: its pattern, not yet runnable. The handle is the lowest free one (assumption 23). -/
def admitPattern (q seq : Nat) (c : Ctx) (d : Desc) (f : List Byte) (ids : List Nat) (s : State) : State :=
  let h := (freeNumber 0 256 (s.pats.map (·.handle))).getD 0
  let r := takeFrames (desc32 d 48 * 32) (s, [])
  let x : Pattern :=
    { handle := h, ctx := c.num, file := f, hot := desc32 d 36, warm := desc32 d 48, spools := ids, byQueue := q, bySeq := seq
      frames := r.2, stripe := stripeStart s c.num f }
  { r.1 with pats := r.1.pats ++ [x] }

/-- The pieces of a load are placed, once; it completes, and the pattern is runnable, when every resident block has been written
(R231). -/
def completeLoad (q seq : Nat) (x : Pattern) (e : Entry) (s : State) : State :=
  loadFollow (if e.st == .begun then s else begin_ q seq (placePattern x.ctx x.handle s))

/-- LOAD_PATTERN (R229, R231, R322): read, checked in order, and placed; before READY it is held with its checks made. -/
def loadPattern (q seq : Nat) (rsp : Rsp) (c : Ctx) (e : Entry) (s : State) : State :=
  let d := e.desc
  match s.pats.find? fun p => p.byQueue == q && p.bySeq == seq && !p.runnable with
  | some x => if beforeReady s then s else completeLoad q seq x e s
  | none =>
    if vaultRefuses s && (desc16 d 32 != 0 || descByte d 34 != 0) then finish q seq .notPermitted 0 s
    else if (desc16 d 32 == 0 && hostWaits s c (desc64 d 16) (desc64 d 24)) || (descByte d 34 != 0 && hostWaits s c (desc64 d 40) (2 * descByte d 34)) then s
    else
      match readFile s c d rsp with
      | .error (st, i) => finish q seq st i (if st == .dataUncorrectable then noteFile c d rsp s else s)
      | .ok f =>
        let s := noteFile c d rsp s
        match spoolList s c d with
        | .error (st, i) => finish q seq st i s
        | .ok ids =>
          match loadCheck s c d f ids with
          | some (st, i) => finish q seq st i s
          | none =>
            let s := admitPattern q seq c d f ids s
            if beforeReady s then hold q seq s
            else
              match s.pats.find? fun p => p.byQueue == q && p.bySeq == seq && !p.runnable with
              | some x => completeLoad q seq x e s
              | none => s

def execLoadPattern (q seq : Nat) (hs : List Cell) (rsp : Rsp) (s : State) : Out :=
  let s1 := seeHost hs s
  done s (inTurn 0x02 q seq s1 fun _ c e => loadPattern q seq rsp c e s1)

/-- UNLOAD_PATTERN (R231, R138): cores, buffers, cache, frames and tracker state are released; other patterns may be rebalanced
onto the cores that it frees (R238). -/
def unloadPattern (q seq : Nat) (c : Ctx) (e : Entry) (s : State) : State :=
  match s.pat? c.num e.handle with
  | none => finish q seq .patternInvalid 0 s
  | some x =>
    if !x.runnable then finish q seq .patternInvalid 0 s
    else
      let freed := (List.finRange 48).filter x.onCore
      let s := tidyCores (dropPattern c.num x.handle s)
      finish q seq .ok 0 { s with tailor := { s.tailor with freed := freed, moved := [], rebalance := false } }

def execUnloadPattern (q seq : Nat) (s : State) : Out := done s (inTurn 0x03 q seq s fun _ c e => unloadPattern q seq c e s)

/-! ### RUN_PATTERN -/

/-- The input of a work item in requests of at most 4 KiB (R295, R343). -/
def inputChunks (f : List Byte) : List (Nat × Nat) :=
  (regionLayout f true).1.flatMap fun st =>
    (List.range ((streamBytes f st.1 + 4095) / 4096)).map fun i => (st.2 + 4096 * i, min 4096 (streamBytes f st.1 - 4096 * i))

/-- Requests of 4 KiB within a declared input of n bytes that the pattern does not consume. -/
def aheadChunks (f : List Byte) (n : Nat) : List (Nat × Nat) :=
  ((List.range ((n + 4095) / 4096)).filter fun i => !(inputChunks f).any (·.1 == 4096 * i)).map fun i => (4096 * i, min 4096 (n - 4096 * i))

/-- As many of them as the feed dogs run ahead (R297): a free number (assumption 62). -/
def aheadTaken (n : Nat) (l : List (Nat × Nat)) : List (Nat × Nat) := if l.isEmpty then [] else l.take (Config.runAhead n)

/-- The work item that a RUN_PATTERN makes: its number and the exponents fixed for it (R130, R131). -/
def newWork (x : Queue) (c : Ctx) (p : Pattern) (e : Entry) (s : State) : Work :=
  let t := trackerOf s p.file p.handle x.num
  let k := workNumber t x p.handle e.seq
  { q := x.num, seq := e.seq, ctx := c.num, pat := p.handle, k := k, exps := t.slots.map (slotExp t.frozen k)
    toFetch := inputChunks p.file, ahead := aheadTaken s.free (aheadChunks p.file (desc64 e.desc 32)) }

/-- RUN_PATTERN (R343, R41, R260, R298): it begins, and the feed dogs fetch its input. -/
def runPattern (x : Queue) (c : Ctx) (e : Entry) (s : State) : State :=
  let d := e.desc
  if e.st == .begun then requestExperts (pump s)
  else
    match s.pat? c.num e.handle with
    | none => finish x.num e.seq .patternInvalid 0 s
    | some p =>
      if !p.runnable then finish x.num e.seq .patternInvalid 0 s
      else if 2 ^ 52 ≤ desc64 d 24 then finish x.num e.seq .accessFault (desc64 d 24) s
      else if 2 ^ 52 ≤ desc64 d 40 then finish x.num e.seq .accessFault (desc64 d 40) s
      else if desc64 d 32 < inputSize p.file || desc64 d 48 < outputSize p.file then finish x.num e.seq .descInvalid 0 s
      else if s.mod.mstate == .safelight && patAnalog p.file then finish x.num e.seq .modeRejected 0 s
      else requestExperts (pump (bufFollow (draw (begin_ x.num e.seq { s with works := s.works ++ [newWork x c p e s] }))))

def execRunPattern (q seq : Nat) (hs : List Cell) (s : State) : Out :=
  let s1 := seeHost hs s
  done s (inTurn 0x01 q seq s1 fun x c e => runPattern x c e s1)

def execFeedDogResponse (id : Nat) (hs : List Cell) (rsp : Rsp) (s : State) : Out :=
  done s (requestExperts (feedDogResponse id rsp (seeHost hs s)))

/-! ### The digital fallback -/

/-- The vector units run the piece: VU_ONLY, or on the fallback (R225, R239). -/
def onVector (x : Pattern) (p : Nat) : Bool := pieceVuOnly x.file p || x.onFallback.contains p

/-- One row-group set of a piece, pass by pass, for the vectors given that are not finished; e is their expert. -/
def directSet (x : Pattern) (p : Nat) (xs : List Int) (e : Option Nat) (vs : List Nat) (set : Nat) (w : Work) :
    Except (Status × List Note) Work :=
  let todo := vs.filter fun v => !(w.elems.any fun e => e.piece == p && e.vec == v && e.group == set * setGroups (pieceNum x.file p))
  (List.range (nPasses x.file p)).foldl (fun r pass =>
    match r with
    | .error e => .error e
    | .ok w =>
      match blockSource x (some w) e p set pass with
      | none => .error (.integrityFail, [])
      | some bs =>
        let b := blockOf x p set pass bs
        commitPass x p set pass (pass + 1 == nPasses x.file p) todo (directSum x.file p xs b pass) none w) (.ok w)

/-- The weights that the piece's vectors take now: those of experts in the hot tier that unfinished vectors need (R250), or the
piece's own. -/
def vuExperts (x : Pattern) (w : Work) (p : Nat) : List (Option Nat) :=
  if pieceRouted x.file p then
    (((openVecs x.file w p).filterMap (expertFor x.file w p)).filter (expertHot x)).eraseDups.map some
  else [none]

/-- The first block of a piece whose weights do not give the check values stored with it (R59, R104): expert, set and pass. -/
def badBlock (x : Pattern) (w : Work) (p : Nat) : Option (Option Nat × Nat × Nat) :=
  ((vuExperts x w p).flatMap fun e => (List.range (nSets x.file p)).flatMap fun set =>
      (List.range (nPasses x.file p)).map fun pass => (e, set, pass)).find? fun b =>
    match blockSource x (some w) b.1 p b.2.1 b.2.2 with
    | some bs => !loadMatches x p b.2.1 b.2.2 bs
    | none => true

/-- The piece on the vector units (R104), for the vectors that are there: the groups summed so far are summed again from the
start. -/
def directPiece (x : Pattern) (p : Nat) (w : Work) : Except (Status × List Note) Work :=
  if !pieceWeights x.file p then .ok w
  else
    let xs := pieceInput x.file w p
    let jobs := (vuExperts x w p).flatMap fun e =>
      (List.range (nSets x.file p)).map fun set =>
        (e, set, (List.range (nVecs x.file p)).filter fun v => feedReady x.file w p v && vecExpert x.file w p v == e)
    jobs.foldl (fun r j =>
      match r with
      | .error e => .error e
      | .ok w => directSet x p xs j.1 j.2.2 j.2.1 w) (.ok { w with accs := w.accs.filter (·.piece != p) })

/-- The block whose sums do not match, of the source or as it was read twice (R59, R104). -/
def vuBad (x : Pattern) (w : Work) (p : Nat) : VuReads → Option (Option Nat × Nat × Nat)
  | .sigma set pass => some ((vuExperts x w p).headD none, set, pass)
  | _ => badBlock x w p

/-- DIGITAL_FALLBACK_COMPUTE (R104, R239, R291): an uncorrectable read ends the item, a block's second Σw mismatch every item that
needs the block. -/
def fallbackCompute (q seq p : Nat) (reads : VuReads) (s : State) : State :=
  match s.work? q seq with
  | none => s
  | some w =>
    match s.pat? w.ctx w.pat with
    | none => s
    | some x =>
      let experts := vuExperts x w p
      let own := if pieceDynamic x.file p || pieceExpert x.file p then some w else none
      if !(p < nPieces x.file) || !onVector x p || !pieceReady x.file w p || pieceDone x.file w p || experts.isEmpty || !granted s x.file w p
          || !shuttleRuns s q then s
      else if reads == .uncorrectable then errWork q seq .dataUncorrectable 0 s
      else
        match (if pieceWeights x.file p then vuBad x w p reads else none) with
        | some (e, set, pass) => failBlock x own e p set pass s
        | none =>
          match directPiece x p w with
          | .error e => arithError q seq e s
          | .ok w' =>
            let w' := if pieceVuOnly x.file p then
                (if !pieceWeights x.file p || elemsDone x.file w' p then { runProgram x.file p w' with vuDone := p :: w'.vuDone } else w')
              else { w' with flags := { w'.flags with degraded := true } }
            requestExperts (updWork q seq (fun _ => w') (experts.foldl (fun s e => touchExpert x (some w) e s) s))

def execDigitalFallbackCompute (q seq piece : Nat) (reads : VuReads) (s : State) : Out :=
  done s (fallbackCompute q seq piece reads s)

/-! ### Write-out -/

/-- Chunks of the output region: stream, offset in the region, offset in the stream, length (R292, R343). -/
def outChunks (f : List Byte) : List (Nat × Nat × Nat × Nat) :=
  (regionLayout f false).1.flatMap fun st =>
    (List.range ((streamBytes f st.1 + 4095) / 4096)).map fun i =>
      (st.1, st.2 + 4096 * i, 4096 * i, min 4096 (streamBytes f st.1 - 4096 * i))

/-- The first faulting DVA of the outputs. -/
def outFault (s : State) (c : Ctx) (f : List Byte) (base : Nat) : Option Nat :=
  (outChunks f).findSome? fun ch => rangeFault s c (base + ch.2.1) ch.2.2.2 true

/-- The work item has written its last chunk: it completes (R292, R126, R466). -/
def endWork (w : Work) (s : State) : State :=
  finishFlags w.q w.seq .ok 0 w.sat { w.flags with saturated := 0 < w.sat, degraded := w.flags.degraded || s.mod.mstate == .safelight } s

/-- A staged chunk is lost (R293): the item runs again from its inputs, with the exponents it used, and carries REPLAYED. -/
def runAgain (f : List Byte) (w : Work) (s : State) : State :=
  pump (updWork w.q w.seq (fun w => { w with
    stage := .fetching, ranAhead := false, got := [], input := [], accs := [], passes := [], dealt := [], elems := [], vuOut := [], vuDone := [], obs := [], sat := 0
    toFetch := inputChunks f, rerun := true, flags := { w.flags with replayed := true } }) s)

/-- The credit that held a staged chunk has failed (R293): one that fails twice is mapped out (`swatchRoom`). Which one it was
is a free value (assumption 57). -/
def failCredit (w : Work) (st : Nat) (s : State) : State :=
  match (s.bufs.find? (Buf.is w.q w.seq st)).bind (·.parts.head?) with
  | some (u, _) =>
    let k := Config.creditFailed s.free % 1024
    let n := ((s.badCredits.find? fun b => b.1 == u && b.2.1 == k).map (·.2.2)).getD 0
    draw { s with badCredits := (u, k, n + 1) :: s.badCredits.filter fun b => !(b.1 == u && b.2.1 == k) }
  | none => s

/-- One chunk of 4 KiB is read, checked and written (R292). -/
def writeChunk (c : Ctx) (x : Pattern) (w : Work) (base : Nat) (stagedOk rerunOk : Bool) (s : State) : State :=
  let chunks := outChunks x.file
  match chunks[w.written]? with
  | none => endWork w s
  | some (st, off, at_, n) =>
    if hostWaits s c (base + off) n then s
    else if !stagedOk then
      let s := failCredit w st s
      (if rerunOk then runAgain x.file w s else errWork w.q w.seq .contextFaulted 0 s)
    else
      match rangeFault s c (base + off) n true with
      | some _ => errWork w.q w.seq .contextFaulted 0 s
      | none =>
        match wantedIn s c true (base + off) n with
        | some p => askPage { fn := c.owner, page := p, q := w.q, seq := w.seq, dva := base + off, demand := true, write := true } s
        | none =>
          let w' := { w with written := w.written + 1 }
          let s := updWork w.q w.seq (fun _ => w') (storeDva c (base + off) true (((streamData x.file w st).drop at_).take n) s)
          if w'.written = chunks.length then endWork w' s else s

/-- The first output chunk, by DVA, that lacks the translation of a host page under ATS. -/
def outWanted (s : State) (c : Ctx) (f : List Byte) (base : Nat) : Option (Nat × Nat) :=
  ((outChunks f).filterMap fun x => (wantedIn s c true (base + x.2.1) x.2.2.2).map fun p => (base + x.2.1, p)).head?

/-- WRITE_OUT (R292): begins once the last pass has committed and every fetch has returned; the outputs are translated before
the first chunk is written (R265). `stagedOk` is false where the staged chunk has an uncorrectable error; `rerunOk` is false
where the run again fails at once (R293). -/
def writeOut (q seq : Nat) (stagedOk rerunOk : Bool) (s : State) : State :=
  match s.work? q seq, s.queue? q with
  | some w, some y =>
    match s.pat? w.ctx w.pat, s.ctx? w.ctx, y.entry? seq with
    | some x, some c, some e =>
      if e.st != .begun || w.stage == .fetching || !workDone x.file w || !w.toFetch.isEmpty
          || (s.reqs.any fun r => r.q == q && r.seq == seq && r.demand && !r.cancelled) || !shuttleRuns s q then s
      else
        let base := desc64 e.desc 40
        match (if w.inWriteOut then none else outFault s c x.file base) with
        | some a => failWork q seq .accessFault a s
        | none =>
          -- under ATS the outputs are translated first, and a denial ends the item before it has written (R265, R312)
          match (if w.inWriteOut then none else outWanted s c x.file base) with
          | some (dva, p) => askPage { fn := c.owner, page := p, q := q, seq := seq, dva := dva, demand := true, write := true } s
          | none =>
            let w' := { w with stage := .writeOut }
            writeChunk c x w' base stagedOk rerunOk (updWork q seq (fun _ => w') s)
    | _, _, _ => s
  | _, _ => s

def execWriteOut (q seq : Nat) (stagedOk rerunOk : Bool) (s : State) : Out := done s (writeOut q seq stagedOk rerunOk s)

/-! ### Experts -/

/-- Bytes of the experts of one tier. -/
def tierBytes (x : Pattern) (hot : Bool) : Nat :=
  ((x.cache.filter (·.hot == hot)).map fun c => expertLen x.file c.expert).foldl (· + ·) 0

/-- An unfinished work item uses the expert for a vector that it has not finished (R253). -/
def expertInUse (s : State) (x : Pattern) (e : Nat) : Bool :=
  s.works.any fun w => w.ctx == x.ctx && w.pat == x.handle && (expertsNeeded x w).contains e

/-- The next expert to leave a tier (R253): least recently used, ties to the highest index; never one in use or pinned. -/
def evictNext (s : State) (x : Pattern) (hot : Bool) : Option CacheEnt :=
  (x.cache.filter fun c => c.hot == hot && !(c.pinned || expertInUse s x c.expert)).foldl (fun best c =>
    match best with
    | none => some c
    | some b =>
      if c.lastUse < b.lastUse || (c.lastUse == b.lastUse && expertIndex x.file b.expert < expertIndex x.file c.expert) then some c else some b) none

/-- Room is made in the warm tier; an expert evicted from it is dropped. -/
def makeWarm (s : State) (need : Nat) : Nat → Pattern → Pattern
  | 0, x => x
  | k + 1, x =>
    if tierBytes x false + need ≤ x.warm * 2 ^ 26 then x
    else
      match evictNext s x false with
      | none => x
      | some c => makeWarm s need k { x with cache := x.cache.filter (·.expert != c.expert) }

/-- An expert leaves the hot tier: to the warm tier where it fits, otherwise dropped. -/
def demote (s : State) (c : CacheEnt) (x : Pattern) : Pattern :=
  let y := makeWarm s (expertLen x.file c.expert) x.cache.length { x with cache := x.cache.filter (·.expert != c.expert) }
  if tierBytes y false + expertLen x.file c.expert ≤ y.warm * 2 ^ 26 then { y with cache := y.cache ++ [{ c with hot := false }] } else y

/-- Room is made in the hot tier. -/
def makeHot (s : State) (need : Nat) : Nat → Pattern → Pattern
  | 0, x => x
  | k + 1, x =>
    if tierBytes x true + need ≤ x.hot * 2 ^ 26 then x
    else
      match evictNext s x true with
      | none => x
      | some c => makeHot s need k (demote s c x)

/-- The fetched expert enters the hot tier, where room can be had. -/
def cacheExpert (s : State) (r : ExpertReq) (x : Pattern) : Option Pattern :=
  let x1 := { x with cache := x.cache.filter (·.expert != r.expert) }
  let y := makeHot s (expertLen x.file r.expert) x1.cache.length x1
  if tierBytes y true + expertLen x.file r.expert ≤ y.hot * 2 ^ 26 then
    some { y with
      cache := y.cache ++ [{ expert := r.expert, hot := true, pinned := r.pin, lastUse := (r.waiters.map (·.2)).foldl max 0
                             data := r.data }]
      fetches := y.fetches.filter (·.expert != r.expert) }
  else none

/-- EXPERT_FETCH_DONE (R253, R254): the request at the head of the expert queue is served; `expert` numbers the EXPERTS
record. An expert in the warm tier comes from there, others from the vault. -/
def expertFetchDone (h e : Nat) (rsp : Rsp) (s : State) : State :=
  match s.pats.find? (·.handle == h) with
  | none => s
  | some x =>
    match x.fetches with
    | [] => s
    | r :: _ =>
      if r.expert != e then s
      else
        let warm := x.cache.any fun c => c.expert == e && !c.hot
        if !warm && vaultRefuses s then fetchFollow (failFetch x r .notPermitted 0 s)
        else if !warm && vaultPending s then s
        else if !warm && s.vault.readHold then fetchFollow (failFetch x r .tempHold 0 s)
        else
          let id := x.spools.getD (expertSpool x.file e) 0
          let met := if warm then some (0, rsp) else vaultBad s id (expertFrom x.file e) (expertLen x.file e) (some (0, rsp))
          let s := if warm then (if rsp == .corrected then countCorrected 2 s else s) else vaultMet id (expertFrom x.file e) met s
          if readFails met then fetchFollow (failFetch x r .dataUncorrectable 0 s)
          else
          match cacheExpert s r x with
          | some y => fetchFollow (updPat x.ctx x.handle (fun _ => y) s)
          | none =>
            if r.prefetch then fetchFollow (updPat x.ctx x.handle (fun y => { y with fetches := y.fetches.filter (·.expert != e) }) s)
            else s

def execExpertFetchDone (pat expert : Nat) (rsp : Rsp) (s : State) : Out := done s (expertFetchDone pat expert rsp s)

/-- Bytes pinned, requests to pin included (R253). -/
def pinnedBytes (x : Pattern) : Nat :=
  ((x.cache.filter (·.pinned)).map fun c => expertLen x.file c.expert).foldl (· + ·) 0
    + ((x.fetches.filter (·.pin)).map fun r => expertLen x.file r.expert).foldl (· + ·) 0

def isPinned (x : Pattern) (e : Nat) : Bool :=
  (x.cache.any fun c => c.expert == e && c.pinned) || x.fetches.any fun r => r.expert == e && r.pin

/-- One listed expert is prefetched and, with PIN, pinned where the 75 % limit allows: the pattern, pins made and refused. -/
def hintOne (set mode : Nat) (r : Pattern × Nat × Nat) (idx : Nat) : Pattern × Nat × Nat :=
  let x := r.1
  match expertRec x.file set idx with
  | none => (x, r.2.1, r.2.2 + 1)
  | some e =>
    if mode = 2 then
      ({ x with
          cache := updWhere (·.expert == e) (fun c => { c with pinned := false }) x.cache
          fetches := updWhere (·.expert == e) (fun q => { q with pin := false }) x.fetches }, r.2)
    else
      let pin := mode == 1 && (isPinned x e || 4 * (pinnedBytes x + expertLen x.file e) ≤ 3 * (x.hot * 2 ^ 26))
      let x := if expertHot x e || x.fetches.any (·.expert == e) then x
        else { x with fetches := x.fetches ++ [{ expert := e, prefetch := true, pin := false, waiters := [] }] }
      let x := if pin then
          { x with
            cache := updWhere (fun c => c.expert == e && c.hot) (fun c => { c with pinned := true }) x.cache
            fetches := updWhere (·.expert == e) (fun q => { q with pin := true }) x.fetches }
        else x
      (x, r.2.1 + (if pin then 1 else 0), r.2.2 + (if mode == 1 && !pin then 1 else 0))

/-- EXPERT_HINT (R255, R345, R350). -/
def expertHint (q seq : Nat) (c : Ctx) (e : Entry) (s : State) : State :=
  let d := e.desc
  match s.pat? c.num e.handle with
  | none => finish q seq .patternInvalid 0 s
  | some x =>
    if !x.runnable then finish q seq .patternInvalid 0 s
    else if hostWaits s c (desc64 d 24) (4 * desc32 d 20) then s
    else
      match rangeFault s c (desc64 d 24) (4 * desc32 d 20) false with
      | some a => finish q seq .accessFault a s
      | none =>
        let r := (List.range (desc32 d 20)).foldl
          (fun r i => hintOne (desc16 d 32) (descByte d 18) r (leNat (dvaReadN s c (desc64 d 24 + 4 * i) 4))) (x, 0, 0)
        finish q seq .ok (r.2.1 + r.2.2 * 2 ^ 32) (fetchFollow (updPat c.num x.handle (fun _ => r.1) s))

def execExpertHint (q seq : Nat) (hs : List Cell) (s : State) : Out :=
  let s1 := seeHost hs s
  done s (inTurn 0x06 q seq s1 fun _ c e => expertHint q seq c e s1)

/-! ### Scale commands -/

/-- SCALE_FREEZE (R135). -/
def scaleFreeze (x : Queue) (c : Ctx) (e : Entry) (s : State) : State :=
  match s.pat? c.num e.handle with
  | none => finish x.num e.seq .patternInvalid 0 s
  | some p =>
    if !p.runnable then finish x.num e.seq .patternInvalid 0 s
    else
      let t := trackerOf s p.file p.handle x.num
      finish x.num e.seq .ok 0 (putTracker (trackFreeze p.file (descByte e.desc 18 % 2 == 1) t) s)

def execScaleFreeze (q seq : Nat) (s : State) : Out := done s (inTurn 0x09 q seq s fun x c e => scaleFreeze x c e s)

/-- The exponent that SCALE_SET lists for a slot (R345). -/
def listedExp (d : Desc) (i : Nat) : Option Int := if d.getLsbD (160 + i) then some (signedOf 8 (descByte d (24 + i))) else none

/-- Every listed slot is declared and its value in range (R136). -/
def scaleSetOk (f : List Byte) (d : Desc) : Bool :=
  (List.range 32).all fun i =>
    match listedExp d i with
    | none => true
    | some v => i < nSlots f && trackLo (trackWord f i) ≤ v && v ≤ trackHi (trackWord f i)

/-- SCALE_SET (R136). -/
def scaleSet (x : Queue) (c : Ctx) (e : Entry) (s : State) : State :=
  match s.pat? c.num e.handle with
  | none => finish x.num e.seq .patternInvalid 0 s
  | some p =>
    if !p.runnable || !scaleSetOk p.file e.desc then finish x.num e.seq .patternInvalid 0 s
    else
      let t := trackerOf s p.file p.handle x.num
      finish x.num e.seq .ok 0 (putTracker (trackSet p.file (listedExp e.desc) t) s)

def execScaleSet (q seq : Nat) (s : State) : Out := done s (inTurn 0x0A q seq s fun x c e => scaleSet x c e s)

/-! ### The Tailor's events -/

/-- Why a replica may move from its cores now (R238): its core is vacated for a sweep; with at most 8 moves in flight its tile
is to be the reserve, or its shape is not what the profile of a placement write wants; or, once, the cores it moves to have been
freed by an unload, or by a write that gave up the reserve. -/
def moveCause (s : State) (x : Pattern) (pl : Place) (to_ : List (Fin 48)) : Bool :=
  pl.cores.any (fun c => (s.core c).vacate)
    || (movesNow s < 8 && (pl.cores.any (fun c => s.tailor.toEmpty == some (coreTile c)) || (s.tailor.rebalance && !shapeOk s x pl)))
    || (to_.all s.tailor.freed.contains && !s.tailor.moved.contains (x.handle, pl.piece) && (!s.tailor.rebalance || movesNow s < 8))

/-- A replica of the piece with as many cores as it has now, or as the profile wants (R233). -/
def moveShape (s : State) (x : Pattern) (p : Nat) (from_ to_ : List (Fin 48)) : Bool :=
  to_.length == from_.length || to_.length == nSets x.file p * splitWays s x.file p

/-- PIECE_MOVE (R237): make-before-break. The new cores take the replica, which leaves the old ones once their work is done
(`Place.settled`); no pass is discarded. -/
def pieceMove (h p : Nat) (from_ to_ : List (Fin 48)) (s : State) : State :=
  match s.pats.find? (·.handle == h) with
  | none => s
  | some x =>
    let here := fun (pl : Place) => pl.piece == p && pl.cores == from_ && pl.from_.isEmpty
    if s.mod.mstate == .ready && (x.places.any fun pl => here pl && moveCause s x pl to_) && moveShape s x p from_ to_
        && (to_.all fun c => mayPlace s x.ctx x.file p c || from_.contains c) then
      let go := fun (pl : Place) => { pl with cores := to_, from_ := from_, opened := false, oldN := 0, newN := 0 }
      tidyCores (updPat x.ctx h (fun y => { y with places := y.places.map fun pl => if here pl then go pl else pl })
        { s with tailor := { s.tailor with moved := (h, p) :: s.tailor.moved } })
    else s

def execPieceMove (pat piece : Nat) (fromCores toCores : List (Fin 48)) (s : State) : Out :=
  done s (pieceMove pat piece fromCores toCores s)

/-- DUTY_REVISION (R245): the duty that the Tailor wants of the tile is kept, and a LOCKED tile takes one revision toward it. -/
def dutyRevision (t : Fin 12) (want : Nat) (s : State) : State :=
  let s := updTile t (fun x => { x with dutyWant := min want 10000 }) s
  if s.tiles[t].st == .locked then reviseTile t s else s

def execDutyRevision (tile : Fin 12) (want : Nat) (s : State) : Out := done s (dutyRevision tile want s)

/-! ### The snag detector (R249) -/

/-- A shortest closed path through a stream: paths are extended until one returns. -/
def findCycle (es : List Edge) (a : Nat × Nat) : Nat → List (List (Nat × Nat)) → Option (List (Nat × Nat))
  | 0, _ => none
  | k + 1, paths =>
    match paths.find? fun p => es.any fun e => e.from_ == p.headD a && e.to_ == a with
    | some p => some p
    | none => findCycle es a k (paths.flatMap fun p =>
        ((es.filter fun e => e.from_ == p.headD a && !p.contains e.to_).map fun e => e.to_ :: p))

/-- PRIORITY and ESCAPE of a stream, by pattern and number. -/
def streamRank (s : State) (i : Nat × Nat) : Nat × Nat :=
  match s.pats.find? (·.handle == i.1) with
  | some x => (streamPrio x.file i.2, streamEscape x.file i.2)
  | none => (0, 0)

/-- The stream that breaks a cycle: the lowest PRIORITY with an escape buffer, ties to the highest identifier. -/
def divertOf (s : State) (cycle : List (Nat × Nat)) : Option (Nat × Nat) :=
  (cycle.filter fun i => (streamRank s i).2 != 0).foldl (fun best i =>
    match best with
    | none => some i
    | some b =>
      if (streamRank s i).1 < (streamRank s b).1 || ((streamRank s i).1 == (streamRank s b).1 && b.2 < i.2) then some i else some b) none

/-- A snag is broken: its producer writes to the escape buffer from here on; logged, and counted in the pattern's context. -/
def divert (i : Nat × Nat) (s : State) : State :=
  match s.pats.find? (·.handle == i.1) with
  | some x =>
    note (.snag x.handle i.2) (updCtx x.ctx (fun c => { c with snags := c.snags + 1 })
      (updPat x.ctx x.handle (fun y => { y with diverted := if y.diverted.contains i.2 then y.diverted else i.2 :: y.diverted }) s))
  | none => s

/-- The snags that share no stream, each broken once; those that share one are left to the next scan. -/
def breakSnags (es : List Edge) : List (Nat × Nat) → List (Nat × Nat) → State → State
  | [], _, s => s
  | a :: as_, used, s =>
    match findCycle es a (es.length + 1) [[a]] with
    | none => breakSnags es as_ used s
    | some cyc =>
      if cyc.any used.contains then breakSnags es as_ used s
      else
        match divertOf s cyc with
        | none => breakSnags es as_ used s
        | some i => breakSnags es as_ (cyc ++ used) (divert i s)

/-- SNAG_SCAN, every 5 µs: a wait that has lasted 11 scans has lasted more than 50 µs. Of two snags that share a stream only one
is broken in a scan: the one met first, `first` before the other waiting streams. -/
def snagScan (first : List (Nat × Nat)) (s : State) : State :=
  let es := s.edges.map fun e => { e with scans := e.scans + 1 }
  let old := es.filter fun e => 11 ≤ e.scans
  breakSnags old (first ++ old.map (·.from_)).eraseDups [] { s with edges := es }

def execSnagScan (first : List (Nat × Nat)) (s : State) : Out := done s (snagScan first s)

/-! ### Stripes and batches -/

/-- STRIPE_NARROW and STRIPE_WIDEN (R257): one width at a time, asked for and taken between stripes (`stripeFollow`). -/
def stripeStep (h : Nat) (narrow : Bool) (s : State) : State :=
  { s with pats := updWhere (·.handle == h) (fun x =>
      let now := x.stripeWant.getD x.stripe
      { x with stripeWant := some (if narrow then min (now + 1) ((stripes x.file).length - 1) else now - 1) }) s.pats }

def execStripeNarrow (pat : Nat) (s : State) : Out := done s (stripeStep pat true s)
def execStripeWiden (pat : Nat) (s : State) : Out := done s (stripeStep pat false s)

/-- BATCH_WINDOW_EXPIRY (R258): the chunk that the piece's oldest waiting query needs is due. -/
def batchExpiry (h p : Nat) (s : State) : State :=
  let hit := fun (x : Pattern) => x.handle == h && pieceBatches x.file p && !x.batchDue.contains p && !(waitsAt s x p).isEmpty
  { s with pats := updWhere hit (fun x => { x with batchDue := x.batchDue ++ [p] }) s.pats }

def execBatchWindowExpiry (pat piece : Nat) (s : State) : Out := done s (batchExpiry pat piece s)

/-- TAILOR_HEARTBEAT_TIMEOUT (R27): the standby takes over at the next fix point of each tile. -/
def tailorTimeout (s : State) : State :=
  if !s.tailor.standbyUp then s
  else
    let s := note .tailorTakeover s
    { mapTiles (fun _ t => if t.st == .locked then t.await .takeover else t) s with
      tailor := { s.tailor with standbyUp := false, takeover := true } }

def execTailorHeartbeatTimeout (s : State) : Out := done s (tailorTimeout s)

/-! ### Time-sharing -/

/-- Work of the resident waits for the core (R358): a work item has reached a piece that it was dealt to do there. DESIGN
CHOICE: so do weights that a load or a move has still to write (R231, R237; assumption 121). -/
def hasWork (s : State) (core : Fin 48) (r : Nat × Nat) : Bool :=
  match s.pat? r.1 r.2 with
  | none => false
  | some x =>
    (s.works.any fun w => w.ctx == r.1 && w.pat == r.2 && w.dealt.any fun d =>
        d.cores.contains core && pieceReady x.file w d.piece && !pieceDone x.file w d.piece)
      || x.places.any fun pl => pl.cores.contains core && pieceResident x.file pl.piece && (!x.runnable || !pl.opened)

/-- (context, handle) in ascending order. -/
def residentLt (a b : Nat × Nat) : Bool := a.1 < b.1 || (a.1 == b.1 && a.2 < b.2)

def leastResident (l : List (Nat × Nat)) : Option (Nat × Nat) :=
  l.foldl (fun best r => match best with | none => some r | some b => if residentLt r b then some r else some b) none

/-- The resident whose turn comes next. -/
def nextResident (s : State) (core : Fin 48) : Option (Nat × Nat) :=
  let c := s.core core
  let ready := c.residents.filter fun r => some r != c.current && hasWork s core r
  match c.current with
  | none => leastResident ready
  | some cur =>
    match leastResident (ready.filter fun r => residentLt cur r) with
    | some r => some r
    | none => leastResident ready

/-- The state saved for the outgoing resident met an uncorrectable error (R291): its work items with sums in progress end. -/
def loseSaved (r : Nat × Nat) (core : Fin 48) (s : State) : State :=
  if s.works.any fun w => w.ctx == r.1 && w.pat == r.2 && w.stage == .running && w.accs.any fun a =>
      s.pats.any fun x => x.ctx == r.1 && x.handle == r.2 && (pieceCores x a.piece).contains core then faultCtx r.1 s
  else s

/-- QUANTUM_END (R358, R359): the next resident with waiting work; a core that a higher controller has closed waits. The operand
registers are reloaded (R21). DESIGN CHOICE: MODE reads none from here on (assumption 92). -/
def quantumEnd (core : Fin 48) (savedOk : Bool) (s : State) : State :=
  let c := s.core core
  if c.st == .idle || c.st == .running || c.st == .loading then
    match nextResident s core with
    | none => s
    | some r =>
      let s := updCore core (fun c => { c with current := some r, block := none, operands := [], st := c.gateSt }) s
      match c.current with
      | none => s
      | some old =>
        let s := updCtx r.1 (fun x => { x with switches := x.switches + 1 }) s
        if savedOk then s else loseSaved old core s
  else s

def execQuantumEnd (core : Fin 48) (savedOk : Bool) (s : State) : Out := done s (quantumEnd core savedOk s)

end Sys2Proof.Machine
end

