-- ==== Sys2Proof/Machine/Optics.lean ====
section
/-! DEFINITION. Light as operations: laser care and swaps (R139–R150), dither (R165, R166), heater tables (R153–R156),
temperature sets and seeding (R198), seam ports (R169–R174), and the changes that wait for a tile fix point (R202–R205). -/
namespace Sys2Proof.Machine

/-! ### Lasers -/

/-- The group of a channel, and the laser number of a group's spare (R139). -/
def groupOf (ch : Fin 64) : Fin 8 := ⟨ch.val / 8, by omega⟩
def spareOf (g : Fin 8) : Fin 72 := ⟨64 + g.val, by omega⟩
def workingOf (ch : Fin 64) : Fin 72 := ⟨ch.val, by omega⟩

/-- The channel that a laser serves or is to serve (R184). -/
def laserChan (x : Tile) (l : Fin 72) : Fin 64 :=
  if h : l.val < 64 then ⟨l.val, h⟩ else ⟨x.lasers[l].chan % 64, Nat.mod_lt _ (by decide)⟩

/-- The laser that serves a channel: the spare where it has taken over, else the working laser. -/
def servingLaser (x : Tile) (ch : Fin 64) : Fin 72 :=
  let l := x.lasers[spareOf (groupOf ch)]
  if l.serving && l.chan == ch.val then spareOf (groupOf ch) else workingOf ch

/-- The accumulators advance by FTW every cycle of the control clock (R165). -/
def Dith.advance (cycles : Nat) (d : Dith) : Dith := { d with acc := d.acc + BitVec.ofNat 32 cycles * d.ftw }

/-- `n` terms of the sine series from its term 2k + 1 on, for an angle x, in units of 10⁻²⁰. -/
def sineSeries (x : Int) : Nat → Nat → Int → Int
  | 0, _, _ => 0
  | n + 1, k, term => term + sineSeries x n (k + 1) (-(term * x / 10 ^ 20 * x / 10 ^ 20) / (((2 * k + 2) * (2 * k + 3) : Nat) : Int))

/-- Entry a of the dither table, a at most a quarter of a turn: round(2,047 × sin(2π × a ÷ 1,024)) (R165). -/
def sineQuarter (a : Nat) : Int :=
  let x : Int := ((a * 314159265358979323846 / 512 : Nat) : Int)
  (2047 * sineSeries x 14 0 x + 10 ^ 20 / 2) / 10 ^ 20

/-- Entry a of the table of 1,024 (R165): the other quarters by reflection. -/
def sineEntry (a : Nat) : Int :=
  let r := a % 512
  let v := sineQuarter (if r ≤ 256 then r else 512 - r)
  if a % 1024 < 512 then v else -v

/-- The table value at the accumulator's phase, the top 10 bits, and `turn` entries on. -/
def Dith.sample (turn : Nat) (d : Dith) : Int := sineEntry (d.acc.toNat / 2 ^ 22 + turn)

/-- What a generator adds to the drive code of its targets: (s × AMP) >> 11 (R165). -/
def Dith.onto (code : Int) (d : Dith) : Int := code + (if d.en then d.sample 0 * d.amp.toNat / 2 ^ 11 else 0)

/-- Lock-in detection (R165): the detector samples of successive cycles times the table value at the phase, and a quarter turn on,
summed. -/
def Dith.lockIn : List Int → Dith → Int × Int
  | [], _ => (0, 0)
  | y :: ys, d => let r := Dith.lockIn ys (d.advance 1); (y * d.sample 0 + r.1, y * d.sample 256 + r.2)

/-- The spare of a channel's group is tuned, or waits to take over, for this channel (R144). -/
def swapRunning (x : Tile) (ch : Fin 64) : Bool :=
  let l := x.lasers[spareOf (groupOf ch)]
  l.st == .tuning && l.chan == ch.val

/-- The spare of the channel's group is free (R144). -/
def spareFree (x : Tile) (ch : Fin 64) : Bool :=
  let l := x.lasers[spareOf (groupOf ch)]
  l.st == .warmHold && !l.serving

/-- The spare of a channel's group starts to take it over, and the event is logged (R144 steps 1 and 2). -/
def startSwap (t : Fin 12) (ch : Fin 64) (s : State) : State :=
  ditherFollow t (note (.laserFading t.val ch.val)
    (updTile t (Tile.updLaser (spareOf (groupOf ch)) (fun l => { l with st := .tuning, chan := ch.val, bias := l.set })) s))

/-- A channel goes dark at the tile's next fix point (R149). -/
def requestDark (t : Fin 12) (ch : Fin 64) (s : State) : State :=
  if s.tiles[t].dark.getLsbD ch.val then s else updTile t (Tile.await (.darkChannel ch)) s

/-- A laser in service is declared fading (R143): a working laser is swapped where its spare is free (R144, R148, R149). A dark
channel has no laser in service (R150). -/
def declareFading (t : Fin 12) (l : Fin 72) (s : State) : State :=
  let ch := laserChan s.tiles[t] l
  if s.tiles[t].lasers[l].st == .operating && !s.tiles[t].dark.getLsbD ch.val then
    let s := updTile t (Tile.updLaser l (fun x => { x with st := .fading, declared := true })) s
    if l.val < 64 && spareFree s.tiles[t] ch then startSwap t ch s else s
  else s

/-- The bias criterion of fading (R143), judged wherever the bias may have changed. -/
def judgeBias (t : Fin 12) (l : Fin 72) (s : State) : State :=
  if 680 ≤ s.tiles[t].lasers[l].bias then declareFading t l s else s

/-- MARGIN of LS_LASER from a margin in 0.01 dB (R184). DESIGN CHOICE: it is rounded down to 0.05 dB (assumption 94). -/
def marginCode (m : Nat) : Nat := min 254 (m / 5)

/-- A channel's received-power margin in 0.01 dB (R142): the smallest of its rows in service in the four cores. -/
def channelMargins (x : Tile) (ch : Fin 64) : List Nat :=
  (x.cores.toList.filter (·.st != .retired)).flatMap fun c =>
    ((List.range 67).filter c.inService).filterMap fun r => ((c.row r).db.find? (·.1 == ch.val)).map (·.2)

def channelMargin (x : Tile) (ch : Fin 64) : Option Nat := (channelMargins x ch).min?

/-- Every row in service has been measured on the channel. -/
def channelMeasured (x : Tile) (ch : Fin 64) : Bool :=
  (x.cores.toList.filter (·.st != .retired)).all fun c =>
    ((List.range 67).filter c.inService).all fun r => (c.row r).db.any (·.1 == ch.val)

/-- A channel's margin is judged after a measurement (R143, R149, R150, R177). `fell`: DESIGN CHOICE, the margin still falls where
its 0.05 dB code is below the last one (assumption 94). A spare whose channel has not yet been measured at 1.5 dB or more on
every row since its swap is on a bad path. DESIGN CHOICE: MARGIN is that of the laser that serves the channel, and a laser that
does not keeps its last figure (assumption 116). -/
def judgeMargin (t : Fin 12) (ch : Fin 64) (s : State) : State :=
  match channelMargin s.tiles[t] ch with
  | none => s
  | some m =>
    let l := servingLaser s.tiles[t] ch
    let x := s.tiles[t].lasers[l]
    let fell := decide (marginCode m < x.margin) && x.margin != 0xFF
    let proved := x.proved || (150 ≤ m && channelMeasured s.tiles[t] ch)
    let s := updTile t (Tile.updLaser l (fun x => { x with margin := marginCode m, proved := proved })) s
    if s.tiles[t].dark.getLsbD ch.val then s
    else if s.tiles[t].rli && !x.serving then
      (if m < 150 then updTile t (Tile.await (.rliChannel ch)) s else s)
    else if x.st == .operating && m < 150 then
      (if 64 ≤ l.val && !x.proved then requestDark t ch s else declareFading t l s)
    else if x.st == .fading && !swapRunning s.tiles[t] ch && (m < 50 || (800 ≤ x.bias && fell)) then requestDark t ch s
    else s

/-- The loop's bias step and the bias criterion of fading (R142, R143). -/
def judgePower (t : Fin 12) (l : Fin 72) (ppm : Nat) (s : State) : State :=
  let x := s.tiles[t].lasers[l]
  let s := if ppm < 999000 && x.bias < 800 then updTile t (Tile.await (.bias l true)) s
    else if 1001000 < ppm && 0 < x.bias then updTile t (Tile.await (.bias l false)) s
    else s
  judgeBias t l s

/-! ### Dark channels and swaps, applied -/

/-- The laser of a channel that goes dark (R149): turned off, a faded spare for good (FADED); a spare on a bad path stays in
OPERATING (R150). -/
def Laser.darkened (spare : Bool) (l : Laser) : Laser :=
  if l.st == .failed || l.st == .faded || (spare && !l.declared) then l
  else { l with st := if spare then .faded else .off, bias := 0, serving := false }

/-- A channel goes dark (R149); the pieces that use it leave the tile. -/
def applyDark (t : Fin 12) (ch : Fin 64) (s : State) : State :=
  let l := servingLaser s.tiles[t] ch
  leaveDark t (updTile t (fun x =>
    { Tile.updLaser l (Laser.darkened (64 ≤ l.val)) x with dark := x.dark ||| (1#64 <<< ch.val) }) s)

/-- A fog's cause has cleared: probes may run (R163). -/
def Tile.clearCause (c : FogCause) (x : Tile) : Tile :=
  if x.st == .fogged && x.fogCause == some c then { x with mayProbe := true } else x

/-- A channel has the light it needs: dark, remote, or served by a laser that serves. -/
def channelServed (x : Tile) (ch : Fin 64) : Bool :=
  x.dark.getLsbD ch.val || (x.rli && !x.rliMoved.getLsbD ch.val) || (x.lasers[servingLaser x ch]).serving

def allServed (x : Tile) : Bool := (List.finRange 64).all (channelServed x)

/-- After a swap or a dark channel the tile's light is whole again: probes may run after a laser's failure or a wake (R147,
R163). -/
def Tile.lightBack (x : Tile) : Tile :=
  if x.st == .fogged && (x.fogCause == some .laser || x.fogCause == some .wake) && allServed x then { x with mayProbe := true } else x

/-- The tile is LOCKED and in darkroom. -/
def Tile.isDim (x : Tile) : Bool := x.st == .locked && x.barredBy &&& 3 != 0

/-- A laser takes its channel: emitting, or warm-held while the tile is in darkroom. -/
def Laser.takes (t n : Nat) (dim : Bool) (l : Laser) : Laser :=
  if dim then { l with st := .warmHold, bias := Config.warmHoldBias t n, serving := true }
  else { l with st := .operating, bias := l.set, serving := true }

/-- A swap takes place (R144 steps 6 and 7): the spare serves, the working laser is FADED, or FAILED where it failed. The
channel's margins are the spare's from now on. -/
def applySwap (t : Fin 12) (k : Fin 8) (s : State) : State :=
  match s.tiles[t].swapping.find? (·.1 == k) with
  | none => s
  | some (_, ch) =>
    judgeBias t (spareOf k) (ditherFollow t (updTile t (fun x =>
      let x := Tile.updLaser (spareOf k) (fun l =>
        { l.takes t.val (spareOf k).val x.isDim with margin := 0xFF, declared := false, proved := false }) x
      let x := Tile.updLaser (workingOf ch) (fun l =>
        { l with st := if l.st == .failed then .failed else .faded, bias := 0, serving := false }) x
      let x := mapCores (fun c => { c with rows := vecMap (fun _ r => { r with db := r.db.filter (·.1 != ch.val) }) c.rows }) x
      Tile.lightBack { x with
        swaps := x.swaps + 1, swapping := x.swapping.filter (·.1 != k)
        rliMoved := if x.rli then x.rliMoved ||| (1#64 <<< ch.val) else 0 }) s))

/-- A channel that has lost its laser (R147, R149): its spare takes over where it is free; otherwise the channel goes dark, at
once since the tile is idle. -/
def serveChannel (t : Fin 12) (s : State) (ch : Fin 64) : State :=
  if channelServed s.tiles[t] ch || swapRunning s.tiles[t] ch then updTile t Tile.lightBack s
  else if spareFree s.tiles[t] ch then startSwap t ch s
  else updTile t Tile.lightBack (applyDark t ch s)

/-- A tile that wakes (R381): channels whose lasers failed meanwhile are served, and swaps that its darkness broke off start
again. -/
def careChannels (t : Fin 12) (s : State) : State :=
  (List.finRange 64).foldl (fun s ch =>
    let l := s.tiles[t].lasers[workingOf ch]
    if l.serving && l.declared && spareFree s.tiles[t] ch then startSwap t ch s else serveChannel t s ch) s

/-- A laser fails (R143, R147–R149): the tile fogs where it served a channel, lit or in darkroom, and the channel is served anew.
Where a spare fails while it is tuned for a failed laser, the channel goes dark. -/
def failLaser (t : Fin 12) (l : Fin 72) (s : State) : State :=
  let x := s.tiles[t].lasers[l]
  let ch := laserChan s.tiles[t] l
  let s := updTile t (Tile.updLaser l (fun x => { x with st := .failed, bias := 0, serving := false })) s
  if x.st == .tuning then
    serveChannel t (ditherFollow t (updTile t (fun x => { x with
      swapping := x.swapping.filter (·.1 != groupOf ch), pend := x.pend.filter (· != .swap (groupOf ch)) }) s)) ch
  else if x.serving && x.st != .off then serveChannel t (fogTile t .laser s) ch
  else s

/-! ### Heaters -/

/-- Corner readings of a core in 0.01 °C (R154, R363). -/
def coreTemps (temps : List Int) (c : Nat) : List Int := (List.range 4).map fun i => temps.getD (4 * c + i) 0

/-- The estimate at ring (row, ch), times 66 × 63: the bilinear interpolation of the four corners (R154). -/
def ringTemp (temps : List Int) (c row ch : Nat) : Int :=
  let q := coreTemps temps c
  let v := fun i => q.getD i 0
  ((66 - row : Nat) : Int) * (((63 - ch : Nat) : Int) * v 0 + (ch : Int) * v 1)
    + (row : Int) * (((63 - ch : Nat) : Int) * v 2 + (ch : Int) * v 3)

/-- Segment of the table for an estimate in units of 0.01/4158 °C (R153). -/
def tableSeg (e : Int) : Nat := if e < 4000 * 4158 then 0 else if e < 5500 * 4158 then 1 else if e < 7000 * 4158 then 2 else 3

/-- Q of R153 times 6,237,000 × 64, from currents in 0.125 µA and ΔQ in 10⁻⁶ mA²: I² in (0.125 µA)² is 64 × 10⁶ × I² in mA². -/
def heaterQ (r : Ring) (e : Int) : Int :=
  let k := tableSeg e
  let i := fun (n : Nat) => ((r.table.getD n 0 : Nat) : Int)
  (i k * i k + 64 * r.dq) * 6237000 + (e - (2500 + 1500 * (k : Int)) * 4158) * (i (k + 1) * i (k + 1) - i k * i k)

/-- Largest n up to a bound with n² ≤ v. -/
def isqrtAux (v : Nat) : Nat → Nat → Nat
  | 0, r => r
  | b + 1, r => if (r + 2 ^ b) * (r + 2 ^ b) ≤ v then isqrtAux v b (r + 2 ^ b) else isqrtAux v b r

/-- ⌊√v⌋ of a value below 2¹²⁸. -/
def isqrt (v : Nat) : Nat := isqrtAux v 64 0

/-- √v rounded to nearest; a tie cannot arise. -/
def nearSqrt (v : Nat) : Nat := let r := isqrt v; if r * r + r < v then r + 1 else r

/-- The heater current in units of 1/1,000 of 0.125 µA, that is 0.125 nA. -/
def heaterCurrent (r : Ring) (e : Int) : Nat := nearSqrt ((heaterQ r e).toNat * 1000000 / 6237000)

/-- The DAC code of a current in 0.125 nA, for a step in units of 1/2,000 of that (R156); the codes have 14 bits. -/
def heaterCode (i step : Nat) : Nat := min 16383 ((4000 * i + step) / (2 * step))

/-- A ring's drive after one feedforward update (R156, R158), and whether it is clamped. The LOW step is 122.0703125 nA. At the
update that crosses a range threshold the new range starts at the equivalent code: n of LOW becomes round(n ÷ 4), half up, and m
of HIGH becomes 4m. -/
def driveRing (r : Ring) (e : Int) : Ring × Bool :=
  let i := heaterCurrent r e
  let low := heaterCode i 1953125
  let high := heaterCode i 7812500
  let r1 := if r.high then
      (if i < 13600000 then { r with high := false, code := 4 * high } else { r with code := high })
    else (if 15200000 < i then { r with high := true, code := (low + 2) / 4 } else { r with code := low })
  (r1, 64000000 < i)

/-- Key of a ring in a tile: (core × 67 + row) × 64 + channel. -/
def ringKey (c row ch : Nat) : Nat := (c * 67 + row) * 64 + ch

def Tile.ring (x : Tile) (k : Nat) : Ring := ((x.rings.find? (·.1 == k)).map (·.2)).getD {}

def Tile.updRing (k : Nat) (f : Ring → Ring) (x : Tile) : Tile :=
  { x with rings := (k, f (x.ring k)) :: x.rings.filter (·.1 != k) }

/-! ### Temperature sets -/

/-- Index of a half-row's entry in a temperature set. -/
def halfKey (c row h : Nat) : Nat := (c * 67 + row) * 2 + h

def TempSet.entry (ts : TempSet) (k : Nat) : Half := ((ts.entries.find? (·.1 == k)).map (·.2)).getD {}

def TempSet.put (k : Nat) (h : Half) (ts : TempSet) : TempSet := { entries := (k, h) :: ts.entries.filter (·.1 != k) }

/-- a ÷ b rounded to nearest, ties to even (b > 0). -/
def divEven (a : Int) (b : Nat) : Int :=
  let q := a / (b : Int)
  let r := a - q * b
  if 2 * r < b then q else if 2 * r > b then q + 1 else if q % 2 = 0 then q else q + 1

/-- Linear interpolation between two values at weight w of d (R198). -/
def interp (a b w : Int) (d : Nat) : Int := divEven (a * ((d : Int) - w) + b * w) d

/-- The entry between two sets, field by field (R198). -/
def interpHalf (a b : Half) (w : Int) (d : Nat) : Half :=
  { k := (interp a.k b.k w d).toNat, o := interp a.o b.o w d
    delta := (List.range 33).map fun i => interp (a.delta.getD i 0) (b.delta.getD i 0) w d }

/-- The entry in force that a seeding gives a half-row (R198): between the sets that bracket the core's mean temperature,
four readings summed; beyond the outer sets, the outer set. -/
def seedHalf (cal : Cal) (sum4 : Int) (k : Nat) : Half :=
  let set := fun (j : Nat) => if h : j < 5 then cal.sets[j].entry k else {}
  if sum4 ≤ 4 * 2500 then set 0
  else if 4 * 8500 ≤ sum4 then set 4
  else
    let j := ((sum4 - 4 * 2500) / 6000).toNat
    interpHalf (set j) (set (j + 1)) (sum4 - 4 * 2500 - 6000 * (j : Int)) 6000

/-- A tile seeds its dodge and burn entries (R198). -/
def seedTile (x : Tile) : Tile :=
  { x with cores := vecMap (fun c k =>
      let sum4 := (coreTemps x.temps c).foldl (· + ·) 0
      { k with rows := vecMap (fun r row =>
          { row with a := seedHalf x.cal sum4 (halfKey c r 0), b := seedHalf x.cal sum4 (halfKey c r 1) }) k.rows }) x.cores }

/-! ### Seams -/

/-- The port that a path's end is, where it is one. -/
def endPort (e : Fin 6) : Option (Fin 4) := if h : e.val < 4 then some ⟨e.val, h⟩ else none

/-- The port that a through-path of the matrix joins with this one (R174). -/
def Tile.through (x : Tile) (p : Fin 4) : Option (Fin 4) :=
  x.paths.findSome? fun q => if q.1.val == p.val then endPort q.2 else if q.2.val == p.val then endPort q.1 else none

/-- The port whose electrical end the light of a port reaches: through-paths pass it on (R174). The fuel is the number of links.
-/
def farEnd (s : State) : Nat → Fin 12 → Fin 4 → Option (Fin 12 × Fin 4)
  | 0, _, _ => none
  | k + 1, t, p =>
    match partner t p with
    | none => none
    | some (u, q) =>
      match s.tiles[u].through q with
      | none => some (u, q)
      | some r => farEnd s k u r

/-- Intermediate tiles in a row that light leaving a port crosses. -/
def throughRun (s : State) : Nat → Fin 12 → Fin 4 → Nat
  | 0, _, _ => 0
  | k + 1, t, p =>
    match partner t p with
    | none => 0
    | some (u, q) =>
      match s.tiles[u].through q with
      | none => 0
      | some r => 1 + throughRun s k u r

/-- Lane groups of a through-path: those of the narrower of its two ports (R174). -/
def Tile.pathWidth (x : Tile) (p q : Fin 4) : Nat := min (groupCount (x.seams[p]).groups) (groupCount (x.seams[q]).groups)

/-- A flit is sent through a port: numbered, and kept until it is acknowledged (R170). -/
def Seam.send (f : FlitRec) (m : Seam) : Seam :=
  { m with txSeq := m.txSeq + 1, unacked := m.unacked ++ [{ f with seqNo := m.txSeq, tries := 0 }] }

/-- A port carries new flits: ACTIVE, not halted, room in its replay buffer of 256 flits, and not part of a through-path. -/
def Tile.carries (x : Tile) (p : Fin 4) : Bool :=
  let m := x.seams[p]
  m.st == .active && !m.halted && m.unacked.length < 256 && (x.through p).isNone

/-- A flit that a port could not deliver is resent from its source (R173): over another seam of the tile, or over hub SRAM. Which
seam is the Tailor's choice: the model takes the lowest-numbered (assumption 95). -/
def resend (t : Fin 12) (s : State) (f : FlitRec) : State :=
  match (List.finRange 4).find? fun p => s.tiles[t].carries p with
  | some p => updTile t (Tile.updSeam p (Seam.send f)) s
  | none => updTile t (fun x => { x with resent := x.resent ++ [f] }) s

/-- A port goes DOWN (R170, R171, R173): its unacknowledged flits are resent over another route. -/
def portDown (t : Fin 12) (p : Fin 4) (s : State) : State :=
  let fl := (s.tiles[t].seams[p]).unacked
  fl.foldl (resend t)
    (updTile t (Tile.updSeam p (fun m => { m with st := .down, groups := 0, drop := 0, halted := false, unacked := [] })) s)

/-- Both ends of the link go DOWN. -/
def linkDown (t : Fin 12) (p : Fin 4) (s : State) : State :=
  match partner t p with
  | some (u, q) => portDown u q (portDown t p s)
  | none => s

/-- The lane groups that a training keeps (R172): the lowest-numbered group that fails is dropped and training repeats. What fails
is the physics' (assumption 90). -/
def trainGroups : Nat → Nat → BitVec 4 → BitVec 4
  | 0, _, g => g
  | k + 1, d, g =>
    match (List.range 4).find? fun i => g.getLsbD i && (Config.trainFails d).getLsbD i with
    | none => g
    | some i => trainGroups k (d + 1) (g &&& ~~~(1#4 <<< i))

/-- Groups that training dropped are logged (R172). -/
def noteTraining (t : Fin 12) (p : Fin 4) (lost : BitVec 4) (s : State) : State :=
  ((List.range 4).filter fun i => lost.getLsbD i).foldl (fun s i => note (.seamTraining t.val p.val i) s) s

/-- Lane groups that a port has dropped are counted (R181). -/
def Seam.lose (lost : BitVec 4) (m : Seam) : Seam := { m with drops := m.drops + BitVec.ofNat 32 (groupCount lost) }

/-- The same at both ends of a link. -/
def linkLose (t : Fin 12) (p : Fin 4) (lost : BitVec 4) (s : State) : State :=
  match partner t p with
  | some (u, q) => updTile u (Tile.updSeam q (Seam.lose lost)) (updTile t (Tile.updSeam p (Seam.lose lost)) s)
  | none => s

/-- One end of a retrain (R172): the width becomes what was kept, unacknowledged flits are replayed. -/
def Seam.retrained (kept : BitVec 4) (m : Seam) : Seam :=
  { m with
    st := .active, groups := kept, drop := 0, halted := false, unacked := m.unacked.map fun f => { f with tries := 0 }
    replay := m.replay + BitVec.ofNat 32 m.unacked.length }

/-- The marks of both ends of a link (R171). -/
def marked (s : State) (t : Fin 12) (p : Fin 4) : BitVec 4 :=
  (s.tiles[t].seams[p]).drop ||| (match partner t p with | some (u, q) => (s.tiles[u].seams[q]).drop | none => 0)

/-- A retrain of a link at a fix point of both tiles (R172): the marked groups go, the rest are trained; a drop below 8 lanes
takes the port DOWN (R171). -/
def retrainLink (t : Fin 12) (p : Fin 4) (s : State) : State :=
  match partner t p with
  | none => s
  | some (u, q) =>
    let want := (s.tiles[t].seams[p]).groups &&& ~~~marked s t p
    let kept := trainGroups 4 s.free want
    if (s.tiles[t].seams[p]).st == .down then s
    else
      let had := (s.tiles[t].seams[p]).groups
      let s := linkLose t p (had &&& ~~~kept) (noteTraining t p (want &&& ~~~kept) { s with free := s.free + 4 })
      if groupCount kept < 2 then linkDown t p s
      else updTile u (Tile.updSeam q (Seam.retrained kept)) (updTile t (Tile.updSeam p (Seam.retrained kept)) s)

/-- A port is to retrain: the change waits at both ends (R172). -/
def requestRetrain (t : Fin 12) (p : Fin 4) (s : State) : State :=
  match partner t p with
  | none => s
  | some (u, q) => updTile u (Tile.await (.retrain q)) (updTile t (Tile.await (.retrain p)) s)

/-- A port trained from DOWN. DESIGN CHOICE: numbering starts again at 0 and the replay buffer is empty (assumption 96). -/
def Seam.fresh (kept : BitVec 4) (m : Seam) : Seam :=
  { m with st := .active, groups := kept, drop := 0, halted := false, txSeq := 0, rxSeq := 0, unacked := [], tagFails := 0 }

/-- A port is trained from DOWN at full width with its partner (R171), where both tiles have their supply; groups that fail the
training are dropped (R172). -/
def trainLink (t : Fin 12) (p : Fin 4) (s : State) : State :=
  match partner t p with
  | none => s
  | some (u, q) =>
    if s.tiles[u].st == .dark || s.tiles[u].st == .quarantined then s
    else
      let kept := trainGroups 4 s.free 0xF
      let s := linkLose t p (~~~kept) (noteTraining t p (~~~kept) { s with free := s.free + 4 })
      if groupCount kept < 2 then linkDown t p s
      else updTile u (Tile.updSeam q (Seam.fresh kept)) (updTile t (Tile.updSeam p (Seam.fresh kept)) s)

/-- The DOWN ports of a tile are trained (R171). -/
def trainDown (t : Fin 12) (s : State) : State :=
  (List.finRange 4).foldl (fun s p => if s.tiles[t].seams[p].st == .down then trainLink t p s else s) s

/-- The tile's ports go DOWN with its supply, at both ends of each link (R157, R171, R186). -/
def tileSeamsDown (t : Fin 12) (s : State) : State :=
  (List.finRange 4).foldl (fun s p => if s.tiles[t].seams[p].st == .active then linkDown t p s else s) s

/-- A flit on a path of the matrix is unacknowledged (R174): at a port of the tile, or at the far end of a through-path. -/
def pathBusy (s : State) (t : Fin 12) (paths : List (Fin 6 × Fin 6)) : Bool :=
  (paths.flatMap fun q => [q.1, q.2]).any fun e =>
    match endPort e with
    | none => false
    | some p =>
      !((s.tiles[t].seams[p]).unacked).isEmpty
        || ((s.tiles[t].through p).isSome && (match farEnd s 3 t p with
            | some (u, q) => !((s.tiles[u].seams[q]).unacked).isEmpty
            | none => false))

/-! ### The walk of running recalibration -/

/-- The core's basting row is free or stands in for its walk (R209). -/
def Core.canWalk (c : Core) : Bool :=
  c.st != .retired && !c.sweep && !(c.row 66).quar && c.faulty.isEmpty && (match c.baste with | some (_, true) => false | _ => true)

/-- The end of the open slot (R206, R207, R209): the row returns with the entry it holds, or stays substituted. -/
def Core.closeSlot (c : Core) : Core :=
  let d := c.settleSlot
  let c := { d with accelLeft := d.accelLeft - 1 }
  match c.walk with
  | none => c
  | some r => { Core.updRow r (fun x => { x with meas := [] }) c with walk := none, centring := false, baste := none }

/-- The next slot opens (R206): row 66 stands in for the row, or is measured itself. -/
def Core.openSlot (c : Core) : Core :=
  let r := c.walkNext
  { Core.updRow r (fun x => { x with meas := [] }) c with
    walk := some r, walkNext := r + 1, centring := true
    baste := if r = 66 then none else some (r, false) }

/-- A running-recalibration move (R206, R210): one slot ends and the next opens. A load that was under way has ended (R202). -/
def Core.recalMove (c : Core) : Core :=
  if c.st == .retired || c.sweep || !c.faulty.isEmpty then c
  else
    let d := (if c.walk.isSome then c.closeSlot else c)
    Core.reload c (if d.canWalk then d.openSlot else d)

/-! ### Changes at a fix point -/

/-- Order of changes at one fix point (R205). DESIGN CHOICE: a row that returns under RESTORE comes first, with the substitutions;
a scrub's darkroom comes last (assumption 97). -/
def Change.order : Change → Nat
  | .restoreRow _ _ => 1
  | .darkChannel _ => 2
  | .swap _ | .leaveRli | .rliChannel _ => 3
  | .retrain _ => 4
  | .reconfigure _ => 5
  | .recalMove _ => 6
  | .seed => 7
  | .bias _ _ => 8
  | .takeover => 9
  | .allOff _ | .darkroom => 10

/-- A change before those of a later kind, after those of its own. -/
def insertChange (c : Change) : List Change → List Change
  | [] => [c]
  | d :: ds => if c.order ≤ d.order then c :: d :: ds else d :: insertChange c ds

def sortChanges (l : List Change) : List Change := l.foldr insertChange []

/-- The return from remote light (R176, R178): every channel without a spare goes to its working laser, lit where the tile has
light. -/
def leaveRemote (t : Fin 12) (x : Tile) : Tile :=
  let y := { x with
    rli := false, rliMoved := 0
    lasers := vecMap (fun n l =>
      let taken := if h : n < 64 then 64 ≤ (servingLaser x ⟨n, h⟩).val else true
      if n < 64 && !taken && l.st != .failed && l.st != .faded && !x.dark.getLsbD n then { l with serving := true } else l) x.lasers }
  if (x.st == .locked && !x.isDim) || x.st == .fogged then y.lit t.val else y

/-- The return path to the shelf closes (R176, R178). -/
def closeReturn (s : State) : State := { s with mod := { s.mod with rliReturn := false } }

/-- PT0 returns to its own lasers; a channel whose laser has failed meanwhile fogs it, and is served anew (R147, R176, R178). -/
def leaveShelf (t : Fin 12) (s : State) : State :=
  let s := closeReturn (updTile t (leaveRemote t) s)
  if s.tiles[t].st != .locked && s.tiles[t].st != .fogged then s
  else careChannels t (if allServed s.tiles[t] then s else fogTile t .laser s)

/-- A remote channel moves to its own warm-held working laser (R177); where that has failed, the group's spare backs it. -/
def applyRliChannel (t : Fin 12) (ch : Fin 64) (s : State) : State :=
  let l := s.tiles[t].lasers[workingOf ch]
  if l.st == .warmHold && !l.serving then
    updTile t (fun x =>
      { Tile.updLaser (workingOf ch) (fun l => l.takes t.val ch.val x.isDim) x with rliMoved := x.rliMoved ||| (1#64 <<< ch.val) }) s
  else if l.serving || s.tiles[t].dark.getLsbD ch.val || swapRunning s.tiles[t] ch then s
  else if spareFree s.tiles[t] ch then startSwap t ch s
  else applyDark t ch s

/-- A row that passed its restoration returns to service with its new entry (R211): the basting row is free again. -/
def Core.restoreRow (r : Fin 67) (c : Core) : Core :=
  Core.reload c { Core.updRow r (fun x => { x with quar := false, restoreDue := false, meas := [] }) c with
    baste := match c.baste with | some (x, q) => if x = r then none else some (x, q) | none => none }

/-- One change takes effect. A retrain waits until the other end's tile has reached its fix point as well (R172). -/
def applyChange (t : Fin 12) (s : State) (c : Change) : State :=
  match c with
  | .restoreRow c r => updTile t (Tile.updCore c (Core.restoreRow r)) s
  | .darkChannel ch => applyDark t ch s
  | .swap k => applySwap t k s
  | .retrain p =>
    (match partner t p with
     | some (u, q) => if s.tiles[u].pend.contains (.retrain q) then s else retrainLink t p s
     | none => s)
  | .reconfigure paths =>
    if pathBusy s t (paths ++ s.tiles[t].paths) then updTile t (Tile.await (.reconfigure paths)) s
    else updTile t (fun x => { x with paths := paths, pathsWant := none }) s
  | .recalMove c => ditherFollow t (updTile t (fun x => Tile.slotEnded x (Tile.updCore c Core.recalMove x)) s)
  | .seed => updTile t seedTile s
  | .bias l up =>
    judgeBias t l (updTile t (Tile.updLaser l (fun x =>
      if x.st == .operating || x.st == .fading then
        let b := if up then min 800 (x.bias + 1) else x.bias - 1
        { x with bias := b, set := b }
      else x)) s)
  | .takeover => s
  | .leaveRli => leaveShelf t { s with mod := { s.mod with rliStatus := 0 } }
  | .rliChannel ch => applyRliChannel t ch s
  | .allOff n => updTile t (mapCores (allOffCore s n)) s
  | .darkroom => updTile t (Tile.darkroom 2 t.val) s

/-- A tile fix point (R202, R205): substitutions first, since it is a core fix point of each core too, then the changes in
order. -/
def fixPoint (t : Fin 12) (s : State) : State :=
  let s := (List.finRange 4).foldl (fun s c => coreFixPoint (coreNum t c) s) s
  let l := sortChanges s.tiles[t].pend
  l.foldl (applyChange t) (updTile t (fun x => { x with pend := [] }) s)

/-- The tile controller makes a fix point: counted (R202, R216). -/
def madeFixPoint (t : Fin 12) (s : State) : State :=
  fixPoint t (updTile t (fun x => { x with cal := { x.cal with madeFp := x.cal.madeFp + 1 } }) s)

/-- TILE_FIX_POINT (R202). -/
def execTileFixPoint (tile : Fin 12) (s : State) : Out := done s (fixPoint tile s)

/-- The change waits at most 10 ms (R204). -/
def Change.limited : Change → Bool
  | .restoreRow _ _ | .darkChannel _ | .recalMove _ | .seed | .leaveRli | .rliChannel _ => true
  | _ => false

/-- FIX_POINT_LIMIT_EXPIRY (R204): a change has waited its limit, and the tile controller makes a fix point. -/
def execFixPointLimitExpiry (tile : Fin 12) (s : State) : Out :=
  done s (if s.tiles[tile].pend.any Change.limited then madeFixPoint tile s else s)

end Sys2Proof.Machine
end

