-- ==== Sys2Proof/Machine/Events.lean ====
section
/-! DEFINITION. Module events that several commands share: FAULT (R469, R470), SAFELIGHT (R464–R468), steps 1–8 of a tile's
calibration (R190–R193), transitions of the power state (R381–R389), module resets and start-up (R321, R325, R377, R487). -/
namespace Sys2Proof.Machine

/-! ### FAULT -/

/-- NOP and QUERY_STATUS complete normally in FAULT (R470). -/
def faultKeeps (e : Entry) : Bool := e.op == 0x00 || e.op == 0x0D

/-- The command is a work item in write-out. -/
def writesOut (s : State) (q : Nat) (e : Entry) : Bool :=
  match s.work? q e.seq with
  | some w => w.inWriteOut
  | none => false

/-- A work item that is cut off in its write-out faults its context and ends with CONTEXT_FAULTED, for its outputs are written in
part (R108, R462). -/
def faultWriteOut (q : Nat) (s : State) (e : Entry) : State :=
  match s.work? q e.seq with
  | some w => failWork q e.seq .contextFaulted 0 (updCtx w.ctx (fun c => if c.st == .active then { c with st := .faulted } else c) s)
  | none => s

/-- Every admitted command that has not completed ends with MODULE_FAULT (R470), but a work item in write-out, which no error
status may end (R108; assumption 98). -/
def endForFault (s : State) : State :=
  let s := s.queues.foldl (fun s q => q.entries.foldl (fun s e =>
    if e.st == .finished || faultKeeps e || writesOut s q.num e then s else failWork q.num e.seq .moduleFault 0 s) s) s
  s.queues.foldl (fun s q => q.entries.foldl (fun s e =>
    if e.st != .finished && writesOut s q.num e then faultWriteOut q.num s e else s) s) s

/-- The Shuttles that can run clear SLEEPING and CQ_WAIT on their queues (R470). -/
def wakeQueues (s : State) : State :=
  (s.queues.filter fun q => shuttleRuns s q.num && (q.sleeping || q.cqWait)).foldl (fun s q =>
    writeSlot q.num (updQueue q.num (fun q => { q with sleeping := false, reread := false, cqWait := false, cqReread := false }) s)) s

/-- No CALIBRATE is in progress: no accelerated walk, no restoration (R217). -/
def endCalibBits (s : State) : State :=
  mapTiles (fun _ x => { mapCores (fun c => { c with accelLeft := 0, rows := vecMap (fun _ r => { r with restoreDue := false }) c.rows }) x with
    cal := { x.cal with restore := false, accel := false } }) s

/-- Runs of CALIBRATE, SELF_TEST and CANCEL end; scrubs go on without a command. -/
def dropRuns (s : State) : State :=
  endCalibBits { s with calib := none, selfTest := none, cancelling := none, scrubs := s.scrubs.map fun x => { x with seq := none } }

/-- Entering OFF stops admission and cancels every function's work; the records are still written (R388). A work item in
write-out goes on (R356; assumption 98). -/
def cancelForOff (s : State) : State :=
  s.queues.foldl (fun s q => cancelItems q.num q.entries s) (dropRuns s)

/-- A transition begins. -/
def beginMove (p : PState) (s : State) : State :=
  let s := { s with power := { s.power with moving := some p } }
  if p == .off then cancelForOff s else s

/-- A resting state is requested (R383, R386). -/
def requestPower (p : PState) (s : State) : State :=
  if !s.mod.served && s.mod.mstate != .fault then { s with power := { s.power with pending := some p } }
  else if s.power.moving.isSome then { s with power := { s.power with pending := some p } }
  else if p == s.power.current then s
  else beginMove p s

/-- The pending target, if any, is moved to; one equal to the state just reached is dropped (R386). -/
def nextMove (s : State) : State :=
  match s.power.pending with
  | none => s
  | some p =>
    let s := { s with power := { s.power with pending := none } }
    if p == s.power.current then s else beginMove p s

/-- The module enters FAULT (R470): GLB_FAULT, tiles DARK, commands ended. It keeps the first cause until a module reset. -/
def enterFault (cause inst : Nat) (s : State) : State :=
  if s.mod.mstate == .fault then s
  else
    let s := note (.moduleFault cause) { s with mod := { s.mod with mstate := .fault, faultCause := cause, faultInst := inst, slExit := false } }
    let s := mapTiles (fun _ x => { tileDark x with cal := { x.cal with step := 0 } }) s
    let s := wakeQueues (endForFault (dropRuns s))
    -- a power request that waited for CALIBRATING to end is acted on (R383)
    if s.mod.served then s else nextMove s

/-! ### Calibration of a tile -/

/-- A core as step 1 leaves it (R193): no quarantine, substitution or retirement; its weights are rewritten. -/
def Core.fresh (c : Core) : Core :=
  { c with
    st := .dark, baste := none, block := none, gateShut := false, faulty := [], replayDue := false
    walk := none, walkNext := 0, sweep := false, vacate := false, centring := false, slotBad := false, accelLeft := 0
    checks := [], operands := [], drive := 0, took := none, sweepBad := []
    rows := vecMap (fun _ r => { r with quar := false, meas := [], db := [], restoreDue := false }) c.rows }

/-- The changes that wait whatever becomes of the tile's light: seams, paths, a takeover, a scrub (R25). -/
def Change.lasting : Change → Bool
  | .retrain _ | .reconfigure _ | .takeover | .allOff _ | .darkroom => true
  | _ => false

/-- Whether a calibration of the tile takes the shelf's light: RLI mode was entered, and is not to be left (R176). -/
def Tile.staysRemote (x : Tile) : Bool := x.rli && !x.pend.contains .leaveRli

/-- A calibration of PT0 opens the return path where it takes the shelf's light, and closes it where RLI mode was to be left
(R176, R185). -/
def calibReturn (t : Fin 12) (s : State) : State :=
  if t != 0 || !s.tiles[t].rli then s
  else if s.tiles[t].staysRemote then { s with mod := { s.mod with rliReturn := true, rliStatus := 1 } }
  else { s with mod := { s.mod with rliReturn := false, rliStatus := 0 } }

/-- Steps 1–8 of R190 start afresh on a tile (R161, R193). Passes on it are over: its pieces, where it holds any, go. -/
def startCalib (t : Fin 12) (s : State) : State :=
  let s := calibReturn t (discardPasses (onTile t) s)
  ditherFollow t (loseTile t (updTile t (fun x =>
    { mapCores (fun c => Core.unbar 1 false c.fresh) (lasersOff x) with
      st := .threading, fogCause := none, mayProbe := false, probeFails := 0, waitRetry := false, testing := false
      dark := 0, swapping := [], pend := x.pend.filter Change.lasting, suspect := [], rest := .run, slReturn := false
      outOfService := false, rli := x.staysRemote, rliMoved := 0
      lasers := vecMap (fun n l => { l with
        st := .off, bias := 0, chan := if n < 64 then n else 8 * (n - 64), serving := false, declared := false, proved := false }) x.lasers
      cal := { x.cal with step := 1, probed := false, accel := false } }) s))

/-- Retires nothing by itself: rows found bad outside service are quarantined under R50 and R51 without a load. -/
def Core.calLose (rows : List (Fin 67)) (c : Core) : Core :=
  let new := rows.eraseDups.filter fun r => !(c.row r.val).quar
  let d := new.foldl (fun c r => Core.loseRow r c) c
  { d with wloads := c.wloads, st := if d.st == .retired then .retired else c.st }

/-- Rows of a tile under calibration leave service. -/
def Tile.calLose (bad : List (Fin 4 × Fin 67)) (x : Tile) : Tile :=
  { x with cores := vecMap (fun c k => Core.calLose ((bad.filter (·.1.val == c)).map (·.2)) k) x.cores }

/-- The same for rows quarantined by calibration, which CAL_QUAR counts (R216; assumption 99). -/
def Tile.calQuarantine (bad : List (Fin 4 × Fin 67)) (x : Tile) : Tile :=
  let new := bad.eraseDups.filter fun b => !((x.cores[b.1]).row b.2.val).quar
  let y := x.calLose bad
  { y with cal := { y.cal with quar := y.cal.quar + BitVec.ofNat 32 new.length } }

/-- All four cores are retired (R51, R152). -/
def Tile.allRetired (x : Tile) : Bool := x.cores.toList.all (·.st == .retired)

/-- CALIBRATE completes once no action of it runs (R211, R213). -/
def calibrateEnd (s : State) : State :=
  match s.calib with
  | none => s
  | some c =>
    if c.busy = 0 then
      (mapTiles (fun _ x => { x with cal := { x.cal with restore := false } })
        { c.by_.foldl (fun s b => finish b.1 b.2 .ok c.skipped.toNat s) s with calib := none })
    else s

/-- A tile's action of a CALIBRATE has ended. -/
def calibrateTileDone (t : Fin 12) (s : State) : State :=
  calibrateEnd { s with calib := s.calib.map fun c => { c with busy := c.busy &&& ~~~(1#12 <<< t.val) } }

/-! ### Power transitions -/

/-- The tile has work in progress (R383, R385): a work item of a pattern that stands on it, a calibration or a test. -/
def tileBusy (s : State) (t : Fin 12) : Bool :=
  s.tiles[t].st == .threading || s.tiles[t].testing || (match s.calib with | some c => c.busy.getLsbD t.val | none => false)
    || s.works.any fun w => !itemEnded s w.q w.seq && s.pats.any fun p => p.ctx == w.ctx && p.handle == w.pat && p.onTile t.val

/-- A domain holds work, or a transfer targets it (R385). -/
def domainBusy (s : State) : Domain → Bool
  | .tile t => tileBusy s t || s.scrubs.any fun x => x.kind < 2 && 256 ≤ x.unit && trayTile x.unit == t.val
  | .hub h => (s.queues.any fun q => q.num % 4 == h.val && !q.entries.isEmpty)
      || (List.finRange 12).any (fun t => t.val % 4 == h.val && tileBusy s t)
      || s.scrubs.any fun x => x.kind < 2 && (if x.unit < 256 then x.unit / 64 else trayTile x.unit % 4) == h.val
  | .hbm h => s.reqs.any (fun r => r.target == 1 && r.addr / bolt0 / 216 == h.val) || !s.works.isEmpty
      || s.scrubs.any fun x => x.kind == 2 && x.unit / 216 == h.val
  | .lpddr => s.reqs.any (·.target == 2) || !s.works.isEmpty

/-- A Shuttle that powers down sets SLEEPING on its queues (R382). -/
def sleepQueues (h : Nat) (s : State) : State :=
  (s.queues.filter fun q => q.num % 4 == h && !q.sleeping && !q.stopped).foldl (fun s q =>
    writeSlot q.num (updQueue q.num (fun q => { q with sleeping := true, reread := true }) s)) s

/-- A tile takes the resting state (R382): darkroom, DARK with its tables, or off. A QUARANTINED tile is DARK in a power state too
(R161). -/
def Tile.toRest (p : PState) (t : Nat) (x : Tile) : Tile :=
  match p with
  | .idle => if x.st == .quarantined || x.st == .dark then { x with rest := .idle } else { x.darkroom 1 t with rest := .idle }
  | .sleep => { mapCores (Core.unbar 1 false) (tileDark x) with rest := .sleep }
  | .deep => { mapCores (Core.unbar 1 false) (mapCores Core.unwritten (tileDark x)) with rest := .deep, heated := false }
  | _ => x

/-- A domain takes the resting state. -/
def restDomain (p : PState) (d : Domain) (s : State) : State :=
  let s := { s with power := { s.power with draining := s.power.draining.filter (· != d), retrying := s.power.retrying.filter (· != d) } }
  match d with
  | .tile t =>
    let s := updTile t (Tile.toRest p t.val) (if p == .deep then tileSeamsDown t s else s)
    let s := ditherFollow t (if p == .sleep || p == .deep then restPieces t s else s)
    if p == .deep then { s with power := { s.power with tilesUp := s.power.tilesUp &&& ~~~(1#12 <<< t.val) } } else s
  | .hub h =>
    if p == .sleep || p == .deep then
      let s := sleepQueues h.val s
      { s with power := { s.power with
          hubSleep := s.power.hubSleep ||| (1#4 <<< h.val)
          hubsUp := if p == .deep then s.power.hubsUp &&& ~~~(1#4 <<< h.val) else s.power.hubsUp } }
    else s
  | .hbm h =>
    if p == .sleep || p == .deep then { s with power := { s.power with hbmUp := s.power.hbmUp &&& ~~~(1#4 <<< h.val) } } else s
  | .lpddr => if p == .sleep || p == .deep then { s with power := { s.power with lpUp := false } } else s

/-- A domain is asked to take the resting state: it drains first where it is busy (R385). -/
def settleDomain (p : PState) (s : State) (d : Domain) : State :=
  if domainBusy s d then
    { s with power := { s.power with
        draining := if s.power.draining.contains d then s.power.draining else s.power.draining ++ [d]
        retrying := if s.power.retrying.contains d then s.power.retrying else s.power.retrying ++ [d] } }
  else restDomain p d s

/-- A tile wakes (R381, R384, R387): from IDLE its lasers return; from SLEEP and DEEP it passes FOGGED, and its probes
follow. Tiles stay DARK in SAFELIGHT (R389). -/
def Tile.wake (t : Nat) (x : Tile) : Tile :=
  match x.rest with
  | .idle => { x.bright 1 t with rest := .run }
  | .sleep | .deep =>
    if x.outOfService then { x with rest := .run, st := .quarantined }
    else if x.st == .dark && !x.safelight then
      { mapCores (fun c => { c with drive := 0 }) (x.lit t) with
        rest := .run, st := .fogged, fogCause := some .wake, mayProbe := allServed x, probeFails := 0, waitRetry := false
        heated := true }
    else { x with rest := .run }
  | _ => x

/-- A tile wakes: its channels are served again, and a RETHREAD that waited for it starts (R211). -/
def wakeTile (t : Fin 12) (s : State) : State :=
  let s := updTile t (Tile.wake t.val) s
  let s := if s.tiles[t].st == .fogged && s.tiles[t].fogCause == some .wake then careChannels t s else s
  match s.calib with
  | some c =>
    if c.waiting.getLsbD t.val && !s.tiles[t].testing && !testClaims s t then
      startCalib t { s with calib := some { c with waiting := c.waiting &&& ~~~(1#12 <<< t.val) } }
    else s
  | none => s

/-- A domain wakes. A tile image that differs at a wake from DEEP leaves its tile DARK and withheld (R410). -/
def wakeDomain (d : Domain) (imageOk : Bool) (s : State) : State :=
  let s := { s with power := { s.power with draining := s.power.draining.filter (· != d) } }
  match d with
  | .tile t =>
    if s.mod.mstate == .safelight then s
    else if s.tiles[t].rest == .deep then
      (if imageOk then
        let s := { s with power := { s.power with tilesUp := s.power.tilesUp ||| (1#12 <<< t.val) } }
        trainDown t (wakeTile t s)
       else note (.imageFail t.val) (updTile t (fun x => { x with rest := .run, imageBad := true }) s))
    else wakeTile t s
  | .hub h =>
    { s with power := { s.power with hubsUp := s.power.hubsUp ||| (1#4 <<< h.val), hubSleep := s.power.hubSleep &&& ~~~(1#4 <<< h.val) } }
  | .hbm h => { s with power := { s.power with hbmUp := s.power.hbmUp ||| (1#4 <<< h.val) } }
  | .lpddr => { s with power := { s.power with lpUp := true } }

/-- A domain is at rest or down. -/
def domainAsleep (s : State) : Domain → Bool
  | .tile t => s.tiles[t].rest != .run
  | .hub h => s.power.hubSleep.getLsbD h.val || !s.power.hubsUp.getLsbD h.val
  | .hbm h => !s.power.hbmUp.getLsbD h.val
  | .lpddr => !s.power.lpUp

/-- Every domain that has power states (R382). -/
def allDomains : List Domain :=
  (List.finRange 4).map .hub ++ (List.finRange 4).map .hbm ++ [.lpddr] ++ (List.finRange 12).map .tile

/-! ### READY and SAFELIGHT -/

/-- The module enters READY (R192, R235, R468): a reserve is chosen and the pieces are placed. -/
def enterReady (s : State) : State :=
  placeAll (tailorFollow { s with mod := { s.mod with mstate := .ready, served := true, wasReady := true, slCause := 0, slExit := false } })

def causeBit (c : Nat) : BitVec 4 := 1#4 <<< c

/-- Group sums of an exact piece are in progress: a group of 128 has had its first pass (R465 step 4). -/
def groupOpen (f : List Byte) (w : Work) : Bool :=
  (List.range (nPieces f)).any fun p => halfOpen f w p && !numAnalog (pieceNum f p)

/-- Work items at safelight entry (R465 steps 3 and 4): those with an analog piece end unless in write-out; the group sums
of the others are recomputed, with REPLAYED. -/
def safelightWorks (s : State) : State :=
  s.works.foldl (fun s w =>
    match s.pat? w.ctx w.pat with
    | none => s
    | some x =>
      if w.inWriteOut then s
      else if patAnalog x.file then failWork w.q w.seq .modeRejected 0 s
      else updWork w.q w.seq (fun w =>
        let open_ := groupOpen x.file w
        { (List.range (nPieces x.file)).foldl (fun w p => Work.rewind x.file p w) w with
          flags := { w.flags with replayed := w.flags.replayed || open_ } }) s) s

/-- Tiles DARK, rails off (R465 step 5, R503). -/
def tilesOff (s : State) : State :=
  let s := mapTiles (fun _ x => { (mapCores Core.unwritten (tileDark x)).seamsDown with
    cal := { x.cal with step := 0 }, pend := x.pend.filter Change.lasting, rest := .run, heated := false }) s
  { s with power := { s.power with tilesUp := 0, draining := s.power.draining.filter fun d => match d with | .tile _ => false | _ => true } }

/-- CALIBRATE and SELF_TEST end as in SAFELIGHT (R466): OK, every tile of theirs not yet done named as skipped. -/
def endOptical (s : State) : State :=
  let s := match s.calib with
    | some c =>
      endCalibBits { c.by_.foldl (fun (s : State) (b : Nat × Nat) => finish b.1 b.2 .ok (c.skipped ||| c.busy).toNat s) s with calib := none }
    | none => s
  match s.selfTest with
  | some x => { finish x.q x.seq .ok (x.tested.toNat + x.failed.toNat * 2 ^ 16) s with selfTest := none }
  | none => s

/-- A safelight cause is recorded (R464): entry (R465), a further cause, or the end of a running exit (R468). Causes 0
cooling fault, 1 tile loss, 2 laser supply, 3 command. In POWERUP and FAULT there is no optical service to leave. -/
def enterSafelight (c : Nat) (s : State) : State :=
  match s.mod.mstate with
  | .powerup | .fault => s
  | .safelight =>
    let s := { s with mod := { s.mod with slCause := s.mod.slCause ||| causeBit c } }
    if s.mod.slExit then tilesOff { s with mod := { s.mod with slExit := false, slResult := 5 } } else s
  | _ =>
    let s := note (.safelight c) { s with mod := { s.mod with mstate := .safelight, slCause := s.mod.slCause ||| causeBit c } }
    let s := (List.finRange 12).foldl (fun s t => if s.tiles[t].st == .locked then madeFixPoint t s else s) s
    let s := endOptical (allToFallback (safelightWorks s))
    let s := tilesOff s
    if s.mod.served then s else nextMove { s with mod := { s.mod with served := true } }

/-- An exit was abandoned by this command: RESULT was written (R468, R481). -/
def exitBit (a b : State) : BitVec 11 := if a.mod.slExit && b.mod.slResult == 5 && !b.mod.slExit then intSafelight else 0

/-- The exit starts (R468): tile rails raised on every tile, steps 1–8 on each. -/
def startExit (s : State) : State :=
  let s := { s with mod := { s.mod with slExit := true }, power := { s.power with tilesUp := 0xFFF } }
  (List.finRange 12).foldl (fun s t => startCalib t (updTile t (fun x => { x with safelight := false }) s)) s

def setSlResult (n : Nat) (s : State) : State := { s with mod := { s.mod with slResult := n } }

/-- A CMD write has an effect: not in FAULT, where it is ignored (R489); in POWERUP there is nothing to leave. -/
def slServes (s : State) : Bool := s.mod.mstate != .fault && s.mod.mstate != .powerup

/-- ENTER (R464, R467): RESULT OK on entry, no change where SAFELIGHT stands; the cause is added, and a running exit is
abandoned by it (assumption 45). -/
def slEnter (s : State) : State :=
  if !slServes s then s
  else if s.mod.mstate == .safelight then
    (if s.mod.slExit then enterSafelight 3 s else setSlResult 2 (enterSafelight 3 s))
  else setSlResult 1 (enterSafelight 3 s)

/-- EXIT (R467, R468): no change outside SAFELIGHT or while an exit runs; refused while a cooling-fault or laser-supply cause
stands; else the command cause clears and the exit starts. -/
def slLeave (s : State) : State :=
  if !slServes s then s
  else if s.mod.mstate != .safelight || s.mod.slExit then setSlResult 2 s
  else if s.mod.slCause.getLsbD 0 || s.mod.slCause.getLsbD 2 then setSlResult 3 s
  else startExit { s with mod := { s.mod with slCause := s.mod.slCause &&& ~~~causeBit 3 } }

/-! ### What housekeeping is asked (R25, R490) -/

/-- Housekeeping cannot act: its swap window is open, or it is being reset (R413, R461). -/
def hkAway (s : State) : Bool := s.sec.window == some 19 || s.hk.halted

def serveAsked (s : State) : Asked → State
  | .power p => requestPower p s
  | .enter => slEnter s
  | .leave => slLeave s

/-- Housekeeping acts on a request of the host's or of the management processor's at once, or once it can again. -/
def askHk (a : Asked) (s : State) : State :=
  if hkAway s then { s with sec := { s.sec with asked := s.sec.asked ++ [a] } } else serveAsked s a

/-- It carries out what it was asked meanwhile. -/
def serveHk (s : State) : State :=
  if hkAway s then s else s.sec.asked.foldl serveAsked { s with sec := { s.sec with asked := [] } }

/-- RESULT fields of GLB_SAFELIGHT that this writes (R471). -/
def askedBits (a b : State) : BitVec 11 :=
  if b.sec.asked.isEmpty && (a.sec.asked.contains .enter || (a.sec.asked.contains .leave && !b.mod.slExit)) then intSafelight else 0

/-- Every tile has ended step 8 or is QUARANTINED (R192). -/
def tilesEnded (s : State) : Bool :=
  s.tiles.toList.all fun x => x.st == .quarantined || (x.st != .threading && x.st != .dark)

/-- The module leaves CALIBRATING (R192). A tile that has not ended goes on. -/
def leaveCalibrating (s : State) : State :=
  if 11 ≤ tilesLocked s then nextMove (enterReady s)
  else enterSafelight 1 s

/-- ACCEL on a tile (R211, R212), and the accelerated walk after a thermal fog of more than 5 K (R210). -/
def startAccel (t : Fin 12) (s : State) : State :=
  updTile t (fun x => { mapCores (fun c => if c.canWalk then { c with accelLeft := 67 } else c) x with
    cal := { x.cal with accel := x.cores.toList.any Core.canWalk } }) s

/-- A flow from tile a to tile b may cross the link from t to u: they lie on a way of at most three hops (R17, R174). -/
def mayCross (s : State) (a b t u : Fin 12) : Bool :=
  let r0 := [a]
  let r1 := seamStep s r0
  let r2 := seamStep s r1
  let d0 := [u]
  let d1 := seamStep s d0
  let d2 := seamStep s d1
  (r0.contains t && d2.contains b) || (r1.contains t && d1.contains b) || (r2.contains t && d0.contains b)

/-- The Tailor has, or may have, a flow on the port's link (R211): an unacknowledged flit, a through-path, or a stream over seams
whose way may lead over it. -/
def portFlow (s : State) (t : Fin 12) (p : Fin 4) : Bool :=
  match partner t p with
  | none => false
  | some (u, q) =>
    !((s.tiles[t].seams[p]).unacked).isEmpty || !((s.tiles[u].seams[q]).unacked).isEmpty
      || (s.tiles[t].through p).isSome || (s.tiles[u].through q).isSome
      || s.pats.any fun x => x.routes.any fun r =>
        match r.path, endTile x (streamProd x.file r.stream), endTile x (streamCons x.file r.stream) with
        | .seam _, some a, some b => mayCross s a b t u || mayCross s a b u t
        | _, _, _ => false

/-- A port that RESTORE trains afresh (R211): DOWN, or narrowed with no flow on it. -/
def restorePorts (t : Fin 12) (s : State) : State :=
  (List.finRange 4).foldl (fun s p =>
    let m := s.tiles[t].seams[p]
    match partner t p with
    | some _ =>
      if m.st == .down || (m.st == .active && m.groups != 0xF && !portFlow s t p) then trainLink t p s else s
    | none => s) s

/-- RESTORE on a tile (R211): ports, sweeps of its retired cores; its quarantined rows wait for their measurements. -/
def startRestore (t : Fin 12) (s : State) : State :=
  restorePorts t (updTile t (fun x =>
    let y := mapCores (fun c =>
      if c.st == .retired then { c with sweep := true }
      else { c with rows := vecMap (fun _ r => { r with restoreDue := r.quar, meas := if r.quar then [] else r.meas }) c.rows }) x
    { y with cal := { y.cal with restore := true, step := if x.cores.toList.any (·.st == .retired) then 0xA else y.cal.step } }) s)

/-- The actions that were to follow a tile's RETHREAD start (R211), where it is LOCKED again. -/
def startAfter (t : Fin 12) (s : State) : State :=
  match s.calib with
  | none => s
  | some c =>
    if c.after.getLsbD t.val then
      let s := { s with calib := some { c with after := c.after &&& ~~~(1#12 <<< t.val) } }
      if s.tiles[t].st == .locked then
        let s := if c.opts.getLsbD 0 then startAccel t s else s
        ditherFollow t (if c.opts.getLsbD 1 then startRestore t s else s)
      else calibrateTileDone t s
    else calibrateTileDone t s

/-- A tile's steps 1–8 have ended (R192, R211, R238, R370). -/
def calibTileEnd (t : Fin 12) (s : State) : State :=
  let s := startAfter t (updTile t (fun x => { x with cal := { x.cal with step := 0 } }) s)
  if s.mod.mstate == .calibrating && tilesEnded s then leaveCalibrating s else refill s

/-- A tile ends its calibration out of service. -/
def calibQuarantine (t : Fin 12) (s : State) : State :=
  calibTileEnd t (ditherFollow t (loseTile t (quarantineTile t s)))

/-! ### Module reset and start-up -/

/-- What of a tile outlasts a reset (R200, R325): the stored copies of its sets, and its ruler. -/
def Tile.powerOff (t : Nat) (x : Tile) : Tile :=
  { Tile.reset t with cal := { vaultCopy := x.cal.vaultCopy, mirrors := x.cal.mirrors }, ruler := x.ruler }

/-- The debug state that the fuses give (R399, R425, R428, R473): FAILURE_ANALYSIS once any two copies of FA are blown. -/
def fusedDebug (f : Fuses) : Nat := if f.fa % 8 == 3 || f.fa % 8 == 5 || 6 ≤ f.fa % 8 then 2 else 0

/-- What is left after a module reset (R325, R327, R446, R471, R487): registers at their reset values; kept are the fuses and
the NOR slots, committed spool data, the credential record, the committed log, the latch of a trip, straps and inputs. -/
def moduleReset (s : State) : State :=
  { State.reset with
    pending := s.pending, host := s.host, reply := s.reply, msgs := s.msgs, posted := s.posted, notes := s.notes, free := s.free
    repairs := s.repairs
    bad := s.bad.filter fun b => match b with | .cw .. => true | _ => false
    tiles := vecMap Tile.powerOff s.tiles
    mod := { perst := s.mod.perst, auxOn := s.mod.auxOn, mainOn := s.mod.mainOn, rails := s.mod.rails
             thermtrip := s.mod.thermtrip, restartOk := s.mod.restartOk, restartArmed := s.mod.restartArmed, thermRestart := s.mod.thermRestart
             bootSlotForce := s.mod.bootSlotForce, stepping := s.mod.stepping }
    hk := { trip := s.hk.trip, mgmtCap := s.hk.mgmtCap, sensors := vecMap (fun _ x => { raw := x.raw, beyond := x.beyond, tripped := x.tripped }) s.hk.sensors }
    vault := { spools := s.vault.spools.map fun x => { x with ctx := none, closing := false }
               incs := s.vault.incs, writes := s.vault.writes.filter (·.started), scrubbing := s.vault.scrubbing, holdup := s.vault.holdup }
    sec := { fuses := s.sec.fuses, slots := s.sec.cutStage.slots, generation := s.sec.generation, debug := fusedDebug s.sec.fuses }
    mgmt := { accounts := s.mgmt.accounts, authorities := s.mgmt.authorities, tlsKey := s.mgmt.tlsKey, cert := s.mgmt.cert
              network := s.mgmt.networkNext.getD s.mgmt.network, ring := s.mgmt.ring, anchor := s.mgmt.anchor
              phy := s.mgmt.phy, eid := s.mgmt.eid, smbAddr := s.mgmt.smbAddr, credential := s.mgmt.credential } }

/-- Every rail but the auxiliary one goes off (R283, R377, R388, R506): everything volatile is lost. -/
def mainOff (s : State) : State :=
  let s := moduleReset s
  { s with
    mod := { s.mod with rails := false }
    power := { s.power with tilesUp := 0, hubsUp := 0, hbmUp := 0, lpUp := false }
    vault := { s.vault with holdup := false } }

/-- Highest activation count in either slot (R409). -/
def topCount (s : State) : Nat := max ((s.sec.slots[(0 : Fin 2)].activation).getD 0) ((s.sec.slots[(1 : Fin 2)].activation).getD 0)

/-- Activation count of a valid slot that is not ruled out. -/
def slotCount (s : State) (no : Option (Fin 2)) (n : Fin 2) : Option Nat :=
  if s.sec.slots[n].valid s && no != some n then s.sec.slots[n].activation else none

/-- The slot that Thimble boots (R409), and whether it is one that has no activation record yet. -/
def chooseSlot (s : State) (no : Option (Fin 2)) : Option (Fin 2 × Bool) :=
  match slotCount s no 0, slotCount s no 1 with
  | some a, some b => some (if s.mod.bootSlotForce then (if a < b then 0 else 1) else (if b < a then 0 else 1), false)
  | some _, none => some (0, false)
  | none, some _ => some (1, false)
  | none, none =>
    if s.sec.slots[(0 : Fin 2)].valid s && no != some 0 then some (0, true)
    else if s.sec.slots[(1 : Fin 2)].valid s && no != some 1 then some (1, true)
    else none

/-- Thimble boots the slot: it is the running one, with an activation record (R409). -/
def bootSlot (n : Fin 2) (new : Bool) (s : State) : State :=
  let x := s.sec.slots[n]
  { s with sec := { s.sec with
      running := n, forced := s.mod.bootSlotForce
      slots := if new then s.sec.slots.set n.val { x with activation := some (topCount s + 1) } else s.sec.slots } }

/-- No bundle boots (R410): FAULT, the ROM recovery service; tile, hub and HBM3E rails stay off. -/
def romRecovery (s : State) : State :=
  let s := enterFault 6 0 { s with sec := { s.sec with recovery := true, updState := 7 } }
  { s with power := { s.power with tilesUp := 0, hubsUp := 0, hbmUp := 0 } }

/-- Whether the images of a slot match their digests at boot. -/
def slotDigest (dA dB : Bool) (n : Fin 2) : Bool := if n = 0 then dA else dB

/-- Boot (R408–R410): the chosen slot, the other one where it fails, or ROM recovery. -/
def boot (dA dB : Bool) (s : State) : State × Bool :=
  let fallBack := fun (no : Option (Fin 2)) (s : State) =>
    match chooseSlot s no with
    | none => (romRecovery s, false)
    | some (n, new) =>
      if slotDigest dA dB n then (note .bootFallback { bootSlot n new s with sec := { (bootSlot n new s).sec with fallback := true } }, true)
      else (romRecovery s, false)
  match chooseSlot s none with
  | none => (romRecovery s, false)
  | some (n, new) =>
    if slotDigest dA dB n then (bootSlot n new s, true)
    else if s.mod.bootSlotForce then (romRecovery s, false)
    else fallBack (some n) s

/-- Rows that had their soft repair get the hard one at a power-up (R270, R271, R290): logged. -/
def hardRepairs (s : State) : State :=
  { (s.repairs.filter fun r => r.soft && !r.hard).foldl (fun s r => note (.repair r.tier r.addr true) s) s with
    repairs := s.repairs.map fun r => { r with hard := r.soft } }

/-- The module starts (R321 steps 1–5, R408): from reset values through boot to the start of calibration. DESIGN CHOICE: STATE of
VLT_STATUS reads mounting from here on, offline in a debug state (assumption 110). -/
def powerUp (dA dB : Bool) (s : State) : State :=
  match boot dA dB (moduleReset s) with
  | (s, false) => s
  | (s, true) =>
    (List.finRange 12).foldl (fun s t => startCalib t s) { hardRepairs s with
      mod := { s.mod with mstate := .calibrating }, vault := { s.vault with st := if s.sec.debug = 0 then 1 else 0 } }

/-- PERST_N is deasserted and both inputs are valid: the timeline runs (R505). -/
def startIfReady (dA dB : Bool) (s : State) : State :=
  if !s.mod.perst && s.mod.auxOn && s.mod.mainOn && !s.mod.thermtrip then powerUp dA dB { s with mod := { s.mod with rails := true } } else s

end Sys2Proof.Machine
end

