-- ==== Sys2Proof/Machine/Light.lean ====
section
/-! DEFINITION. The events of light: sensor reads and heaters (R153–R159), fog and relock (R162–R164), lasers and swaps
(R142–R150), threading (R151, R152), the contact sheet (R167, R168), seams (R170–R174), open fibre (R178) and root PLLs
(R35, R469). -/
namespace Sys2Proof.Machine

/-! ### Sensor reads and heaters -/

/-- A core's temperature estimate moved by more than 0.1 K between two reads (R162): the mean of its four sensors. -/
def jumped (old new : List Int) : Bool :=
  !old.isEmpty && (List.range 4).any fun c =>
    40 < ((coreTemps new c).foldl (· + ·) 0 - (coreTemps old c).foldl (· + ·) 0).natAbs

/-- The tile's converter die has its supply: its heaters follow (R154, R382). -/
def tilePowered (s : State) (t : Fin 12) : Bool := s.mod.rails && s.power.tilesUp.getLsbD t.val

/-- Every heater that has had its first write is rewritten; rows with a clamped heater go out of service (R154, R156, R157). -/
def feedForward (t : Fin 12) (temps : List Int) (s : State) : State :=
  let x := s.tiles[t]
  let drive := fun (p : Nat × Ring) => driveRing p.2 (ringTemp temps (p.1 / 4288) (p.1 / 64 % 67) (p.1 % 64))
  let rings := if x.heated then x.rings else []
  let clamped := (rings.filter fun p => (drive p).2).map (·.1)
  let s := updTile t (fun x => { x with
    temps := temps, selvHit := 0, rings := if x.heated then rings.map fun p => (p.1, (drive p).1) else x.rings }) s
  (List.finRange 4).foldl (fun s c =>
    holdForRows (coreNum t c)
      ((clamped.filter fun k => k / 4288 == c.val).map fun k => (⟨k / 64 % 67, Nat.mod_lt _ (by decide)⟩ : Fin 67)).eraseDups s) s

/-- The tile controller reads its converter-die front-ends (R154, R364): each gives its latest conversion; the command brings the
reading of one that no SENSOR_CONVERSION has named yet. -/
def tileReads (s : State) (t : Fin 12) (temps : List Int) : List Int :=
  (List.range 16).map fun k =>
    (if h : 16 * t.val + k < 282 then s.hk.sensors[16 * t.val + k].raw else none).getD (temps.getD k 0)

/-- TILE_SENSOR_READ (R154, R155, R162), readings in 0.01 °C, one every 10 µs; the dither accumulators run on meanwhile (R165). -/
def tileSensorRead (t : Fin 12) (temps : List Int) (s : State) : State :=
  if !tilePowered s t then s
  else
    let old := s.tiles[t].temps
    let new := tileReads s t temps
    let s := draw (updTile t (fun x => { x with dith := vecMap (fun _ => Dith.advance (Config.controlCycles s.free)) x.dith }) s)
    let s := feedForward t new s
    if jumped old new then fogTile t .thermal s else s

def execTileSensorRead (tile : Fin 12) (temps : List Int) (s : State) : Out := done s (tileSensorRead tile temps s)

/-- Commanded current of a ring's DAC in units of 1/128 nA (R156). -/
def commanded (r : Ring) : Nat := r.code * (if r.high then 62500 else 15625)

/-- A reading differs by more than 2 % of the commanded current, or by more than 10 µA, whichever is larger (R159). -/
def mismatch (r : Ring) (nanoamps : Nat) : Bool :=
  let d := ((nanoamps * 128 : Nat) : Int) - commanded r
  commanded r < 50 * d.natAbs && 10000 * 128 < d.natAbs

/-- One heater read (R159): read again where it is unstable, suspect where it mismatches; a clamped heater that reads more
than 10 µA before its first write makes its ring unthreadable. -/
def heaterRead (t : Fin 12) (s : State) (rd : HeaterRead) : State :=
  let x := s.tiles[t]
  let k := ringKey rd.core.val rd.row.val rd.ch.val
  if rd.unstable then s
  else if !x.heated then
    (if 10000 < rd.nanoamps then updTile t (Tile.calQuarantine [(rd.core, rd.row)]) s else s)
  else if mismatch (x.ring k) rd.nanoamps && !x.suspect.contains (rd.core, rd.row, rd.ch) then
    updTile t (fun x => { x with suspect := x.suspect ++ [(rd.core, rd.row, rd.ch)] }) s
  else s

def execHeaterScan (tile : Fin 12) (reads : List HeaterRead) (s : State) : Out :=
  done s (if tilePowered s tile then reads.foldl (heaterRead tile) s else s)

def execHeaterReread (tile : Fin 12) (rd : HeaterRead) (s : State) : Out :=
  done s (if tilePowered s tile then heaterRead tile s rd else s)

/-- HEATER_MISMATCH_CONFIRM (R159, R99): a second mismatch is counted, and the row goes out of service. -/
def heaterConfirm (t : Fin 12) (rd : HeaterRead) (s : State) : State :=
  let x := s.tiles[t]
  let key := (rd.core, rd.row, rd.ch)
  if !x.suspect.contains key then s
  else
    let s := updTile t (fun x => { x with suspect := x.suspect.filter (· != key) }) s
    if mismatch (x.ring (ringKey rd.core.val rd.row.val rd.ch.val)) rd.nanoamps then
      holdForRows (coreNum t rd.core) [rd.row] (updTile t (fun x => { x with htrMismatch := x.htrMismatch + 1 }) s)
    else s

def execHeaterMismatchConfirm (tile : Fin 12) (rd : HeaterRead) (s : State) : Out := done s (heaterConfirm tile rd s)

/-! ### Fog and relock -/

/-- FOG_SLOPE_SETTLED (R163): after a thermal fog the slope has settled; probes may run. -/
def execFogSlopeSettled (tile : Fin 12) (s : State) : Out := done s (updTile tile (Tile.clearCause .thermal) s)

/-- A relock (R164): LOCKED; entries seeded after a wake or a thermal fog of more than 5 K (R198), the latter with an
accelerated walk (R210). It is a fix point (R198); pieces take cores again (R238). -/
def relock (t : Fin 12) (over5K : Bool) (s : State) : State :=
  let thermal := s.tiles[t].fogCause == some .thermal && over5K
  let seed := thermal || s.tiles[t].fogCause == some .wake
  let s := lockTile t s
  let s := if seed then updTile t seedTile s else s
  let s := if thermal then startAccel t s else s
  refill (ditherFollow t (fixPoint t s))

/-- Tiles that a die serves (R16, R35). -/
def dieTiles (d : Die) : List (Fin 12) :=
  match d with
  | .converter t => [t]
  | .hub h => (List.finRange 12).filter fun t => t.val % 4 == h.val
  | .iod => []

/-- Every die that serves the tile has its root clock. -/
def pllGood (s : State) (t : Fin 12) : Bool := s.mod.pllLost.all fun d => !(dieTiles d).contains t

/-- P of R64 for a row of codes: Σ x × w over the 64 channels. -/
def analogTruth (input codes : List Nat) : Nat := ((List.range 64).map fun ch => input.getD ch 0 * codes.getD ch 0).foldl (· + ·) 0

/-- A probe pass checks out on its core (R164): with exact weights every decision equals its true level and none is doubtful; with
analog weights every row value lies within 3 LSB (2,977 units) of P; without weights it passes. -/
def probeOk (c : Core) (p : ProbePass) : Bool :=
  match c.block with
  | none => true
  | some b =>
    if b.analog then
      (List.range b.groups).all fun r =>
        let pr := physRow c r
        let v := rowValue (c.row pr) (p.samples.getD (2 * pr) 0).toNat (p.samples.getD (2 * pr + 1) 0).toNat
        (v - (analogTruth p.input (b.codes.getD r []) : Int)).natAbs ≤ 2977
    else (decisions c b p.input p.samples).all fun d => !d.2.1 && !d.2.2

/-- No core of the tile fails its probes: `probes` holds the passes of the round; retired cores have none. -/
def probesPass (x : Tile) (probes : List ProbePass) : Bool :=
  probes.all fun p => (x.cores[p.core]).st == .retired || probeOk x.cores[p.core] p

/-- The passes of a round are counted, and their samples at codes 0 and 255 (R56, R73). -/
def countProbes (probes : List ProbePass) (x : Tile) : Tile :=
  probes.foldl (fun x p => Tile.updCore p.core (fun c =>
    if c.st == .retired then c
    else { c with modWritten := true, passes := c.passes + 1, adcClip := c.adcClip + BitVec.ofNat 32 (clips p.samples) }) x) x

/-- PROBE_ROUND (R163, R164): a round that passes relocks the tile; the third that fails sends it to THREADING. -/
def probeRound (t : Fin 12) (probes : List ProbePass) (over5K : Bool) (s : State) : State :=
  let x := s.tiles[t]
  if x.st != .fogged || !x.mayProbe || x.waitRetry || !pllGood s t || !allServed x then s
  else
    let s := updTile t (countProbes probes) s
    if probesPass x probes then relock t over5K s
    else if 2 ≤ x.probeFails then startCalib t s
    else updTile t (fun x => { x with probeFails := x.probeFails + 1, waitRetry := true }) s

def execProbeRound (tile : Fin 12) (probes : List ProbePass) (foggedOver5K : Bool) (s : State) : Out :=
  done s (probeRound tile probes foggedOver5K s)

def execProbeRetryWait (tile : Fin 12) (s : State) : Out := done s (updTile tile (fun x => { x with waitRetry := false }) s)

/-- FOG_REPLACEMENT (R163, R238): still FOGGED after 20 ms; its duties restart from zero (R246). -/
def execFogReplacement (tile : Fin 12) (s : State) : Out :=
  done s (if s.tiles[tile].st == .fogged then
    loseTile tile (updTile tile (mapCores fun c => { c with drive := 0 }) s) else s)

/-! ### Lasers -/

/-- A laser is emitting in service. -/
def inService (l : Laser) : Bool := l.st == .operating || l.st == .fading

/-- One reading of the power loop (R142, R143). -/
def laserRead (t : Fin 12) (s : State) (r : LaserRead) : State :=
  if inService s.tiles[t].lasers[r.laser] then
    (if !r.driverOk || r.ppm < 500000 then failLaser t r.laser s else judgePower t r.laser r.ppm s)
  else s

/-- LASER_POWER_LOOP (R142). -/
def execLaserPowerLoop (tile : Fin 12) (reads : List LaserRead) (s : State) : Out := done s (reads.foldl (laserRead tile) s)

/-- SWAP_READY (R144 step 5, R145, R147): the swap waits for a fix point; an idle tile takes it at once. -/
def swapReady (t : Fin 12) (k : Fin 8) (s : State) : State :=
  let sp := s.tiles[t].lasers[spareOf k]
  if sp.st != .tuning || s.tiles[t].swapping.any (·.1 == k) then s
  else
    let s := ditherFollow t (updTile t (fun x => { x with swapping := x.swapping ++ [(k, laserChan x (spareOf k))] }) s)
    if s.tiles[t].st == .locked then updTile t (Tile.await (.swap k)) s else applySwap t k s

def execSwapReady (tile : Fin 12) (spare : Fin 8) (s : State) : Out := done s (swapReady tile spare s)

def isSwap : Change → Bool
  | .swap _ => true
  | _ => false

/-- SWAP_FIX_POINT_TIMEOUT (R145). -/
def execSwapFixPointTimeout (tile : Fin 12) (s : State) : Out :=
  done s (if s.tiles[tile].pend.any isSwap then madeFixPoint tile s else s)

/-- LASER_FREQUENCY_HOLD_FAIL (R141, R143). -/
def execLaserFrequencyHoldFail (tile : Fin 12) (laser : Fin 72) (s : State) : Out :=
  done s (if inService s.tiles[tile].lasers[laser] then failLaser tile laser s else s)

/-- LASER_FAIL (R143, R147): lost output or a driver fault. -/
def execLaserFail (tile : Fin 12) (laser : Fin 72) (s : State) : Out :=
  done s (if s.tiles[tile].lasers[laser].st == .failed then s else failLaser tile laser s)

/-! ### Threading -/

/-- A peak is accepted where its tone and its order in the sweep name the same channel's tag (R151): generator g tags the channels
with ch mod 4 = g. -/
def peakAccepted (p : DropPeak) : Bool := p.place % 4 == p.tone.val

/-- Σ of R199: how much more the ring needs at its threading point than its table predicts, in (0.125 µA)². -/
def threadShift (temps : List Int) (r : RingThread) (g : Ring) (current : Nat) : Int :=
  ((current * current : Nat) : Int)
    - divEven (heaterQ { g with dq := 0 } (ringTemp temps r.core.val r.row.val r.ch.val)) 6237000

/-- The order still needs a positive current extrapolated to 105 °C (R151): 3 times its Q there. -/
def positiveAt105 (g : Ring) (shift : Int) : Bool :=
  let i := fun (n : Nat) => ((g.table.getD n 0 : Nat) : Int)
  0 < 3 * (i 3 * i 3 + shift) + 7 * (i 4 * i 4 - i 3 * i 3)

/-- The peak assigned to a ring (R151): of the accepted peaks of its own channel whose order is usable at 105 °C, the one of least
current. -/
def assignPeak (temps : List Int) (r : RingThread) (g : Ring) : Option DropPeak :=
  (r.peaks.filter fun p => peakAccepted p && p.place % 64 == r.ch.val && positiveAt105 g (threadShift temps r g p.current)).foldl
    (fun best p => match best with
      | none => some p
      | some b => if p.current < b.current then some p else some b) none

/-- η in 0.01 GHz per mA² (R151): 100 GHz over the difference in current squared between the peaks of channels ch and ch + 1, or
ch − 1 where ch is 63. Where that peak was not found, or at no distance, the value is free (assumption 31). -/
def threadEta (t draw : Nat) (r : RingThread) (p : DropPeak) : Nat :=
  let want := if r.ch.val = 63 then p.place - 1 else p.place + 1
  let near := (r.peaks.find? fun q => peakAccepted q && q.place == want).map fun q =>
    (((q.current * q.current : Nat) : Int) - ((p.current * p.current : Nat) : Int)).natAbs
  match near with
  | some (d + 1) => (divEven (10000 * 64000000) (d + 1)).toNat
  | _ => Config.ringEta t (ringKey r.core.val r.row.val r.ch.val) draw

/-- One ring threaded (R151, R153, R199): order, threading point and η recorded; the table moved by what the threading point
needs more than it predicted; ΔQ 0. A ring without an accepted peak of its own channel is left as it is. DESIGN CHOICE: a point is
rounded to the nearest 0.125 µA, and a negative squared current is taken as 0 (assumption 118). -/
def threadRing (t draw : Nat) (temps : List Int) (r : RingThread) (x : Tile) : Tile :=
  let k := ringKey r.core.val r.row.val r.ch.val
  match assignPeak temps r (x.ring k) with
  | none => x
  | some p =>
    x.updRing k fun g =>
      let d := threadShift temps r g p.current
      { g with
        table := g.table.map fun i => nearSqrt (((i * i : Nat) : Int) + d).toNat
        dq := 0, eta := threadEta t draw r p, order := some (p.place / 64), point := p.current }

/-- The rings that could not be threaded (R152). -/
def unthreadable (x : Tile) (rings : List RingThread) : List (Fin 4 × Fin 67) :=
  (rings.filter fun r => (assignPeak x.temps r (x.ring (ringKey r.core.val r.row.val r.ch.val))).isNone).map fun r => (r.core, r.row)

/-- THREADING_DONE (R152, R161): unthreadable rings quarantine their rows; then step 3. -/
def threadingDone (t : Fin 12) (rings : List RingThread) (chipletOk : Bool) (s : State) : State :=
  let x := s.tiles[t]
  if x.st != .threading || x.cal.step != 2 then s
  else if !chipletOk then calibQuarantine t s
  else
    let y := (rings.foldl (fun y r => threadRing t.val s.free x.temps r y) x).calQuarantine (unthreadable x rings)
    let y := mapCores (fun c => { c with ringWritten := true }) y
    let s := draw s
    if y.allRetired then calibQuarantine t (updTile t (fun _ => y) s)
    else ditherFollow t (updTile t (fun _ => { y with cal := { y.cal with step := 3 } }) s)

def execThreadingDone (tile : Fin 12) (rings : List RingThread) (chipletOk : Bool) (s : State) : Out :=
  done s (threadingDone tile rings chipletOk s)

/-! ### Contact sheet -/

/-- A ring's entry in units of 0.05 °C (R167): none for a quarantined row or a dark channel. -/
def sheetEntry (x : Tile) (temps : List Int) (k : Nat) : Option (Nat × Int) :=
  let c := k / 4288
  let r := k / 64 % 67
  let ch := k % 64
  let quar := if h : c < 4 then (x.cores[c].row r).quar else true
  if quar || x.dark.getLsbD ch then none
  else
    let g := x.ring k
    some (k, divEven (ringTemp temps c r ch * 66500000 - (g.eta : Int) * g.dq * 20790) (20790 * 66500000))

/-- The rings in service of the quarter of a core nearest a corner diode (R363, R367). DESIGN CHOICE: the middle row 33 is taken
with row 0's side (assumption 126). -/
def nearRings (x : Tile) (c : Fin 4) (i : Nat) : List Ring :=
  (List.range 67).flatMap fun r =>
    if (i / 2 == 0) != decide (r ≤ 33) || (x.cores[c].row r).quar then []
    else ((List.range 64).filter fun ch => (i % 2 == 0) == decide (ch < 32) && !x.dark.getLsbD ch).map fun ch => x.ring (ringKey c.val r ch)

/-- Contact-sheet disagreement of one map (R367): the mean of η × ΔQ ÷ 13.3 is beyond 3 °C in magnitude. -/
def sheetOff (x : Tile) (c : Fin 4) (i : Nat) : Bool :=
  let l := nearRings x c i
  decide (3990000000 * (l.length : Int) < ((l.map fun (g : Ring) => (g.eta : Int) * g.dq).foldl (· + ·) 0).natAbs)

/-- The local core of a number. -/
def cornerCore (n : Nat) : Fin 4 := ⟨n % 4, Nat.mod_lt _ (by decide)⟩

/-- Each corner diode's count of maps in a row that disagree with it. -/
def judgeSheet (t : Fin 12) (s : State) : State :=
  { s with hk := { s.hk with sensors := vecMap (fun n y =>
      if n / 16 = t.val then { y with maps := if sheetOff s.tiles[t] (cornerCore (n / 4)) (n % 4) then y.maps + 1 else 0 } else y) s.hk.sensors } }

/-- CONTACT_SHEET_MAP (R167, R168): map n goes to bank n mod 2, then TC_CS_GEN. -/
def contactMap (t : Fin 12) (temps : List Int) (s : State) : State :=
  let x := s.tiles[t]
  if x.st != .locked && x.st != .fogged then s
  else
    let n := x.csGen + 1
    let m := (List.range 17152).filterMap (sheetEntry x temps)
    judgeSheet t (updTile t (fun x => if n.getLsbD 0 then { x with bank1 := m, csGen := n } else { x with bank0 := m, csGen := n }) s)

def execContactSheetMap (tile : Fin 12) (temps : List Int) (s : State) : Out := done s (contactMap tile temps s)

/-! ### Seams -/

/-- The sender of a flit that arrives: a new flit enters its replay buffer of 256 flits (R170); a flit with the buffer full is
none of the sender's. -/
def Seam.sent (f : Flit) (m : Seam) : Option Seam :=
  if f.seqNo = m.txSeq then
    (if m.unacked.length < 256 then some (Seam.send { seqNo := f.seqNo, kind := f.kind, cls := f.cls, payload := f.payload } m) else none)
  else some m

/-- Flits up to the acknowledged number leave the replay buffer. -/
def Seam.acked (a : BitVec 16) (m : Seam) : Seam := { m with unacked := m.unacked.filter fun f => 0x8000 ≤ (a - f.seqNo).toNat }

/-- Flits of the replay buffer are sent again (R170). -/
def Seam.again (p : FlitRec → Bool) (m : Seam) : Seam :=
  { m with
    replay := m.replay + BitVec.ofNat 32 (m.unacked.filter p).length
    unacked := updWhere p (fun f => { f with tries := f.tries + 1 }) m.unacked }

/-- Flits are replayed; one replayed eight times in succession retrains the port (R170). -/
def replayFlits (t : Fin 12) (p : Fin 4) (which : FlitRec → Bool) (s : State) : State :=
  let s := updTile t (Tile.updSeam p (Seam.again which)) s
  if (s.tiles[t].seams[p]).unacked.any fun f => 8 ≤ f.tries then requestRetrain t p s else s

/-- The flits that a request for replay from a sequence number names (R170): that one and the later ones. -/
def fromSeq (n : BitVec 16) (f : FlitRec) : Bool := (f.seqNo - n).toNat < 0x8000

/-- A flit whose tag failed, and on how many consecutive attempts (R170). -/
def Seam.tagFailed (n : BitVec 16) (m : Seam) : Seam :=
  { m with tagSeq := n, tagFails := if m.tagSeq = n then m.tagFails + 1 else 1 }

/-- A flit delivered in order, once (R170). -/
def Seam.deliver (f : Flit) (m : Seam) : Seam :=
  let m := { Seam.acked f.ackNo m with tagFails := 0 }
  if f.seqNo = m.rxSeq then
    { m with rxSeq := m.rxSeq + 1, rx := { seqNo := f.seqNo, kind := f.kind, cls := f.cls, payload := f.payload } :: m.rx }
  else m

/-- SEAM_FLIT_RECEIVE (R170, R171, R174, R181): the light of the port comes from its partner, or over through-paths from
further; a port that a lane's loss of signal has stopped sends and takes nothing. The flit is delivered in order, once, or
refused, and replay is requested from its number on. -/
def seamFlit (t : Fin 12) (p : Fin 4) (f : Flit) (s : State) : State :=
  let m := s.tiles[t].seams[p]
  if m.st != .active || m.halted || (s.tiles[t].through p).isSome then s
  else
    match farEnd s 3 t p with
    | none => s
    | some (u, q) =>
      match (if (s.tiles[u].seams[q]).halted then none else Seam.sent f s.tiles[u].seams[q]) with
      | none => s
      | some y =>
        let s := updTile u (Tile.updSeam q (fun _ => y)) s
        let s := updTile t (Tile.updSeam p (fun m => { m with corr := m.corr + BitVec.ofNat 32 f.corrected })) s
        if !f.fecOk || !f.crcOk then replayFlits u q (fromSeq f.seqNo) (updTile t (Tile.updSeam p (fun m => { m with tagFails := 0 })) s)
        else if !f.tagOk then
          let s := updTile t (Tile.updSeam p (Seam.tagFailed f.seqNo)) s
          if 4 ≤ (s.tiles[t].seams[p]).tagFails then note (.seamIntegrity t.val p.val) (linkDown t p s)
          else replayFlits u q (fromSeq f.seqNo) s
        else updTile t (Tile.updSeam p (Seam.deliver f)) s

def execSeamFlitReceive (tile : Fin 12) (port : Fin 4) (flit : Flit) (s : State) : Out := done s (seamFlit tile port flit s)

/-- SEAM_ACK_TIMEOUT (R170): the oldest flit that is not acknowledged is replayed. -/
def seamAckTimeout (t : Fin 12) (p : Fin 4) (s : State) : State :=
  match (s.tiles[t].seams[p]).st, (s.tiles[t].seams[p]).unacked with
  | .active, f :: _ => replayFlits t p (fun g => g.seqNo == f.seqNo) s
  | _, _ => s

def execSeamAckTimeout (tile : Fin 12) (port : Fin 4) (s : State) : Out := done s (seamAckTimeout tile port s)

/-- A lane is marked for dropping (R171): its group goes at the next retrain, which drops what either end has marked; a drop
needed at 8 lanes takes the port DOWN. -/
def dropLane (t : Fin 12) (p : Fin 4) (lane : Nat) (halt : Bool) (s : State) : State :=
  let m := s.tiles[t].seams[p]
  let g := lane / 4
  if m.st != .active || !m.groups.getLsbD g then s
  else if (marked s t p).getLsbD g then updTile t (Tile.updSeam p (fun m => { m with halted := m.halted || halt })) s
  else if groupCount (m.groups &&& ~~~marked s t p) ≤ 2 then linkDown t p s
  else requestRetrain t p (updTile t (Tile.updSeam p (fun m => { m with drop := m.drop ||| (1#4 <<< g), halted := m.halted || halt })) s)

/-- SEAM_LANE_LOS (R171): while the drop waits, the lane stops the port's traffic. -/
def execSeamLaneLos (tile : Fin 12) (port : Fin 4) (lane : Fin 16) (s : State) : Out := done s (dropLane tile port lane.val true s)

/-- Lanes whose corrected-symbol ratio exceeds 10⁻⁴: entry i is lane i's corrected symbols and all its symbols. -/
def badLanes (counts : List (Nat × Nat)) : List Nat :=
  (List.range counts.length).filter fun i => let c := counts.getD i (0, 0); c.2 < 10000 * c.1

/-- SEAM_ERROR_WINDOW (R171). -/
def execSeamErrorWindow (tile : Fin 12) (port : Fin 4) (counts : List (Nat × Nat)) (s : State) : Out :=
  done s ((badLanes counts).foldl (fun s l => dropLane tile port l false s) s)

/-- SEAM_RETRAIN_TIMEOUT (R172): both tile controllers make a fix point. -/
def retrainTimeout (t : Fin 12) (p : Fin 4) (s : State) : State :=
  match partner t p with
  | none => s
  | some (u, q) =>
    if s.tiles[t].pend.contains (.retrain p) || s.tiles[u].pend.contains (.retrain q) then madeFixPoint u (madeFixPoint t s) else s

def execSeamRetrainTimeout (tile : Fin 12) (port : Fin 4) (s : State) : Out := done s (retrainTimeout tile port s)

/-- Paths that the matrix can set (R174): no end stands in two; a port has a partner; and no path crosses more than two
intermediate tiles. -/
def pathsOk (s : State) (t : Fin 12) (paths : List (Fin 6 × Fin 6)) : Bool :=
  let used := paths.flatMap fun q => [q.1, q.2]
  used.eraseDups.length == used.length
    && (used.all fun e => match endPort e with | some p => !unpartnered t.val p.val | none => true)
    && paths.all fun q =>
      match endPort q.1, endPort q.2 with
      | some a, some b => throughRun s 12 t a + throughRun s 12 t b < 2
      | _, _ => true

/-- SWITCH_RECONFIGURATION (R174, R205): at once where no flit on an affected path is unacknowledged; behind a retrain due
at the same fix point. -/
def reconfigure (t : Fin 12) (paths : List (Fin 6 × Fin 6)) (s : State) : State :=
  let x := s.tiles[t]
  if !pathsOk s t paths then s
  else if pathBusy s t (paths ++ x.paths) || x.pend.any (fun c => c.order == 4) then
    updTile t (fun x => Tile.await (.reconfigure paths) { x with pathsWant := some paths, pend := x.pend.filter (·.order != 5) }) s
  else updTile t (fun x => { x with paths := paths, pathsWant := none, pend := x.pend.filter (·.order != 5) }) s

def execSwitchReconfiguration (tile : Fin 12) (paths : List (Fin 6 × Fin 6)) (s : State) : Out := done s (reconfigure tile paths s)

/-! ### Open fibre and root PLLs -/

/-- OPEN_FIBRE (R178): PT0 fogs and returns to its own lasers, and the return path closes; EN reads 0, STATUS 3. While the light
is still being acquired the tile starts again on its own lasers. -/
def openFibre (s : State) : State :=
  if !s.tiles[(0 : Fin 12)].rli then s
  else
    let s := closeReturn { s with mod := { s.mod with rliEn := false, rliStatus := 3 } }
    if s.tiles[(0 : Fin 12)].st == .threading then startCalib 0 (updTile 0 (fun x => { x with rli := false }) s)
    else
      let s := leaveShelf 0 (updTile 0 (fun x => { x with pend := x.pend.filter (· != .leaveRli) }) (fogTile 0 .openFibre s))
      updTile 0 (Tile.clearCause .openFibre) s

def execOpenFibre (s : State) : Out := done s (openFibre s)

/-- ROOT_PLL_LOCK_LOSS (R34, R35): counted; the tiles the die serves fog. -/
def pllLoss (d : Die) (s : State) : State :=
  if s.mod.pllLost.contains d || !s.mod.rails then s
  else
    (dieTiles d).foldl (fun s t => fogTile t .pll s)
      { s with mod := { s.mod with lockLoss := satInc s.mod.lockLoss 0xFF, pllLost := d :: s.mod.pllLost } }

def execRootPllLockLoss (die : Die) (s : State) : Out := done s (pllLoss die s)

/-- ROOT_PLL_RELOCK (R35, R163): probes may run on the tiles whose dies are all locked. -/
def pllRelock (d : Die) (s : State) : State :=
  let s := { s with mod := { s.mod with pllLost := s.mod.pllLost.filter (· != d) } }
  (dieTiles d).foldl (fun s t => if pllGood s t then updTile t (Tile.clearCause .pll) s else s) s

def execRootPllRelock (die : Die) (s : State) : Out := done s (pllRelock die s)

/-- PLL_LOSS_PERSIST (R469): FAULT for the IOD and a hub die; a converter die's tile is QUARANTINED. -/
def pllPersist (d : Die) (s : State) : State :=
  if !s.mod.pllLost.contains d then s
  else
    match d with
    | .converter t => if s.tiles[t].st == .threading then calibQuarantine t s else loseTile t (quarantineTile t s)
    | .hub h => enterFault 5 h.val s
    | .iod => enterFault 4 0 s

def execPllLossPersist (die : Die) (s : State) : Out := done s (pllPersist die s)

end Sys2Proof.Machine
end

