-- ==== Sys2Proof/Machine/Heat.lean ====
section
/-! DEFINITION. Heat: the 282 sensors and their checks (R363–R370), the thermal limit and its budget (R371–R374), the
shutdown comparators and the restart (R376–R380). -/
namespace Sys2Proof.Machine

/-! ### Sensors -/

/-- Grid position of a sensor of a converter die or a hub die (R363). -/
def gridXY (n : Nat) : Nat × Nat :=
  if n < 192 then
    let c := n % 16 / 4
    let i := n % 4
    (2 * (c % 2) + i % 2, 2 * (c / 2) + i / 2)
  else ((n - 192) % 8 % 4, (n - 192) % 8 / 4)

/-- Two grid positions touch, horizontally or vertically. -/
def gridAdjacent (a b : Nat × Nat) : Bool :=
  (a.1 == b.1 && (a.2 == b.2 + 1 || b.2 == a.2 + 1)) || (a.2 == b.2 && (a.1 == b.1 + 1 || b.1 == a.1 + 1))

/-- The `n` numbers from `lo` on. -/
def span (lo n : Nat) : List Nat := (List.range n).map (· + lo)

/-- Laser chiplet of a sensor in 252–275. -/
def chipletOf (n : Nat) : Nat := (n - 252) / 2

/-- The neighbours of a sensor (R363). -/
def neighbours (n : Nat) : List Nat :=
  if n < 192 then (span (n / 16 * 16) 16).filter fun m => gridAdjacent (gridXY n) (gridXY m)
  else if n < 224 then (span (192 + (n - 192) / 8 * 8) 8).filter fun m => gridAdjacent (gridXY n) (gridXY m)
  else if n < 248 then (span (224 + (n - 224) / 6 * 6) 6).filter (· != n)
  else if n < 252 then (span 248 4).filter (· != n)
  else if n < 276 then
    (span 252 24).filter fun m =>
      m != n && chipletOf m / 4 == chipletOf n / 4 && chipletOf m ≤ chipletOf n + 1 && chipletOf n ≤ chipletOf m + 1
  else (span 276 6).filter (· != n)

/-- Location class of a sensor, as PWR_LIMIT.CAUSE names it (R397). -/
def sensorClass (n : Nat) : Nat :=
  if n < 192 then 1 else if n < 224 then 2 else if n < 248 then 4 else if n < 252 then 6 else if n < 276 then 3 else 5

/-- Throttle, shutdown and restart values of a class in 0.01 °C (R366). -/
def throttleAt (n : Nat) : Int := match sensorClass n with | 1 => 8500 | 2 => 9500 | 3 => 7000 | 4 => 8500 | 6 => 9500 | _ => 9000
def shutdownAt (n : Nat) : Int := match sensorClass n with | 1 => 10500 | 2 => 11000 | 3 => 8500 | 4 => 9500 | 6 => 11000 | _ => 10000
def restartBelow (n : Nat) : Int := match sensorClass n with | 1 => 8500 | 2 => 9000 | 3 => 6500 | 4 => 7500 | 6 => 9000 | _ => 8000

/-- The tile of a converter-die or laser-chiplet sensor. -/
def sensorTile (n : Nat) : Option Nat := if n < 192 then some (n / 16) else if 252 ≤ n ∧ n < 276 then some (chipletOf n) else none

def Hk.at (h : Hk) (n : Nat) : Sensor := if p : n < 282 then h.sensors[n] else {}

/-- The sensor has failed a check and is not back in service. -/
def Sensor.failed (x : Sensor) : Bool := x.status != 0 && x.status != 0xF

/-- It works: a reading, and no failed check. -/
def Sensor.works (x : Sensor) : Bool := !x.failed && x.raw.isSome

/-- The readings of the working neighbours. -/
def nearReadings (h : Hk) (n : Nat) : List Int := (neighbours n).filterMap fun m => if (h.at m).works then (h.at m).raw else none

def insertInt (x : Int) : List Int → List Int
  | [] => [x]
  | y :: ys => if x ≤ y then x :: y :: ys else y :: insertInt x ys

def sortInts : List Int → List Int
  | [] => []
  | x :: xs => insertInt x (sortInts xs)

/-- Twice the median; that of an even number lies midway between the two in the middle (DEDUCED, assumption 33). -/
def median2 (l : List Int) : Int :=
  let y := sortInts l
  y.getD ((y.length - 1) / 2) 0 + y.getD (y.length / 2) 0

/-- The reading differs by more than 8 °C from the median of its working neighbours (R367). -/
def disagrees (h : Hk) (n : Nat) (t : Int) : Bool :=
  let l := nearReadings h n
  !l.isEmpty && 1600 < (2 * t - median2 l).natAbs

/-- The largest of some readings. -/
def maxInt : List Int → Option Int
  | [] => none
  | x :: xs => some (xs.foldl max x)

/-- How far apart some readings lie. -/
def spread (l : List Int) : Int := (maxInt l).getD 0 + (maxInt (l.map (- ·))).getD 0

/-- Stuck (R367): over 10 s, 1,000 slow rounds, the value within 0.02 °C while its neighbours' median has moved by more than 2
°C. -/
def Sensor.stuck (x : Sensor) : Bool :=
  1001 ≤ x.past.length && spread (x.past.map (·.1)) ≤ 2 && 400 < spread (x.past.filterMap (·.2))

/-- The slow round's checks on one sensor (R367): the first that fails, in the rule's order; 0 where all pass. -/
def sensorVerdict (faults : List (Fin 282)) (n : Nat) (t : Int) (x : Sensor) : Nat :=
  if 3 ≤ x.disagree then 1
  else if x.stuck then 2
  else if t < -4000 || 15000 < t || faults.any (·.val == n) then 3
  else if n < 192 && 2 ≤ x.maps then 4
  else 0

/-- The slow round takes a sensor's value and checks it (R367); a failed one counts the rounds in which it passes. -/
def checkSensor (h : Hk) (faults : List (Fin 282)) (n : Nat) (x : Sensor) : Sensor :=
  match x.raw with
  | none => if faults.any (·.val == n) && !x.failed then { x with status := 3, passed := 0 } else { x with passed := 0 }
  | some t =>
    let l := nearReadings h n
    let x := { x with
      disagree := if disagrees h n t then x.disagree + 1 else 0
      past := (t, if l.isEmpty then none else some (median2 l)) :: x.past.take 1000 }
    let v := sensorVerdict faults n t x
    if x.failed then { x with passed := if v = 0 then x.passed + 1 else 0 } else { x with status := v, passed := 0 }

/-- The value used for a sensor (R368): its reading, or its highest working neighbour plus 5 °C, or the highest working
sensor of the module plus 5 °C. -/
def usedValue (h : Hk) (n : Nat) (x : Sensor) : Option Int :=
  if x.failed then
    match maxInt (nearReadings h n) with
    | some t => some (t + 500)
    | none => (maxInt (h.sensors.toList.filterMap fun y => if y.works then y.raw else none)).map (· + 500)
  else x.raw

/-- The sensors that a round takes get their values. -/
def takeValues (all : Bool) (h : Hk) : Hk :=
  { h with sensors := vecMap (fun n x =>
      if all || x.fast then { x with used := usedValue h n x, subst := x.failed } else x) h.sensors }

/-- Membership of the fast round (R365): in at once, out after 100 ms more than 5 °C below; `ms` have passed since the last
look. -/
def fastMember (h : Hk) (ms n : Nat) (x : Sensor) : Sensor :=
  match usedValue h n x with
  | none => x
  | some t =>
    if throttleAt n - 500 ≤ t then { x with fast := true, cool := 0 }
    else { x with cool := x.cool + ms, fast := x.fast && x.cool + ms < 100 }

/-- The sensor with the highest margin over its throttle threshold, ties to the lowest number: number and margin (R373). -/
def worst (h : Hk) : Option (Nat × Int) :=
  (List.range 282).foldl (fun (best : Option (Nat × Int)) n =>
    match (h.at n).used with
    | none => best
    | some t =>
      match best with
      | none => some (n, t - throttleAt n)
      | some b => if b.2 < t - throttleAt n then some (n, t - throttleAt n) else best) none

/-- A sensor that has just failed held the highest margin of any (R368), on the values before its replacement. -/
def hadWorst (old new : Hk) : Bool :=
  let margin := fun (n : Nat) => (if (old.at n).failed then (old.at n).used else (new.at n).raw).map fun t => t - throttleAt n
  (List.range 282).any fun n =>
    (new.at n).failed && !(old.at n).failed &&
      match margin n with
      | none => false
      | some a => (List.range 282).all fun m => match margin m with | none => true | some b => b ≤ a

/-! ### The thermal limit -/

/-- Which cause is shown (R373). -/
def limitCause (h : Hk) : Nat :=
  if h.hostCap < h.limit && h.hostCap ≤ h.mgmtCap then 7
  else if h.mgmtCap < h.limit && h.mgmtCap < h.hostCap then 8
  else if h.limit < 2700 then h.fallClass else 0

/-- L falls (R371): once in 10 ms, to no less than 405 W. -/
def limitFall (now : Nat) (h : Hk) : Hk :=
  match worst h with
  | none => h
  | some (n, m) =>
    let due := match h.lastFall with | none => true | some t => 10 ≤ now - t
    if 0 < m && due && 810 < h.limit then
      let l := max 810 (h.limit - 135)
      { h with
        limit := l, lastFall := some now, lastChange := some now, falls := h.falls + 1, fallClass := sensorClass n
        throttles := if h.limit = 2700 then satInc h.throttles 0xFF else h.throttles
        inForce := min h.inForce l
        cause := limitCause { h with limit := l, fallClass := sensorClass n } }
    else h

/-- L rises (R371). -/
def limitRise (now : Nat) (h : Hk) : Hk :=
  match worst h with
  | none => h
  | some (_, m) =>
    let due := match h.lastChange with | none => true | some t => 100 ≤ now - t
    if m ≤ -300 && !h.relaxHold && due && h.limit < 2700 then { h with limit := min 2700 (h.limit + 54), lastChange := some now } else h

/-- The caps enter the limit in force (R371). -/
def capsTick (h : Hk) : Hk := { h with inForce := min h.limit (min h.hostCap h.mgmtCap), cause := limitCause h }

/-- Power not drawn by tiles, averaged over 10 ms, in W × 2³² (R372, R390); the last valid one during a monitor fault (R396). -/
def nonTilePower (h : Hk) : Nat :=
  if h.monitorFault then h.nonTile
  else
    let p := h.powers.take 100
    let c := h.tileCodes.take 100
    if p.isEmpty || c.isEmpty then h.nonTile
    else p.foldl (· + ·) 0 / p.length - c.foldl (· + ·) 0 * 120 * 65536 / c.length

/-- The tile budget that the Tailor gets (R372). -/
def budgetTick (h : Hk) : Hk :=
  let n := nonTilePower h
  { h with nonTile := n, budget := h.inForce - (2 * n + 2 ^ 32 - 1) / 2 ^ 32 }

/-! ### Rounds -/

/-- A failed sensor with at least two failed neighbours (R369). -/
def untrusted (h : Hk) (n : Nat) : Bool := (h.at n).failed && 2 ≤ ((neighbours n).filter fun m => (h.at m).failed).length

/-- The tile is put in safelight (R369): lasers OFF, DARK, its pieces re-placed. -/
def tileSafelight (t : Fin 12) (s : State) : State :=
  if s.tiles[t].safelight then s
  else
    let s := updTile t (fun x => { x with safelight := true, slReturn := false, cal := { x.cal with step := 0 } }) (darkTile t s)
    calibrateTileDone t (ditherFollow t (loseTile t s))

/-- The tile's sensors of which one has just failed, while the steps after a tile safelight run (R370). -/
def failsAgain (old new : Hk) (t : Nat) : Bool :=
  (List.range 282).any fun n => sensorTile n == some t && (new.at n).failed && !(old.at n).failed

/-- A cooling fault (R374). -/
def declareCooling (s : State) : State :=
  if s.hk.coolingFault then s else enterSafelight 0 { s with hk := { s.hk with coolingFault := true } }

/-- What untrusted sensors bring (R369, R370). -/
def judgeUntrusted (old : Hk) (s : State) : State :=
  let h := s.hk
  let s := (List.finRange 12).foldl (fun (s : State) (t : Fin 12) =>
    if ((List.range 282).any fun n => sensorTile n == some t.val && untrusted h n)
        || (s.tiles[t].slReturn && s.tiles[t].cal.step != 0 && failsAgain old h t.val)
    then tileSafelight t s else s) s
  if (List.range 282).any fun n => (sensorTile n).isNone && untrusted h n then declareCooling s else s

/-- TEMP of PWR_READING, once a second (R397): the hottest value used, rounded down to 1 °C (assumption 33). -/
def tempTick (h : Hk) : Hk :=
  let h := if h.rounds % 100 = 0 then { h with tempOut := (maxInt (h.sensors.toList.filterMap (·.used))).map (· / 100) } else h
  { h with rounds := h.rounds + 1 }

/-- Housekeeping's rounds run (R325, R382, R461): on the auxiliary rail, unless it is being reset or swapped
(R413). -/
def roundsRun (s : State) : Bool := s.mod.auxOn && !s.hk.halted && s.sec.window != some 19

/-- Without powered dies the readings are reported without cross-check (R378). -/
def bareRound (h : Hk) : Hk :=
  { h with sensors := vecMap (fun _ x => match x.raw with | some t => { x with used := some t, status := 0, subst := false } | none => x) h.sensors }

/-- SLOW_ROUND (R365–R374): checks, replacements, untrusted sensors, limit, caps, budget. The first round after a module
reset sets SIDEBAND_UP; by then configuration requests are answered (R321). -/
def slowRound (now : Nat) (faults : List (Fin 282)) (s : State) : State :=
  if !roundsRun s then s
  else if !s.mod.rails then { s with hk := bareRound s.hk }
  else if s.mod.perst then { s with hk := takeValues true s.hk }
  else
    let old := s.hk
    let h := { old with sensors := vecMap (checkSensor old faults) old.sensors }
    let new := (List.range 282).filter fun n => (h.at n).failed && !(old.at n).failed
    let h := { h with
      sensFaults := h.sensFaults + BitVec.ofNat 32 new.length
      relaxHold := h.relaxHold || (h.limit < 2700 && hadWorst old h) }
    let h := takeValues true h
    let h := { h with sensors := vecMap (fastMember h 0) h.sensors }
    let s := new.foldl (fun s n => note (.sensorFail n) s) { s with hk := h, mod := { s.mod with sidebandUp := true }, link := { s.link with cfgUp := true } }
    let s := judgeUntrusted old s
    { s with hk := tempTick (budgetTick (capsTick (limitRise now (limitFall now s.hk)))) }

def execSlowRound (now : Nat) (diodeFaults : List (Fin 282)) (s : State) : Out :=
  let t := slowRound now diodeFaults s
  doneWith (exitBit s t) s t

/-- FAST_ROUND (R365, R371): the sensors near their thresholds are taken, and L may fall. -/
def fastRound (now : Nat) (s : State) : State :=
  if !roundsRun s || !s.mod.rails || s.mod.perst || !s.mod.sidebandUp then s
  else { s with hk := limitFall now (takeValues false { s.hk with sensors := vecMap (fastMember s.hk 1) s.hk.sensors }) }

def execFastRound (now : Nat) (s : State) : Out := done s (fastRound now s)

/-- SENSOR_RETURN (R367): every check passed for 10 s, 1,000 slow rounds; logged and counted, its own reading is used again. -/
def sensorReturn (n : Fin 282) (s : State) : State :=
  if s.hk.sensors[n].failed && 1000 ≤ s.hk.sensors[n].passed then
    note (.sensorReturn n.val) { s with hk := { s.hk with
      sensFaults := s.hk.sensFaults + 1
      sensors := s.hk.sensors.set n.val { s.hk.sensors[n] with status := 0, disagree := 0, passed := 0, subst := false, used := s.hk.sensors[n].raw } } }
  else s

def execSensorReturn (sensor : Fin 282) (s : State) : Out := done s (sensorReturn sensor s)

/-- RELAX_HOLD_EXPIRY (R368). -/
def execRelaxHoldExpiry (s : State) : Out := done s { s with hk := { s.hk with relaxHold := false } }

/-- COOLING_FAULT (R374): L at 405 W and a sensor above its threshold, for 5 s. -/
def coolingFault (s : State) : State :=
  match worst s.hk with
  | some (_, m) => if s.hk.limit = 810 && 0 < m then declareCooling s else s
  | none => s

def execCoolingFault (s : State) : Out := doneWith (exitBit s (coolingFault s)) s (coolingFault s)

/-- TILE_SAFELIGHT_END (R370): every sensor of the tile is back; in SAFELIGHT the tile waits for the module's exit. -/
def tileSafelightEnd (t : Fin 12) (s : State) : State :=
  if s.tiles[t].safelight && s.mod.mstate != .safelight && s.mod.mstate != .fault
      && (List.range 282).all fun n => sensorTile n != some t.val || !(s.hk.at n).failed then
    let s := startCalib t (updTile t (fun x => { x with safelight := false }) { s with power := { s.power with tilesUp := s.power.tilesUp ||| (1#12 <<< t.val) } })
    updTile t (fun x => { x with slReturn := true }) s
  else s

def execTileSafelightEnd (tile : Fin 12) (s : State) : Out := done s (tileSafelightEnd tile s)

/-! ### Shutdown -/

/-- HK_TRIP (R398). -/
def tripWord (n : Nat) (temp : Int) : Nat := 2 ^ 31 + bitAt 30 (sensorClass n == 6) + n * 2 ^ 16 + wrap 16 temp

/-- The comparator trips (R376, R377, R380): everything but the auxiliary domain goes off. -/
def tripModule (n : Nat) (temp : Int) (s : State) : State :=
  let s := mainOff { s with hk := { s.hk with trip := BitVec.ofNat 32 (tripWord n temp) } }
  { s with mod := { s.mod with thermtrip := true, restartOk := false, restartArmed := false } }

/-- SENSOR_CONVERSION (R364, R376): two conversions in a row above the shutdown threshold trip the module. -/
def conversion (n : Fin 282) (temp : Int) (s : State) : State :=
  if !s.mod.auxOn then s
  else
    let beyond := decide (shutdownAt n.val < temp)
    let x := s.hk.sensors[n]
    let now := beyond && (x.beyond || x.tripped)
    let s := { s with hk := { s.hk with sensors := s.hk.sensors.set n.val { x with raw := some temp, beyond := beyond, tripped := now } } }
    if !now || x.tripped then s
    else if s.mod.thermtrip then { s with hk := { s.hk with trip := BitVec.ofNat 32 (tripWord n.val temp) } }
    else tripModule n.val temp s

def execSensorConversion (sensor : Fin 282) (temp : Int) (s : State) : Out :=
  let t := conversion sensor temp s
  if t.mod.thermtrip && !s.mod.thermtrip then doneReset s t else done s t

/-- A tripped module restarts (R379): THERMTRIP_N released, the trip logged, the rails raised; then the timeline of R321, or
the wait for PERST_N and the inputs. -/
def restart (dA dB : Bool) (s : State) : State :=
  let s := note (.trip s.hk.trip.toNat) { s with mod := { s.mod with thermtrip := false, restartOk := false, restartArmed := false } }
  startIfReady dA dB (moduleReset { s with mod := { s.mod with rails := s.mod.auxOn && s.mod.mainOn } })

/-- Every sensor is below its restart value (R366). -/
def coolEnough (h : Hk) : Bool := (List.range 282).all fun n => match (h.at n).raw with | some t => t < restartBelow n | none => false

/-- THERMAL_RESTART (R379, R500): with THERM_RESTART low, PERST_N or the 48 V input must follow. -/
def thermalRestart (dA dB : Bool) (s : State) : State :=
  if s.mod.thermtrip && coolEnough s.hk then
    (if s.mod.thermRestart then restart dA dB s else { s with mod := { s.mod with restartOk := true } })
  else s

/-- The events of a start count from the reset state. -/
def doneStart (s t : State) : Out := if t.mod.mstate == s.mod.mstate then doneReset s t else done (moduleReset t) t

def execThermalRestart (digestA digestB : Bool) (s : State) : Out := doneStart s (thermalRestart digestA digestB s)

end Sys2Proof.Machine
end

