-- ==== Sys2Proof/Machine/Regs.lean ====
section
/-! DEFINITION. BAR accesses (R6–R9, R472–R491): register writes, RC reads, the interrupt block, the admin queue's control,
GLB_PLACEMENT, the spread spectrum and BAR4. -/
namespace Sys2Proof.Machine

/-! ### When an access is served (R489) -/

/-- The function answers memory accesses: configuration answered (R321 step 6), link usable, not in D3hot. -/
def barUp (s : State) (fn : Fin 64) : Bool := s.link.cfgUp && linkUsable s && s.funcs[fn].enabled && !s.funcs[fn].d3

/-- Blocks whose writes are taken: all but in FAULT, where only GLB and SEC are (R470, R489). -/
def blockOpen (s : State) (off : Nat) : Bool :=
  s.mod.mstate != .fault || off < 0x1000 || (0x50000 ≤ off && off < 0x60000)

/-- A write to PF BAR0 at this offset is taken. -/
def pfOpen (s : State) (off : Nat) : Bool := barUp s 0 && blockOpen s off

/-- The word with the bytes of another kept: low `n` bits of `v`. -/
def lowBits (n : Nat) (v : Nat) : Nat := v % 2 ^ n

/-- An address register's LO word: bits [31:12]; HI: bits [19:0] (R338, R431). -/
def loField (v : Word) : Word := v &&& 0xFFFFF000
def hiField (v : Word) : Word := v &&& 0xFFFFF

/-! ### Admin queue control (R338) -/

def pair (lo hi : Word) : Nat := lo.toNat + hi.toNat * 2 ^ 32

/-- Fields of AQ_CTRL that a write sets: VECTOR; SIZE_LOG2 where it is 6–16 and the queue does not run (R6, R338). -/
def aqFields (v : Word) (a : Admin) : Admin :=
  let size := v.toNat / 2 ^ 8 % 32
  { a with
    vector := BitVec.ofNat 11 (v.toNat / 2 ^ 16)
    sizeLog2 := if !a.running && 6 ≤ size && size ≤ 16 then size else a.sizeLog2 }

/-- Queue 0 as an enable from stopped makes it: the registers as they then read, SEQ from 0, PRIORITY 7. -/
def freshAdminQueue (a : Admin) : Queue :=
  { num := 0, ctx := 0, slot := 0, sizeLog2 := a.sizeLog2, vector := a.vector.toNat, priority := 7
    ring := pair a.ringLo a.ringHi, cq := pair a.cqLo a.cqHi }

/-- EN = 1 while RUNNING is 0 (R338). -/
def aqStart (s : State) : State :=
  let a := s.admin
  let s := { s with
    admin := { a with en := true, running := true }
    queues := freshAdminQueue a :: s.queues.filter (·.num != 0) }
  let s := updCtx 0 (fun c => { c with dbPage := pair a.dbLo a.dbHi, csp := pair a.cspLo a.cspHi, cspOn := true, dirty := true }) s
  writeSlot 0 s

/-- EN = 1: a fresh start from stopped, or admission resumed while the queue drains. -/
def aqEnable (v : Word) (s : State) : State :=
  if !pfOpen s 0x1000 then s
  else
    let s := { s with admin := aqFields v s.admin }
    if s.admin.running then { s with admin := { s.admin with en := true } } else aqStart s

def execAqEnable (value : Word) (s : State) : Out := barDone 0 s (aqEnable value s)

/-- EN = 0: admission stops; RUNNING falls once the admitted commands have completed. -/
def aqDisable (v : Word) (s : State) : State :=
  if !pfOpen s 0x1000 then s
  else adminDrain { s with admin := { aqFields v s.admin with en := false } }

def execAqDisable (value : Word) (s : State) : Out := barDone 0 s (aqDisable value s)

/-! ### Placement and spread spectrum -/

/-- GLB_PLACEMENT (R233–R236): reserved encodings keep a field; the write replaces the pending target: under SIX_NINES the tile
that is to be the reserve is emptied, and replicas follow the profile. -/
def placementWrite (v : Word) (s : State) : State :=
  if !pfOpen s 0x40 then s
  else
    let p := v.toNat % 4
    let r := v.toNat / 16 % 16
    let y := s.tailor
    let y := { y with
      profile := if p = 3 then y.profile else BitVec.ofNat 2 p
      reserve := if 12 ≤ r && r ≤ 14 then y.reserve else BitVec.ofNat 4 r
      rebalance := true, moved := [] }
    -- a reserve that the profile gives up may take pieces again (R233, R238)
    let freed := if y.profile = 1 then [] else (y.reserveNow.map tileCores).getD []
    let s := { s with tailor := { y with toEmpty := none, reserveNow := if y.profile = 1 then y.reserveNow else none, freed := freed } }
    let want := if y.profile = 1 && s.mod.mstate == .ready then reserveWant s (fun _ => true) else none
    retarget { s with tailor := { s.tailor with toEmpty := if want = s.tailor.reserveNow then none else want } }

def execGlbPlacementWrite (value : Word) (s : State) : Out := barDone 0 s (placementWrite value s)

/-- CLK_SSC (R31, R33): a reserved depth keeps the old one. -/
def sscWrite (v : Word) (s : State) : State :=
  if !pfOpen s 0x40000 then s
  else if 5 < v.toNat % 8 then s
  else { s with mod := { s.mod with sscDepth := BitVec.ofNat 3 v.toNat } }

def execClkSscWrite (value : Word) (s : State) : Out := barDone 0 s (sscWrite value s)

/-- The next modulation period begins: every root PLL that runs applies the depth, and one that locks later locks with it (R31).
-/
def execSscDepthApply (s : State) : Out :=
  done s (if s.mod.rails && !s.mod.perst then { s with mod := { s.mod with sscActive := s.mod.sscDepth } } else s)

/-! ### Reads with side effects (R7, R9) -/

/-- A read of PF BAR0: the bytes addressed, and Unsupported Request or nothing where it is not served (R301, R315). -/
def answerRead (s : State) (off width : Nat) : Reply :=
  if s.funcs[(0 : Fin 64)].d3 then .unsupportedRequest
  else .word (BitVec.ofNat 32 (readBytes (bar0Read s 0 (off / 4 * 4)) off width))

/-- A read of an RC register whose lowest addressed byte lies in it: the answer from before, then the fields are cleared. -/
def rcRead (reg width off : Nat) (clear : State → State) (s : State) : State :=
  if off / 4 * 4 != reg || width = 0 || !(s.link.cfgUp && linkUsable s) then s
  else
    let r := answerRead s off width
    if s.funcs[(0 : Fin 64)].d3 then { s with reply := r }
    else if s.mod.mstate == .fault && !blockOpen s reg then { s with reply := r }
    else { clear s with reply := r }

def execClkStatusRead (width off : Nat) (s : State) : Out :=
  done s (rcRead 0x40004 width off (fun s => { s with mod := { s.mod with lockLoss := 0 } }) s)

def execGlbLinkRead (width off : Nat) (s : State) : Out :=
  done s (rcRead 0x48 width off (fun s => { s with link := { s.link with retrains := 0 } }) s)

def execPwrEventsRead (width off : Nat) (s : State) : Out :=
  done s (rcRead 0x30014 width off (fun s =>
    { s with power := { s.power with wakes := 0, retries := 0 }, hk := { s.hk with throttles := 0 } }) s)

/-! ### The INT block (R481, R482, R484) -/

/-- Offset of INT_CAUSE and INT_ENABLE decides the block: INT lies in PF BAR0 past GLB, in VF BAR0 at 0x100. -/
def intOpen (s : State) (fn : Fin 64) : Bool := barUp s fn && s.mod.mstate != .fault

/-- Bits of the INT registers that the function implements (R484). -/
def intMask (fn : Fin 64) : BitVec 11 := if fn = 0 then 0x7FF else 0x621

/-- INT_CAUSE (R8, R481): 1s clear; a bit that its event `meets` in the same cycle reads 1 and sends nothing where it was
set already. -/
def intCauseWrite (fn : Fin 64) (v : Word) (meets : BitVec 11) (s : State) : State :=
  if !intOpen s fn then s
  else
    let was := s.funcs[fn].intCause
    let hit := meets &&& intMask fn
    let s := updFunc fn (fun f => { f with intCause := (f.intCause &&& ~~~(v.setWidth 11)) ||| (hit &&& was) }) s
    raiseInt fn (hit &&& ~~~was) s

def execIntCauseWrite (fn : Fin 64) (value : Word) (meets : BitVec 11) (s : State) : Out :=
  barDone fn s (intCauseWrite fn value meets s)

/-- INT_ENABLE (R482): one message when a bit written from 0 to 1 has its cause set. -/
def intEnableWrite (fn : Fin 64) (v : Word) (s : State) : State :=
  if !intOpen s fn then s
  else
    let f := s.funcs[fn]
    let new := v.setWidth 11 &&& intMask fn
    let s := updFunc fn (fun f => { f with intEnable := new }) s
    if new &&& ~~~f.intEnable &&& f.intCause = 0 then s else sendMsix fn f.intVector.toNat s

def execIntEnableWrite (fn : Fin 64) (value : Word) (s : State) : Out := barDone fn s (intEnableWrite fn value s)

/-- INT_TEST (R481): 1s set INT_CAUSE bits as if their events had occurred. -/
def execIntTestWrite (fn : Fin 64) (value : Word) (s : State) : Out :=
  barDone fn s (if intOpen s fn then raiseInt fn (value.setWidth 11) s else s)

/-! ### Other registers -/

/-- RW registers of PF BAR0 without a behaviour of their own: address registers of the admin queue while it does not run,
GLB_FSP, INT_VECTOR, HOLD of PWR_CTRL is POWER_TARGET_WRITE's, SEC and DBG addresses (R338, R431, R432). -/
def pfWrite (off : Nat) (v : Word) (s : State) : State :=
  let a := s.admin
  let adm := fun (a : Admin) => if s.admin.running then s else { s with admin := a }
  match off with
  | 0x50 => updFunc 0 (fun f => { f with fspLo := v &&& 0xFFFFF001, dirty := true }) s
  | 0x54 => updFunc 0 (fun f => { f with fspHi := hiField v, dirty := true }) s
  | 0x1008 => adm { a with ringLo := loField v }
  | 0x100C => adm { a with ringHi := hiField v }
  | 0x1010 => adm { a with cqLo := loField v }
  | 0x1014 => adm { a with cqHi := hiField v }
  | 0x1018 => adm { a with dbLo := loField v }
  | 0x101C => adm { a with dbHi := hiField v }
  | 0x1020 => adm { a with cspLo := loField v }
  | 0x1024 => adm { a with cspHi := hiField v }
  | 0x20008 => updFunc 0 (fun f => { f with intVector := v.setWidth 11 }) s
  | 0x50004 => { s with sec := { s.sec with hybridReq := v.getLsbD 0 } }
  | 0x50008 => { s with sec := { s.sec with updLo := loField v } }
  | 0x5000C => { s with sec := { s.sec with updHi := hiField v } }
  | 0x50010 =>
    let n := v.toNat % 2 ^ 14
    if 3 ≤ n && n ≤ 14336 then { s with sec := { s.sec with updLen := n } } else s
  | 0xF0004 => { s with sec := { s.sec with tokLo := loField v } }
  | 0xF0008 => { s with sec := { s.sec with tokHi := hiField v } }
  | _ => s

/-- RW registers of VF BAR0 (R483). -/
def vfWrite (fn : Fin 64) (off : Nat) (v : Word) (s : State) : State :=
  match off with
  | 0x50 => updFunc fn (fun f => { f with fspLo := v &&& 0xFFFFF001, dirty := true }) s
  | 0x54 => updFunc fn (fun f => { f with fspHi := hiField v, dirty := true }) s
  | 0x108 => updFunc fn (fun f => { f with intVector := v.setWidth 11 &&& 0x3F }) s
  | _ => s

/-- Vectors of a function (R308, R310). -/
def vectorCount (fn : Fin 64) : Nat := if fn = 0 then 2048 else 64

/-- A 32-bit write into the MSI-X table (R486): address low and high, data, vector control. Unmasking a vector sends its
pending message (R310). -/
def msixWord (fn : Fin 64) (off : Nat) (v : Word) (s : State) : State :=
  let n := off / 16
  if vectorCount fn ≤ n then s
  else
    let old := s.funcs[fn].vector n
    let new : Msix := match off % 16 with
      | 0 => { old with addr := old.addr &&& 0xFFFFFFFF00000000 ||| v.setWidth 64 }
      | 4 => { old with addr := old.addr &&& 0xFFFFFFFF ||| (v.setWidth 64 <<< 32) }
      | 8 => { old with data := v }
      | _ => { old with mask := v.getLsbD 0 }
    sendPending fn (updFunc fn (fun f => { f with msix := (n, new) :: f.msix.filter (·.1 != n) }) s)

/-- BAR4: aligned 32-bit and 64-bit writes (R486); PBA and unused offsets ignore writes. -/
def bar4Write (fn : Fin 64) (off width : Nat) (v : BitVec 64) (s : State) : State :=
  if width = 4 && off % 4 = 0 then msixWord fn off (v.setWidth 32) s
  else if width = 8 && off % 8 = 0 then msixWord fn (off + 4) ((v >>> 32).setWidth 32) (msixWord fn off (v.setWidth 32) s)
  else s

/-- BAR2: the NUDGE word is write-only and reads 0, as every other offset does (R308). -/
def bar2Read : Nat := 0

/-- A 32-bit word of BAR4 (R308, R310, R486): the MSI-X table, the pending-bit array; offsets not listed read 0. -/
def bar4Read (s : State) (fn : Fin 64) (off : Nat) : Nat :=
  let f := s.funcs[fn]
  let pba := if fn = 0 then 0x8000 else 0x800
  if off < 16 * vectorCount fn then
    let x := f.vector (off / 16)
    match off % 16 / 4 with
    | 0 => x.addr.toNat % 2 ^ 32
    | 1 => x.addr.toNat / 2 ^ 32
    | 2 => x.data.toNat
    | _ => bitAt 0 x.mask
  else if pba ≤ off && off < pba + vectorCount fn / 8 then
    ((f.pba.filter fun v => v / 32 == (off - pba) / 4).map fun v => 2 ^ (v % 32)).foldl (· + ·) 0
  else 0

/-- REGISTER_WRITE (R7, R9, R315, R489): a poisoned write is discarded, as is one of another width or not aligned; a write to
a register with a command of its own is that command's. -/
def registerWrite (fn : Fin 64) (bar off width : Nat) (v : BitVec 64) (poisoned : Bool) (s : State) : State :=
  if !barUp s fn then s
  else if poisoned then { s with link := { s.link with aer := (fn.val, 1) :: s.link.aer } }
  else if bar = 4 then bar4Write fn off width v s
  else if bar = 0 && width = 4 && off % 4 = 0 then
    (if fn = 0 then (if blockOpen s off then pfWrite off (v.setWidth 32) s else s)
     else if s.mod.mstate == .fault && 0x100 ≤ off then s else vfWrite fn off (v.setWidth 32) s)
  else s

def execRegisterWrite (fn : Fin 64) (bar off width : Nat) (value : BitVec 64) (poisoned : Bool) (s : State) : Out :=
  barDone fn s (registerWrite fn bar off width value poisoned s)

/-- MSIX_VECTOR_UNMASK (R310): a message that fell due while the vector was masked is sent, once. -/
def vectorUnmask (fn : Fin 64) (v : Nat) (s : State) : State :=
  if !barUp s fn || vectorCount fn ≤ v then s
  else sendPending fn (updFunc fn (fun f => { f with msix := (v, { f.vector v with mask := false }) :: f.msix.filter (·.1 != v) }) s)

def execMsixVectorUnmask (fn : Fin 64) (vec : Nat) (s : State) : Out := barDone fn s (vectorUnmask fn vec s)

end Sys2Proof.Machine
end

