-- ==== Sys2Proof/Machine/Power.lean ====
section
/-! DEFINITION. Power: the monitor converters (R390–R396), power states and their transitions (R381–R389), the inputs and
their sequencing (R504–R507), the laser supply (R464). -/
namespace Sys2Proof.Machine

/-! ### Monitor converters -/

def updMon (m : Fin 2) (f : Mon → Mon) (s : State) : State := { s with hk := { s.hk with mon := s.hk.mon.set m.val (f s.hk.mon[m]) } }

/-- The sequences of R391 as housekeeping programs them: 25 entries on MA, 24 on MB. -/
def roundInputs (m : Nat) : List Nat := if m = 0 then span 0 24 ++ [47] else span 24 23 ++ [47]

/-- A converter programmed for the rounds (DEDUCED, assumption 34). -/
def Mon.programmed (m : Nat) (x : Mon) : Mon :=
  { x with
    en := true, trig := 1, seqLen := (roundInputs m).length - 1
    seqEnt := vecOf 48 fun i => BitVec.ofNat 6 ((roundInputs m).getD i 0) }

/-- REF_ENABLE (R392): housekeeping's first act, the converters' programs with it. -/
def execRefEnable (s : State) : Out :=
  done s (if s.mod.auxOn then { s with hk := { s.hk with refEn := true, mon := vecMap Mon.programmed s.hk.mon } } else s)

/-- REF_SETTLED (R392): 500 µs after EN. -/
def execRefSettled (s : State) : Out := done s (if s.hk.refEn then { s with hk := { s.hk with refSettled := true } } else s)

/-- Entry `i` of a sequence. -/
def Mon.entry (x : Mon) (i : Nat) : BitVec 6 := x.seqEnt.toList.getD i 0

/-- A trigger of the sequence (R395): dropped while the sequence runs; after an injected conversion in progress. -/
def Mon.trigger (settled : Bool) (x : Mon) : Mon :=
  if !x.en then x
  else if x.seqBusy then { x with overlap := satInc x.overlap 0xFFFF }
  else { x with seqBusy := true, seqPos := 0, conv := if x.conv.isSome then x.conv else some (x.entry 0, false, !settled) }

/-- MC_SW_TRIGGER (R395). -/
def execMcSwTrigger (mon : Fin 2) (s : State) : Out := done s (updMon mon (Mon.trigger s.hk.refSettled) s)

/-- MC_INJECT (R394): GO starts a single conversion of INPUT where the converter is idle. -/
def Mon.inject (settled : Bool) (v : Word) (x : Mon) : Mon :=
  if !v.getLsbD 8 || !x.en then x
  else if x.conv.isSome || x.seqBusy then { x with injDropped := satInc x.injDropped 0xFFFF }
  else { x with conv := some (v.setWidth 6, true, !settled) }

def execMcInject (mon : Fin 2) (value : Word) (s : State) : Out := done s (updMon mon (Mon.inject s.hk.refSettled value) s)

/-- A result lands (R393): an unread one is replaced. -/
def Mon.land (input : BitVec 6) (inj unsettled : Bool) (code : BitVec 16) (x : Mon) : Mon :=
  { x with data := code, input := input, inj := inj, notSettled := unsettled, overrun := x.overrun || x.valid, valid := true }

/-- The conversion in progress ends; the sequence goes on or ends. -/
def Mon.convDone (settled : Bool) (code : BitVec 16) (x : Mon) : Mon :=
  match x.conv with
  | none => x
  | some (input, inj, unsettled) =>
    let x := x.land input inj unsettled code
    if !x.seqBusy then { x with conv := none }
    else if inj then { x with conv := some (x.entry x.seqPos, false, !settled) }
    else if x.seqPos < x.seqLen then { x with seqPos := x.seqPos + 1, conv := some (x.entry (x.seqPos + 1), false, !settled) }
    else { x with seqBusy := false, conv := none }

def execMcConversionDone (mon : Fin 2) (code : BitVec 16) (s : State) : Out :=
  done s (updMon mon (Mon.convDone s.hk.refSettled code) s)

/-- Housekeeping reads MC_DATA (R393): VALID and OVERRUN clear. -/
def Mon.read (x : Mon) : Mon := { x with valid := false, overrun := false }

def execMcDataRead (mon : Fin 2) (s : State) : Out :=
  done s { updMon mon Mon.read s with reply := .word (BitVec.ofNat 32 (monData s.hk.mon[mon])) }

/-- MC_DROPS_READ (R398). -/
def execMcDropsRead (mon : Fin 2) (s : State) : Out :=
  done s { updMon mon (fun x => { x with overlap := 0, injDropped := 0 }) s with
    reply := .word (BitVec.ofNat 32 (s.hk.mon[mon].injDropped + s.hk.mon[mon].overlap * 2 ^ 16)) }

/-- MC_PLAUS_READ (R398): FAILS clears. -/
def execMcPlausRead (s : State) : Out :=
  done s { s with hk := { s.hk with plausFails := 0 }, reply := .word (BitVec.ofNat 32 (mcPlaus s)) }

/-- A converter's part of a round: every result lands and is read; whether one was overrun (R396). -/
def Mon.runRound (settled : Bool) (codes : List Nat) (x : Mon) : Mon × Bool :=
  (List.range codes.length).foldl (fun (acc : Mon × Bool) i =>
    let y := acc.1.land (acc.1.entry i) false (!settled) (BitVec.ofNat 16 (codes.getD i 0))
    (y.read, acc.2 || y.overrun)) (x, false)

/-- Codes by input number of a round. -/
def roundCode (a b : List Nat) (input : Nat) : Nat := if input < 24 then a.getD input 0 else b.getD (input - 24) 0

/-- Input power of a round in W × 2³² (R390, R391). -/
def roundPower (a b : List Nat) : Nat := roundCode a b 0 * roundCode a b 1 * 2500

/-- Codes 28 and 29 lie within the laser rail's limits (R503): 2.85–3.15 V of 5.0 V, at most 56.0 A of 60.0 A. -/
def laserInLimits (a b : List Nat) : Bool :=
  285 * 65536 ≤ roundCode a b 28 * 500 && roundCode a b 28 * 500 ≤ 315 * 65536 && roundCode a b 29 * 60 ≤ 56 * 65536

/-- The laser rail is present: some laser is not OFF (R503). -/
def laserRail (s : State) : Bool := s.tiles.toList.any fun x => x.lasers.toList.any fun l => l.st != .off && l.st != .failed

/-- The 48 V input lies between 38.0 V and 40.0 V (R506). -/
def lowInput (code : Nat) : Bool := 38 * 65536 ≤ code * 125 / 2 && code * 125 / 2 < 40 * 65536

/-- What housekeeping makes of a round's results (R391, R396, R464, R509). -/
def judgeRound (a b : List Nat) (lost : Bool) (s : State) : State :=
  let d := ((a.getD 24 0 : Nat) - (b.getD 23 0 : Nat) : Int).natAbs
  let fails := 12 < d
  let h := s.hk
  let inRow := if fails then h.failsInRow + 1 else 0
  let fault := h.monitorFault || 3 ≤ inRow
  let ok := !fails && !lost
  let h := { h with
    plausDiff := min d 0xFFFF
    plausFails := if fails then satInc h.plausFails 0xFFFF else h.plausFails
    failsInRow := inRow, monitorFault := fault, goodInRow := if ok then h.goodInRow + 1 else 0
    powers := ((if ok then [roundPower a b] else h.powers.take 1) ++ h.powers).take 1000
    tileCodes := ((if ok then [(span 4 12).foldl (fun n i => n + roundCode a b i) 0] else h.tileCodes.take 1) ++ h.tileCodes).take 100
    volts := ((if ok then [roundCode a b 0] else h.volts.take 1) ++ h.volts).take 100
    amps := ((if ok then [roundCode a b 1] else h.amps.take 1) ++ h.amps).take 100
    laserOut := if !ok then h.laserOut else if laserInLimits a b || !laserRail s then 0 else h.laserOut + 1 }
  let t : State := { s with hk := h }
  let t := if fault && !s.hk.monitorFault then note .monitorFault t else t
  if ok then
    let t := if lowInput (roundCode a b 0) then note .undervoltage t else t
    let t : State := { t with vault := { t.vault with holdup := 50463 ≤ roundCode a b 27 } }
    if h.laserOut = 3 then enterSafelight 2 { t with hk := { t.hk with laserSupplyOk := false } } else t
  else t

/-- MONITOR_ROUND (R391, R395): both sequences, whose trigger is dropped on a converter that is still running one. -/
def monitorRound (a b : List Nat) (s : State) : State :=
  let x := s.hk.mon[0]
  let y := s.hk.mon[1]
  if !roundsRun s || !s.mod.rails || !x.en || !y.en then s
  else if x.seqBusy || y.seqBusy then
    { s with hk := { s.hk with
        goodInRow := 0
        mon := vecMap (fun _ m => if m.seqBusy then { m with overlap := satInc m.overlap 0xFFFF } else m) s.hk.mon } }
  else
    let p := x.runRound s.hk.refSettled a
    let r := y.runRound s.hk.refSettled b
    judgeRound a b (p.2 || r.2 || !s.hk.refSettled) { s with hk := { s.hk with mon := vecMap (fun i _ => if i = 0 then p.1 else r.1) s.hk.mon } }

def execMonitorRound (a b : List Nat) (s : State) : Out :=
  let t := monitorRound a b s
  doneWith (exitBit s t) s t

/-- MONITOR_FAULT_CLEAR (R396): after 100 valid rounds in a row. -/
def execMonitorFaultClear (s : State) : Out :=
  done s (if 100 ≤ s.hk.goodInRow then { s with hk := { s.hk with monitorFault := false } } else s)

/-- LASER_SUPPLY_FAULT (R464). -/
def laserSupplyFault (s : State) : State := enterSafelight 2 { s with hk := { s.hk with laserSupplyOk := false } }

def execLaserSupplyFault (s : State) : Out := doneWith (exitBit s (laserSupplyFault s)) s (laserSupplyFault s)

/-! ### Power states -/

/-- POWER_TARGET_WRITE (R383, R397): reserved values keep their field (R6); in housekeeping's swap window the write is recorded,
and acted on when the window closes (R490). -/
def powerTargetWrite (v : Word) (s : State) : State :=
  if !pfOpen s 0x30000 then s
  else
    let hold := v.toNat / 2 ^ 8 % 256
    let s := { s with power := { s.power with hold := if hold = 0 then s.power.hold else hold } }
    match pstateOf (v.toNat % 8) with
    | none => s
    | some p =>
      let s := { s with power := { s.power with target := p } }
      askHk (.power p) s

def execPowerTargetWrite (value : Word) (s : State) : Out := barDone 0 s (powerTargetWrite value s)

/-- PWR_CAP_WRITE (R371, R397): 81–270 in units of 5 W. -/
def execPwrCapWrite (value : Word) (s : State) : Out :=
  barDone 0 s (
    let n := value.toNat % 2 ^ 9
    if pfOpen s 0x30008 && 81 ≤ n && n ≤ 270 then { s with hk := { s.hk with hostCap := n * 10 } } else s)

/-- The domains are served: rails up, no module reset, not OFF. -/
def domainsUp (s : State) : Bool := s.mod.rails && !s.mod.perst && s.power.current != .off

/-- DOMAIN_DEMAND_WAKE (R384, R385): a domain at rest wakes, and the wake is counted; one that drains is open again. -/
def demandWake (d : Domain) (imageOk : Bool) (s : State) : State :=
  if !domainsUp s then s
  else if !domainAsleep s d then { s with power := { s.power with draining := s.power.draining.filter (· != d) } }
  else
    let t := wakeDomain d imageOk s
    if domainAsleep t d then t else { t with power := { t.power with wakes := satInc t.power.wakes 0xFF } }

def execDomainDemandWake (dom : Domain) (imageOk : Bool) (s : State) : Out := done s (demandWake dom imageOk s)

/-- The resting state pulls a domain down. -/
def restingDown (s : State) : Bool := domainsUp s && s.power.moving != some .run && s.power.current != .run

/-- A domain's power-down is tried; after a drain that is a retry, and counted (R385). -/
def retryDomain (d : Domain) (s : State) : State :=
  settleDomain s.power.current (if s.power.retrying.contains d then
    { s with power := { s.power with retries := satInc s.power.retries 0xFF } } else s) d

/-- DOMAIN_HOLD_EXPIRY (R383, R385). -/
def execDomainHoldExpiry (dom : Domain) (s : State) : Out :=
  done s (if restingDown s && !domainAsleep s dom then retryDomain dom s else s)

/-- DRAIN_RETRY (R385): counted, and tried again. -/
def execDrainRetry (dom : Domain) (s : State) : Out :=
  done s (if restingDown s && s.power.draining.contains dom then retryDomain dom s else s)

/-- One domain on the way to a shallower state (R386, R387): awake for RUN and IDLE, up but dark for SLEEP. A tile bound for
IDLE locks first and rests when its hold expires (DEDUCED, assumption 35). -/
def liftDomain (p : PState) (s : State) (d : Domain) : State :=
  match p, d with
  | .sleep, .tile t =>
    if s.tiles[t].rest == .deep then
      { updTile t (fun x => { x with rest := .sleep, heated := true }) s with power := { s.power with tilesUp := s.power.tilesUp ||| (1#12 <<< t.val) } }
    else s
  | .sleep, .hub h => { s with power := { s.power with hubsUp := s.power.hubsUp ||| (1#4 <<< h.val) } }
  | .sleep, _ => s
  | _, d => if domainAsleep s d then wakeDomain d true s else s

/-- The rails that SAFELIGHT keeps off stay off (R389). -/
def movedTo (p : PState) (s : State) : State :=
  nextMove { s with power := { s.power with current := p, moving := none } }

/-- A completion record of some queue can be written and is not. -/
def recordsDue (s : State) : Bool :=
  s.queues.any fun q => match q.entry? q.recs with | some e => recordDue s q e | none => false

/-- POWER_TRANSITION_DONE (R273, R386, R388): the transition's target is reached. DEEP waits for every work item in progress;
OFF waits for the work items in write-out and for the records that remain. -/
def transitionDone (s : State) : State :=
  match s.power.moving with
  | none => s
  | some .off =>
    if s.works.any Work.inWriteOut || recordsDue s then s
    else
    let s := mainOff s
    { s with power := { s.power with current := .off } }
  | some p =>
    if p == .deep && s.works.any fun w => !itemEnded s w.q w.seq then s
    else if s.power.current.code ≤ p.code then movedTo p (allDomains.foldl (settleDomain p) s)
    else movedTo p (allDomains.foldl (liftDomain p) { s with power := { s.power with draining := [], retrying := [] } })

def execPowerTransitionDone (s : State) : Out :=
  let t := transitionDone s
  if s.power.moving == some .off && t.power.moving.isNone then doneReset s t else done s t

/-- WAKE_N (R388, R499): 100 µs low in OFF starts a full power-up. -/
def wakeN (lowUs : Nat) (s : State) : State :=
  if 100 ≤ lowUs && s.power.current == .off && !s.mod.perst then startIfReady true true s else s

def execWakeN (lowUs : Nat) (s : State) : Out := doneStart s (wakeN lowUs s)

/-! ### Inputs -/

/-- The main rails are raised in order (R504 steps 3–6), the hold-up bank uncharged; the timeline runs once PERST_N is
deasserted (R505). A tripped module waits for its own restart (R379). -/
def raiseRails (s : State) : State :=
  if s.mod.auxOn && s.mod.mainOn && !s.mod.thermtrip && !s.mod.rails then
    startIfReady true true (moduleReset { s with mod := { s.mod with rails := true } })
  else s

/-- AUX_VALID (R504, R500): the auxiliary domain runs, SMB_ADDR is sampled. -/
def execAuxValid (smbAddr : BitVec 2) (s : State) : Out :=
  let t := if s.mod.auxOn then s else raiseRails { s with mod := { s.mod with auxOn := true }, mgmt := { s.mgmt with smbAddr := smbAddr } }
  doneStart s t

/-- AUX_LOSS (R507): every rail off, HK_TRIP lost, the sideband silent. -/
def auxLoss (s : State) : State :=
  if !s.mod.auxOn then s
  else
    let s := mainOff s
    { s with
      mod := { s.mod with auxOn := false, thermtrip := false, restartOk := false, restartArmed := false }
      hk := { s.hk with trip := 0, sensors := Vector.replicate 282 {} }
      mgmt := { s.mgmt with eid := 0 } }

def execAuxLoss (s : State) : Out := doneReset s (auxLoss s)

/-- The 48 V input comes into range: a tripped module whose restart condition has held restarts (R379), any other raises its
rails (R504, R506). -/
def inputUp (s : State) : State :=
  let s := { s with mod := { s.mod with mainOn := true } }
  if s.mod.thermtrip && s.mod.restartArmed && s.mod.auxOn then restart true true s else raiseRails s

/-- INPUT_48V_VALID (R504). -/
def execInput48vValid (s : State) : Out := doneStart s (if s.mod.mainOn then s else inputUp s)

/-- INPUT_48V_RECOVERY (R506). -/
def execInput48vRecovery (s : State) : Out := doneStart s (if s.mod.mainOn then s else inputUp s)

/-- The 48 V input leaves its range (R506): as a trip of the IOD, without THERMTRIP_N and HK_TRIP. -/
def inputDown (s : State) : State :=
  if !s.mod.mainOn then s
  else
    let s := mainOff s
    { s with mod := { s.mod with mainOn := false, restartArmed := s.mod.restartOk } }

def execInput48vLoss (s : State) : Out := doneReset s (inputDown s)

def execInput48vOvervoltage (s : State) : Out := doneReset s (inputDown s)

end Sys2Proof.Machine
end

