-- ==== Sys2Proof/Machine/HostLink.lean ====
section
/-! DEFINITION. The host link: PERST_N and the timeline (R321–R325), function resets and SR-IOV (R309, R311), D3hot (R301),
link training (R303, R304), configuration requests (R323), ATS (R312, R313), DOE (R316), IDE failures (R318). -/
namespace Sys2Proof.Machine

/-! ### PERST_N and start-up -/

/-- A filtered input accepts the pulse (R499); from 50 to 60 ns the spec leaves it open (assumption 5). -/
def pulseAccepted (ns : Nat) : Bool := 60 ≤ ns || (50 ≤ ns && Config.filterAccepts ns)

/-- PERST_N asserted is a module reset (R325); housekeeping's thermal protection and the sideband's table stand on until the
timeline starts again (R325, R455). -/
def perstAssert (ns : Nat) (s : State) : State :=
  if pulseAccepted ns then
    let t := moduleReset s
    { t with mod := { t.mod with perst := true, sidebandUp := s.mod.sidebandUp, restartArmed := s.mod.restartArmed || s.mod.restartOk }, hk := s.hk }
  else s

def execPerstNAssert (widthNs : Nat) (s : State) : Out := doneReset s (perstAssert widthNs s)

/-- PERST_N deasserted (R321, R379, R388, R505): the timeline runs, where the inputs are valid and no trip holds the module. -/
def perstDeassert (dA dB pin : Bool) (s : State) : State :=
  if !s.mod.perst then s
  else
    let s : State := { s with mod := { s.mod with perst := false } }
    let s := if s.mod.thermtrip then (if s.mod.restartArmed && s.mod.auxOn && s.mod.mainOn then restart dA dB s else s)
      else startIfReady dA dB s
    { s with mgmt := { s.mgmt with provision := pin } }

def execPerstNDeassert (digestA digestB : Bool) (provisionPin : Bool) (s : State) : Out :=
  doneStart s (perstDeassert digestA digestB provisionPin s)

/-- MEMORY_TRAINING_DONE (R321 step 9): the Shuttles serve queues; steps 6 and 8 lie before it. -/
def trainingDone (s : State) : State :=
  if s.mod.rails && !s.mod.perst && s.mod.mstate != .powerup && !s.sec.recovery then
    { s with mod := { s.mod with trained := true }, link := { s.link with cfgUp := true, doeBusy := false } }
  else s

def execMemoryTrainingDone (s : State) : Out := done s (trainingDone s)

/-! ### Function resets -/

/-- A function's own state at its reset (R311, R487). -/
def Func.cleared (f : Func) : Func := { enabled := f.enabled }

/-- Every context that meets `p` is destroyed without a record (R311): its work cancelled (R298), then as R357. -/
def destroyCtxs (p : Ctx → Bool) (s : State) : State :=
  (s.ctxs.filter p).foldl (fun s c => wipeCtx c.num (endAll c.num .cancelled s)) s

/-- VF_FLR (R311). -/
def vfFlr (fn : Fin 64) (s : State) : State :=
  if fn = 0 || !s.funcs[fn].enabled then s
  else
    let s := updFunc fn Func.cleared (destroyCtxs (·.owner == fn) s)
    { s with link := { s.link with xlats := s.link.xlats.filter (·.fn != fn) } }

def execVfFlr (fn : Fin 64) (s : State) : Out := done s (vfFlr fn s)

/-- Every VF as a VF FLR, then gone (R311). -/
def dropVfs (s : State) : State :=
  let s := destroyCtxs (·.owner != 0) s
  { s with
    funcs := vecMap (fun i f => if i = 0 then f else {}) s.funcs
    link := { s.link with vfEnable := false, numVfs := 0, xlats := s.link.xlats.filter (·.fn == 0) } }

/-- VF_ENABLE_CLEAR (R311). -/
def execVfEnableClear (s : State) : Out := done s (if s.link.vfEnable then dropVfs s else s)

/-- VF_ENABLE_SET (R309): VFs 1 to NumVFs; without ARI, 1–7 only. NumVFs cannot change while VF Enable is 1. -/
def vfEnableSet (num : Nat) (ari : Bool) (s : State) : State :=
  if !(s.link.cfgUp && linkUsable s) || s.link.vfEnable then s
  else
    let n := if ari then min num 63 else min num 7
    { s with
      funcs := vecMap (fun i f => if 1 ≤ i ∧ i ≤ n then { enabled := true } else f) s.funcs
      link := { s.link with vfEnable := true, numVfs := num, ari := ari } }

def execVfEnableSet (num : Nat) (ari : Bool) (s : State) : Out := done s (vfEnableSet num ari s)

/-- SEC and DBG commands at such a reset (R488): a STAGE from host memory ends with ABORTED, a SUBMIT whose token is being read
with an invalid token. -/
def Sec.hostReset (x : Sec) : Sec :=
  let x := match x.cmd with
    | .stage _ true => { x.cutStage with cmd := .none, updState := if x.recovery then 7 else 0, updResult := 7, swapped := 0 }
    | _ => x
  if x.submit.isSome then { x with submit := none, challenge := none, dbgResult := 3 } else x

/-- A PF-side reset (R311, R487): all work cancelled, all contexts destroyed, context 0 created again (R327), VFs gone, PF
BAR0 at its reset values but for CLK_SSC and GLB_PLACEMENT, RC fields 0, TARGET = RUN requested. -/
def pfReset (s : State) : State :=
  let s := dropVfs (destroyCtxs (fun _ => true) (cancelForOff s))
  let s := { updFunc 0 Func.cleared s with
    ctxs := [Ctx.zero], queues := [Queue.zero], admin := {}
    mod := { s.mod with lockLoss := 0 }
    hk := { s.hk with hostCap := 2700, throttles := 0 }
    power := { s.power with target := .run, hold := 10, wakes := 0, retries := 0 }
    sec := { s.sec.hostReset with hybridReq := true, updLo := 0, updHi := 0, updLen := 0, tokLo := 0, tokHi := 0 }
    link := { s.link with retrains := 0, ari := false, ide := [], ideSel := [], readLimit := 512, relaxed := true, tags10 := false, xlats := [] } }
  requestPower .run s

/-- PF_FLR (R311). -/
def execPfFlr (s : State) : Out := done s (if s.link.cfgUp && linkUsable s then pfReset s else s)

/-- HOT_RESET (R311): as a PF FLR; then the link trains. -/
def execHotReset (s : State) : Out :=
  done s (if linkUsable s then
      let s := pfReset s
      { s with link := { s.link with up := false, training := true } }
    else s)

/-! ### D3hot -/

/-- D3HOT_ENTRY (R301). -/
def execD3hotEntry (fn : Fin 64) (s : State) : Out :=
  done s (if s.link.cfgUp && linkUsable s && s.funcs[fn].enabled then updFunc fn (fun f => { f with d3 := true }) s else s)

/-- Each Shuttle reads each of the function's doorbell slots afresh (R301, R335). -/
def rereadSlots (fn : Fin 64) (s : State) : State :=
  (s.queues.filter fun q => queueFn s q == fn && !q.stopped).foldl (fun s q =>
    updQueue q.num (fun q => { q with reread := true, cqReread := q.cqReread || q.cqWait }) s) s

/-- D0_RETURN (R301): service, messages and fetches go on. -/
def d0Return (fn : Fin 64) (s : State) : State :=
  if s.funcs[fn].d3 then pump (rereadSlots fn (sendPending fn (updFunc fn (fun f => { f with d3 := false }) s))) else s

def execD0Return (fn : Fin 64) (s : State) : Out := done s (d0Return fn s)

/-! ### Configuration requests and link training -/

/-- A configuration-space word (R307): identifiers and class code, and the vendor's identifier again as the subsystem's and as a
VF's; the rest is not given (assumption 6). -/
def configWord (s : State) (fn : Fin 64) (off : Nat) : Word :=
  let a := off / 4 * 4
  if a = 0 then (if fn = 0 then 0x72400000 else Config.configSpace fn.val 0 &&& 0xFFFF0000) ||| (Config.configSpace 0 0 &&& 0xFFFF)
  else if a = 0x2C then (Config.configSpace fn.val a &&& 0xFFFF0000) ||| (Config.configSpace 0 0 &&& 0xFFFF)
  else if a = 8 then 0x12000000 ||| s.mod.stepping.setWidth 32
  else Config.configSpace fn.val a

/-- Size of a BAR in bytes (R308). -/
def barBytes (fn : Fin 64) (bar : Nat) : Nat :=
  if bar = 0 then (if fn = 0 then 2 ^ 24 else 2 ^ 16) else if bar = 4 && fn = 0 then 2 ^ 16 else 2 ^ 12

/-- A configuration field that the spec states, in the encoding PCI Express gives it (R300, R301, R305, R307–R310, R312, R314). -/
def cfgField (s : State) (fn : Fin 64) : CfgField → Nat
  | .vendor => (configWord s fn 0).toNat % 2 ^ 16
  | .device => (configWord s fn 0).toNat / 2 ^ 16
  | .vfDevice => 0x7241
  | .serialLo => s.sec.fuses.serial.toNat % 2 ^ 32
  | .serialHi => s.sec.fuses.serial.toNat / 2 ^ 32 % 2 ^ 32
  | .totalVfs | .initialVfs => 63
  | .firstVfOffset | .vfStride => 1
  | .pageSizes => 0x211                                  -- 4 KiB, 64 KiB, 2 MiB: bits 0, 4 and 9
  | .portType | .l0p | .pri | .atsDepth | .pasidModes => 0
  | .linkSpeeds => 6
  | .linkWidth => 8
  | .aspm => 2
  | .payload => 2                                        -- 512 bytes
  | .tags => 0xF                                         -- 10-bit and 14-bit, requester and completer
  | .noSoftReset | .aer | .pageAligned => 1
  | .pasidWidth => 20
  | .msixSize => vectorCount fn - 1
  | .msixTable => 4
  | .msixPba => (if fn = 0 then 0x8000 else 0x800) + 4
  | .functionMask => bitAt 0 s.funcs[fn].fnMask
  | .pasidEnable => bitAt 0 s.funcs[fn].pasidEn
  | .atsEnable => bitAt 0 s.funcs[fn].ats
  | .readLimit => s.link.readLimit
  | .relaxed => bitAt 0 s.link.relaxed
  | .tags10 => bitAt 0 s.link.tags10
  | .barKind _ => 4                                      -- memory, 64-bit, not prefetchable
  | .barBytes n => barBytes fn n

/-- Held messages and fetches go on (R318). -/
def releaseTraffic (s : State) : State := pump ((List.finRange 64).foldl (fun s fn => sendPending fn s) s)

/-- A configuration write (R305, R310, R312, R314, R317, R318): an IDE stream disabled is gone, and its traffic flows in the
clear. -/
def cfgWrite (fn : Fin 64) (w : CfgWrite) (s : State) : State :=
  match w with
  | .msix m => sendPending fn (updFunc fn (fun f => { f with fnMask := m }) s)
  | .pasid e => updFunc fn (fun f => { f with pasidEn := e }) s
  | .ats e =>
    let t := updFunc fn (fun f => { f with ats := e, atc := if e then f.atc else [] }) s
    if e then t else pump { t with link := { t.link with xlats := t.link.xlats.filter (·.fn != fn) } }
  | .device n r t => if fn = 0 then pump { s with link := { s.link with readLimit := n, relaxed := r, tags10 := t } } else s
  | .ide k e lo hi base limit =>
    if fn != 0 then s
    else
      let rest := s.link.ideSel.filter (·.stream != k)
      if e then { s with link := { s.link with ideSel := { stream := k, ridLo := lo, ridHi := hi, base := base, limit := limit } :: rest } }
      else releaseTraffic { s with link := { s.link with ide := s.link.ide.filter (·.id != k), ideSel := rest } }

/-- A configuration access that is answered. -/
def cfgAccess (fn : Fin 64) (x : CfgAccess) (s : State) : State :=
  match x with
  | .read off => { s with reply := .word (configWord s fn off) }
  | .field f => { s with reply := .word (BitVec.ofNat 32 (cfgField s fn f)) }
  | .write w => cfgWrite fn w s

/-- CONFIG_REQUEST (R321, R323): Retry Status to the PF until step 6, at 80 ms; a VF answers once it exists. -/
def configRequest (fn : Fin 64) (x : CfgAccess) (sinceMs : Nat) (s : State) : State :=
  if !linkUsable s then s
  else if fn = 0 then
    (if s.link.cfgUp || 80 ≤ sinceMs then cfgAccess fn x { s with link := { s.link with cfgUp := true } }
     else { s with reply := .retryStatus })
  else if s.funcs[fn].enabled then cfgAccess fn x s
  else { s with reply := .unsupportedRequest }

def execConfigRequest (fn : Fin 64) (access : CfgAccess) (sinceMs : Nat) (s : State) : Out := done s (configRequest fn access sinceMs s)

/-- LINK_RETRAIN (R303, R304): nothing is lost. -/
def execLinkRetrain (s : State) : Out := done s (if linkUsable s then { s with link := { s.link with training := true } } else s)

/-- LINK_TRAINING_DONE (R300, R303): the rate, at most 32 GT/s outside flit mode, and width are recorded; a change of them is
counted and logged. Without a directed training the link never widens or speeds up. The first training after a module reset is
no change (assumption 36). -/
def linkTrained (rate width : Nat) (flit : Bool) (s : State) : State :=
  let speed := if flit then rate else min rate 5
  if !s.mod.rails || s.mod.perst then s
  else if s.link.up && !s.link.training && (s.link.speed < speed || s.link.width < width) then s
  else
    let changed := s.link.speed != 0 && (s.link.speed != speed || s.link.width != width)
    let t : State := { s with link := { s.link with
      up := true, training := false, speed := speed, width := width, flit := flit
      retrains := if changed then satInc s.link.retrains 0xFF else s.link.retrains } }
    if changed then note .linkChange t else t

def execLinkTrainingDone (speed width : Nat) (flit : Bool) (s : State) : Out := done s (linkTrained speed width flit s)

/-- LINK_RECOVERY (R304, R510): the link layer replays; no transaction is lost. -/
def execLinkRecovery (s : State) : Out := done s s

/-! ### ATS -/

/-- A read that was issued under the function's cached translations of a range is still out (R313). -/
def FdReq.underRange (fn : Fin 64) (base len : Nat) (r : FdReq) : Bool :=
  r.fn == fn && r.translated.isSome && !r.timedOut && r.addr < base + len && base < r.addr + r.len

/-- One of the requests has not finished: neither its completion nor its timeout has come (R313). -/
def stillOut (s : State) (ids : List Nat) : Bool := s.reqs.any fun r => !r.timedOut && ids.contains r.id

/-- ATS_INVALIDATE (R313): cached translations of the range are used no more. -/
def execAtsInvalidate (fn : Fin 64) (base len : Nat) (s : State) : Out :=
  barDone fn s (if barUp s fn then
    updFunc fn (fun f => { f with
      atc := f.atc.filter fun x => x.1 * 4096 + 4096 ≤ base || base + len ≤ x.1 * 4096
      invs := f.invs ++ [(base, len, (s.reqs.filter (FdReq.underRange fn base len)).map (·.id))] }) s
    else s)

/-- ATS_INVALIDATE_COMPLETION (R313): the oldest invalidation whose requests have finished is completed. -/
def execAtsInvalidateCompletion (fn : Fin 64) (s : State) : Out :=
  done s (updFunc fn (fun f =>
    match f.invs.find? fun x => !stillOut s x.2.2 with
    | some x => { f with invs := f.invs.erase x }
    | none => f) s)

/-- An access whose translation was denied is a faulting access (R265, R297, R312): a demand access fails, run-ahead stops. -/
def denied (x : Xlat) (s : State) : State :=
  if x.demand then errWork x.q x.seq .accessFault x.dva s else updWork x.q x.seq (fun w => { w with ahead := [] }) s

/-- ATS_TRANSLATION_COMPLETION (R312): the page's translation, cached in place of an earlier one; the accesses that wait for it
are issued, or fail where it denies them. -/
def translated (fn : Fin 64) (page host : Nat) (read write : Bool) (s : State) : State :=
  if !(barUp s fn && s.funcs[fn].ats) then s
  else
    let asked := s.link.xlats.filter fun x => x.fn == fn && x.page == page
    let s := updFunc fn (fun f => { f with
      atc := (if read || write then [(page, host, read, write)] else []) ++ f.atc.filter (·.1 != page) }) s
    let s := { s with link := { s.link with xlats := s.link.xlats.filter fun x => !(x.fn == fn && x.page == page) } }
    pump ((asked.filter fun x => !(if x.write then write else read)).foldl (fun s x => denied x s) s)

def execAtsTranslationCompletion (fn : Fin 64) (page host : Nat) (read write : Bool) (s : State) : Out :=
  barDone fn s (translated fn page host read write s)

/-! ### DOE and IDE -/

/-- DOE_DISCOVERY (R316): vendor 0x0001, the protocol at the index, the next index (PCI Express; assumption 37). -/
def execDoeDiscovery (index : Nat) (s : State) : Out :=
  done s (if s.link.cfgUp && linkUsable s then
    { s with reply := .doe (if index ≤ 2 then 1 + index * 2 ^ 16 + (if index = 2 then 0 else index + 1) * 2 ^ 24 else 0xFFFF) }
    else s)

/-- DOE_ABORT (R316): the object in progress and the unread response go; sessions stay. -/
def execDoeAbort (s : State) : Out :=
  done s (if s.link.cfgUp && linkUsable s then
    { s with reply := .none, sec := { s.sec with heldReports := s.sec.heldReports.filter (·.1), chunks := none, largeAns := none } }
    else s)

/-- A work item needs a stream's traffic (R318): part of its input or output region lies where the stream carries it. -/
def needsStream (s : State) (id : Nat) (q : Queue) (e : Entry) : Bool :=
  match s.ctx? q.ctx with
  | some c => e.spans.any fun r => (hostParts c r.1 r.2).any fun x => ideCarries s id c.owner.val x.2.1 x.2.2
  | none => false

/-- IDE_STREAM_INSECURE (R318): the stream's traffic is held; items that need it and have not begun write-out end, admitted ones
too. -/
def ideInsecure (id : Nat) (s : State) : State :=
  if s.link.ide.any (·.id == id) then
    let s : State := { s with link := { s.link with ide := updWhere (·.id == id) (fun i => { i with secure := false, insecure := true }) s.link.ide } }
    s.queues.foldl (fun s q => q.entries.foldl (fun s e =>
      if e.op == 0x01 && e.st != .finished && needsStream s id q e && !((s.work? q.num e.seq).any (·.inWriteOut)) then
        failWork q.num e.seq .integrityFail 0 s
      else s) s) s
  else s

def execIdeStreamInsecure (stream : Nat) (s : State) : Out := done s (ideInsecure stream s)

end Sys2Proof.Machine
end

