-- ==== Sys2Proof/Machine/Keys.lean ====
section
/-! DEFINITION. Keys: HMAC and HKDF over SHA-384 (FIPS 198-1, RFC 5869; PRESUMED, assumption 3), the keys derived from the device
secret (R402, R403) and the secret of a hybrid session (R422). -/
namespace Sys2Proof.Machine

/-- A key of at most 128 bytes as one block, with one byte added to each. -/
def hmacPad (key : List Byte) (x : Byte) : List Byte := (key ++ List.replicate (128 - key.length) 0).map (· ^^^ x)

def hmac384 (key msg : List Byte) : List Byte := sha384 (hmacPad key 0x5C ++ sha384 (hmacPad key 0x36 ++ msg))

def hkdfExtract (salt ikm : List Byte) : List Byte := hmac384 salt ikm

/-- T(1) to T(n) of the expansion, joined, and T(n). -/
def hkdfBlocks (prk info : List Byte) : Nat → List Byte × List Byte
  | 0 => ([], [])
  | n + 1 =>
    let r := hkdfBlocks prk info n
    let t := hmac384 prk (r.2 ++ info ++ leBytes 1 (n + 1))
    (r.1 ++ t, t)

def hkdfExpand (prk info : List Byte) (n : Nat) : List Byte := (hkdfBlocks prk info ((n + 47) / 48)).1.take n

def ascii (x : String) : List Byte := x.toList.map fun c => BitVec.ofNat 8 c.toNat

/-- The uses of R403: a memory tier, or one die-to-die or seam link. -/
inductive KeyUse where
  | hbm | lpddr | vault
  | link (id : Nat)
  deriving DecidableEq, Repr

/-- HKDF's info: label, 0x00, context, epoch; the vault's key never depends on the epoch in force. -/
def KeyUse.info (epoch : BitVec 256) : KeyUse → List Byte
  | .hbm => ascii "hbm-xts" ++ 0 :: leBytes 32 epoch.toNat
  | .lpddr => ascii "lp4x-xts" ++ 0 :: leBytes 32 epoch.toNat
  | .vault => ascii "vault-xts" ++ 0 :: leBytes 32 0
  | .link id => ascii "link-gcm" ++ 0 :: leBytes 2 id ++ leBytes 32 epoch.toNat

def KeyUse.size : KeyUse → Nat
  | .link _ => 32
  | _ => 64

/-- The key in force for a use (R402, R403). -/
def keyOf (s : State) (k : KeyUse) : List Byte :=
  hkdfExpand (hkdfExtract (ascii "Esenger GLF-7240 v1") (leBytes 32 s.sec.fuses.deviceSecret.toNat)) (k.info s.sec.epoch) k.size

/-- What stands in the place of the DHE secret of a session that a KEM exchange has preceded (R422). -/
def hybridSecret (kem ecdh : List Byte) : List Byte := hkdfExtract kem ecdh

end Sys2Proof.Machine
end

