-- ==== Sys2Proof/Machine/Security.lean ====
section
/-! DEFINITION. Thimble: bundle update (R411–R415), attestation (R416–R419), debug tokens (R425–R428). -/
namespace Sys2Proof.Machine

/-! ### Update: phases -/

def updSec (f : Sec → Sec) (s : State) : State := { s with sec := f s.sec }

/-- RESULT codes of SEC_UPD_STATUS (R431). -/
inductive UpdResult where
  | ok | busy | sourceFault | rejected | digest | rolledBack | aborted | notAllowed | temp
  deriving DecidableEq, Repr

def UpdResult.code : UpdResult → Nat
  | .ok => 1 | .busy => 2 | .sourceFault => 3 | .rejected => 4 | .digest => 5 | .rolledBack => 6 | .aborted => 7 | .notAllowed => 8
  | .temp => 9

def setResult (r : UpdResult) (s : State) : State := updSec (fun x => { x with updResult := r.code }) s

/-- STATE while no command runs: RECOVERY in the ROM recovery service (R410, R431). -/
def idleState (s : State) : Nat := if s.sec.recovery then 7 else 0

/-- The running command ends with a result. -/
def endUpdate (r : UpdResult) (s : State) : State :=
  setResult r (updSec (fun x => { x with cmd := .none, updState := idleState s, swapped := 0, rolling := false, aborting := false }) s)

/-- A command starts; PROGRESS is a percentage that the spec does not state (assumption 38). -/
def startUpdate (c : UpdCmd) (st : Nat) (s : State) : State :=
  draw (updSec (fun x => { x with cmd := c, updState := st, progress := Config.updProgress s.free % 101, swapped := 0
                                  rolling := false, aborting := false }) s)

/-- The slot that STAGE writes: the inactive one; slot A in ROM recovery (R410, R411). -/
def stageSlot (s : State) : Fin 2 := s.sec.stageSlot

def setSlot (n : Fin 2) (x : Slot) (s : State) : State := updSec (fun y => { y with slots := y.slots.set n.val x }) s

/-- STAGE (R281, R411): from the host it needs SEC_UPD_LEN; the manifest is checked; then the inactive slot is erased, at once or
when the NOR temperature allows it (a free choice, assumption 38). -/
def doStage (src : BundleRead) (fromHost : Bool) (s : State) : State :=
  if s.sec.cmd != .none then setResult .busy s
  else if fromHost && s.sec.updLen = 0 then setResult .notAllowed s
  else if src.fault then setResult .sourceFault s
  else if !manifestAccepted src.manifest s then setResult .rejected s
  else startUpdate (.stage src fromHost) 1 (if Config.norWaits s.free then updSec (fun x => { x with norDue := true }) s else setSlot (stageSlot s) {} s)

/-- ACTIVATE (R412) needs a STAGED slot. -/
def doActivate (s : State) : State :=
  if s.sec.cmd != .none then setResult .busy s
  else if s.sec.recovery || otherCode s != 1 then setResult .notAllowed s
  else startUpdate .activate 3 s

/-- Every IOD sensor reads 0–85 °C (R401). -/
def iodCool (s : State) : Bool := [248, 249, 250, 251].all fun n => match (s.hk.at n).raw with | some t => 0 ≤ t && t ≤ 8500 | none => false

/-- COMMIT (R415, R401): SVN and REVOKE fuses follow the running manifest, but for its own key slot. -/
def doCommit (s : State) : State :=
  if s.sec.cmd != .none then setResult .busy s
  else
    match manifestOf s s.sec.running with
    | some m =>
      if s.sec.recovery then setResult .notAllowed s
      else if !iodCool s then setResult .temp s
      else setResult .ok (updSec (fun x => { x with fuses := { x.fuses with
          svn := max x.fuses.svn m.svn, revoke := x.fuses.revoke ||| (m.revokeMask &&& ~~~(1#4 <<< m.keySlot.val)) } }) s)
    | none => setResult .notAllowed s

/-- ABORT (R411, R414): stops a STAGE, which leaves its slot invalid, or has an ACTIVATE roll back; before the first swap
nothing is to be reversed. -/
def doAbort (s : State) : State :=
  match s.sec.cmd with
  | .stage _ _ => endUpdate .aborted (updSec Sec.cutStage s)
  | .activate =>
    if s.sec.swapped = 0 then endUpdate .aborted s
    else updSec (fun x => { x with updState := 5, rolling := true, aborting := true }) s
  | _ => setResult .notAllowed s

/-! ### Debug commands -/

/-- RESULT of SUBMIT (R432), with the challenge cleared (R426). -/
def setDbg (code : Nat) (s : State) : State := updSec (fun x => { x with dbgResult := code, challenge := none, submit := none }) s

/-- NEW_CHAL (R426): the challenge is a DRBG value (assumption 2). -/
def doNewChal (s : State) : State := draw (updSec (fun x => { x with challenge := some (Config.drbg s.free) }) s)

/-- SUBMIT (R426, R432): reads the token for the challenge in force, which it clears. -/
def doSubmit (s : State) : State :=
  if s.sec.cmd != .none then setDbg 6 s
  else
    match s.sec.challenge with
    | none => setDbg 2 s
    | some c => updSec (fun x => { x with challenge := none, submit := some c }) s

/-- A SEC_UPD or DBG_ command is served. -/
def serveSec (s : State) : SecCmd → State
  | .stage src host => doStage src host s
  | .activate => doActivate s
  | .abort => doAbort s
  | .commit => doCommit s
  | .newChal => doNewChal s
  | .submit => doSubmit s

/-- One that comes during a swap window waits until it closes (R432). -/
def askSec (c : SecCmd) (s : State) : State :=
  if s.sec.window.isSome then updSec (fun x => { x with deferred := x.deferred ++ [c] }) s else serveSec s c

/-- An update command started and has not ended: its RESULT comes later. -/
def updStarted (a b : State) : Bool := a.sec.cmd == .none && b.sec.cmd != .none

/-- A command from the PF driver, where the block takes writes. `bits` are raised where it was answered at once. -/
def secCommand (c : SecCmd) (off : Nat) (bits : BitVec 11) (s : State) : Out :=
  if !pfOpen s off then barDone 0 s s
  else
    let t := askSec c s
    doneWith (if s.sec.window.isSome || updStarted s t then 0 else bits) s t

def execStage (src : BundleRead) (s : State) : Out := secCommand (.stage src true) 0x50014 intUpdate s

def execActivate (s : State) : Out := secCommand .activate 0x50014 intUpdate s

/-- ABORT of an activation that rolls back is answered when the last domain is back. -/
def execAbort (s : State) : Out :=
  if !pfOpen s 0x50014 then barDone 0 s s
  else
    let t := askSec .abort s
    doneWith (if s.sec.window.isSome || t.sec.rolling then 0 else intUpdate) s t

def execCommit (s : State) : Out := secCommand .commit 0x50014 intUpdate s

def execNewChal (s : State) : Out := secCommand .newChal 0xF000C 0 s

/-- SUBMIT: a RESULT at once where it cannot be tried. -/
def execSubmit (s : State) : Out :=
  if !pfOpen s 0xF000C then barDone 0 s s
  else
    let t := askSec .submit s
    doneWith (if s.sec.window.isSome || t.sec.submit.isSome then 0 else intDebug) s t

/-- STAGE_DONE (R411): every image programmed and hashed, the manifest last. -/
def stageDone (imagesOk : Bool) (s : State) : State :=
  match s.sec.cmd with
  | .stage src _ =>
    let s := updSec Sec.cutStage s
    if imagesOk then endUpdate .ok (setSlot (stageSlot s) { manifest := some src.manifest } s) else endUpdate .digest s
  | _ => s

def isStage (s : State) : Bool := match s.sec.cmd with | .stage _ _ => true | _ => false

def execStageDone (imagesOk : Bool) (s : State) : Out :=
  doneWith (if isStage s then intUpdate else 0) s (stageDone imagesOk s)

/-- Each new image accepts the handover of the image it replaces (R412). -/
def handoverOk (old new : Manifest) : Bool :=
  new.images.all fun x => match old.images.find? (·.type == x.type) with | some y => x.handoverMin ≤ y.handover | none => false

/-- PRELOAD_DONE (R412): the swaps begin, or ACTIVATE ends with nothing changed. -/
def preloadDone (imagesOk : Bool) (s : State) : State :=
  if s.sec.cmd == .activate && s.sec.updState = 3 then
    match manifestOf s s.sec.running, manifestOf s (otherSlot s) with
    | some old, some new =>
      if !imagesOk then endUpdate .digest s
      else if !handoverOk old new then endUpdate .rejected s
      else updSec (fun x => { x with updState := 4 }) s
    | _, _ => endUpdate .rejected s
  else s

def execPreloadDone (imagesOk : Bool) (s : State) : Out :=
  let t := preloadDone imagesOk s
  doneWith (if s.sec.cmd == .activate && t.sec.cmd == .none then intUpdate else 0) s t

/-! ### Swap windows (R412–R414) -/

/-- The domain is powered down: passed over (R413, R389). -/
def domainPassed (s : State) (d : Nat) : Bool :=
  if h : d < 12 then s.tiles[d].rest == .sleep || s.tiles[d].rest == .deep || !s.power.tilesUp.getLsbD d
  else if d < 16 then s.power.hubSleep.getLsbD (d - 12) || !s.power.hubsUp.getLsbD (d - 12)
  else if d = 16 then !s.power.hubsUp.getLsbD (2 - firstActive s)
  else if d = 17 then !s.power.hubsUp.getLsbD (firstActive s)
  else false

/-- The next domain forward that is not passed over, from `d` on. -/
def nextDomain (s : State) (d : Nat) : Option Nat := ((List.range (22 - d)).map (· + d)).find? fun n => !domainPassed s n

/-- The next domain to reverse, below `d`. -/
def prevDomain (s : State) (d : Nat) : Option Nat := (List.range d).reverse.find? fun n => !domainPassed s n

/-- The new slot becomes the boot slot (R412): its activation record, one above the old slot's count. -/
def programRecord (s : State) : State :=
  let n := otherSlot s
  let count := ((s.sec.slots[s.sec.running]).activation).getD 0 + 1
  let s := setSlot n { s.sec.slots[n] with activation := some count } s
  endUpdate .ok (updSec (fun x => { x with running := n }) s)

/-- The record is programmed where the NOR temperature allows it (R281, a free choice, assumption 38); otherwise the activation
waits for it, and SWAP_WINDOW_OPEN tries again. -/
def finishActivate (s : State) : State := if Config.norWaits s.free then draw s else programRecord s

/-- Every domain is back on the old images (R414). -/
def finishRoll (s : State) : State := endUpdate (if s.sec.aborting then .aborted else .rolledBack) s

/-- What waits in a domain's window (R413): a tile reaches a fix point, closes its gates and stops its dither; management closes
its connections. The other domains wait while `window` names them. -/
def openDomain (d : Nat) (s : State) : State :=
  let s := updSec (fun x => { x with window := some d }) s
  if h : d < 12 then
    let t : Fin 12 := ⟨d, h⟩
    let s := if s.tiles[t].st == .locked then fixPoint t s else s
    updTile t (fun x => mapCores (Core.bar 4) x.ditherOff) s
  else if d = 20 then { s with mgmt := { s.mgmt with conns := [] } }
  else s

/-- The domain's window closes: gates open again, where nothing else holds them closed, and dither goes on; housekeeping acts on
what was written meanwhile. -/
def closeDomain (d : Nat) (s : State) : State :=
  let s := updSec (fun x => { x with window := none }) s
  if h : d < 12 then
    ditherFollow ⟨d, h⟩ (updTile ⟨d, h⟩ (fun x => mapCores (Core.unbar 4 (x.st == .locked)) x) s)
  else if d = 19 then serveHk s
  else s

/-- A takeover lies in the swap of the formerly active Tailor (R412). -/
def swapTailor (d : Nat) (s : State) : State :=
  if d = 17 then { s with tailor := { s.tailor with onHd2 := !s.tailor.onHd2 } } else s

/-- Domains that are passed over count as swapped, or as reversed. -/
def passOver (s : State) : State :=
  if s.sec.rolling then
    match prevDomain s s.sec.swapped with
    | some d => updSec (fun x => { x with swapped := d + 1 }) s
    | none => updSec (fun x => { x with swapped := 0 }) s
  else
    match nextDomain s s.sec.swapped with
    | some d => updSec (fun x => { x with swapped := d }) s
    | none => updSec (fun x => { x with swapped := 22 }) s

/-- SWAP_WINDOW_OPEN (R413). -/
def windowOpen (s : State) : State :=
  if s.sec.cmd == .activate && (s.sec.updState = 4 || s.sec.updState = 5) && s.sec.window.isNone then
    let s := passOver s
    if s.sec.rolling then (if s.sec.swapped = 0 then finishRoll s else openDomain (s.sec.swapped - 1) s)
    else if s.sec.swapped = 22 then finishActivate s
    else openDomain s.sec.swapped s
  else s

def execSwapWindowOpen (s : State) : Out :=
  let t := windowOpen s
  doneWith (if s.sec.cmd == .activate && t.sec.cmd == .none then intUpdate else 0) s t

/-! ### Reports -/

/-- The identity public keys, which Thimble computes from the fused seeds (R400; assumption 8). -/
def edPub (s : State) : BitVec 256 := Config.thimbleAnswer 100 s.sec.fuses.edSeed.toNat
def mldsaPub (s : State) : List Byte := (List.range 1952).map (Config.thimbleByte 101 s.sec.fuses.mldsaSeed.toNat)

/-- The report of R416 on the state; zero keys and signatures in FAILURE_ANALYSIS (R428; assumption 8). -/
def report (s : State) (nonce : BitVec 256) : Report :=
  let fa := s.sec.debug == 2
  { generation := s.sec.generation, nonce := nonce, serial := s.sec.fuses.serial
    edPub := if fa then 0 else edPub s
    mldsaPub := if fa then List.replicate 1952 0 else mldsaPub s
    att := attested s
    sigs := if fa then List.replicate 3373 0
      else (List.range 3373).map (Config.thimbleByte 102 (s.sec.generation + 2 ^ 64 * nonce.toNat)) }

/-- Bytes of the report (R416). -/
def reportSize (s : State) : Nat :=
  6848 + ((ctxReports s).map fun c => 176 + (2 * c.spools.length + 7) / 8 * 8).foldl (· + ·) 0 + 3373

/-- A report is asked for: at once, or held until the swap window closes (R418). In the mailbox one over 16 KiB is fetched in
chunks (R316, R420), and the answer names the handle to fetch it by (assumption 39). -/
def askReport (http : Bool) (nonce : BitVec 256) (s : State) : State :=
  if s.sec.window.isSome then updSec (fun x => { x with heldReports := x.heldReports ++ [(http, nonce)] }) s
  else if http || reportSize s ≤ 16384 then { s with reply := .report http (report s nonce).bytes }
  else { updSec (fun x => { x with largeAns := some (x.generation % 256, 0, (report s nonce).bytes) }) s with reply := .spdmError 0x0F }

/-- The held requests are answered in order of arrival (R418, R419). -/
def answerHeld (s : State) : State :=
  s.sec.heldReports.foldl (fun s x => askReport x.1 x.2 s) (updSec (fun x => { x with heldReports := [] }) s)

/-- The commands that waited are served in order (R432). -/
def serveDeferred (s : State) : State :=
  s.sec.deferred.foldl serveSec (updSec (fun x => { x with deferred := [] }) s)

/-- A window closes (R412–R414): the domain runs the new image, or the swaps are reversed. -/
def closeWindow (d : Nat) (started : Bool) (s : State) : State :=
  let s := closeDomain d s
  if s.sec.rolling then
    let s := updSec (fun x => { x with swapped := d }) (swapTailor d s)
    if d = 0 then finishRoll s else s
  else if !started then
    (if s.sec.swapped = 0 then finishRoll s else updSec (fun x => { x with updState := 5, rolling := true }) s)
  else
    let s := updSec (fun x => { x with swapped := d + 1 }) (swapTailor d s)
    if d = 21 then finishActivate s else s

/-- SWAP_WINDOW_CLOSE (R413, R418, R432). -/
def windowClose (started : Bool) (s : State) : State :=
  match s.sec.window with
  | none => s
  | some d => answerHeld (serveDeferred (closeWindow d started s))

/-- RESULT fields that a closing window writes: of the activation, of deferred commands. -/
def closeBits (a b : State) : BitVec 11 :=
  (if (a.sec.cmd != .none && b.sec.cmd == .none) || a.sec.deferred.any (fun c => c == .activate || c == .commit || (match c with | .stage _ _ => true | _ => false))
      || (a.sec.deferred.contains .abort && !b.sec.rolling)
    then intUpdate else 0) |||
  askedBits a b |||
  (if a.sec.deferred.contains .submit && b.sec.submit.isNone then intDebug else 0)

def execSwapWindowClose (started : Bool) (s : State) : Out :=
  let t := windowClose started s
  doneWith (if s.sec.window.isSome then closeBits s t else 0) s t

/-! ### Debug tokens (R426–R428) -/

/-- The token is valid for this module and this challenge (R426). -/
def tokenValid (s : State) (c : BitVec 256) (k : TokenRead) : Bool :=
  k.readOk && k.formOk && (k.request == 1 || k.request == 2 || k.request == 3) && !s.sec.fuses.revoke.getLsbD k.keySlot
    && k.serial == s.sec.fuses.serial && k.challenge == c && k.pubDigest == (s.sec.fuses.vkeys.toList.getD k.keySlot (0, 0)).2 && k.edOk && k.mldsaOk

/-- Entry into VENDOR_DEBUG (R427): work and contexts gone, sessions and IDE keys gone, a new epoch under which earlier
memory contents no longer read, the vault offline. -/
def enterDebug (s : State) : State :=
  let s := destroyCtxs (fun _ => true) (cancelForOff s)
  let s := s.link.ide.foldl (fun s i => ideInsecure i.id s) s
  let s := mapTiles (fun _ x => { x with cal := { x.cal with mirrorDue := false, retryDue := false } }) s
  draw { s with
    ctxs := [Ctx.zero], queues := [Queue.zero], admin := { s.admin with en := false, running := false }
    hbm := [], lp := []
    link := { s.link with ide := s.link.ide.map fun i => { i with keys := [], secure := false, insecure := true } }
    vault := { s.vault with st := 0, writes := [] }
    mgmt := { s.mgmt with conns := [] }
    sec := { s.sec with debug := 1, sessions := [], secrets := [], kem := none, chunks := none, largeAns := none, epoch := Config.drbg s.free } }

/-- Entry into FAILURE_ANALYSIS (R428): R427, then the FA copies and every bit of the secrets are blown. -/
def enterFailureAnalysis (s : State) : State :=
  updSec (fun x => { x with
    debug := 2
    fuses := { x.fuses with
      fa := 7, deviceSecret := BitVec.allOnes 256, edSeed := BitVec.allOnes 256, mldsaSeed := BitVec.allOnes 256 } }) (enterDebug s)

/-- DEBUG_TOKEN_VERIFY (R426, R401): the requested change, or why not. FAILURE_ANALYSIS is never left (R425; a valid request for
VENDOR_DEBUG there reads as disabled, assumption 41). -/
def verifyToken (k : TokenRead) (s : State) : State :=
  match s.sec.submit with
  | none => s
  | some c =>
    if !tokenValid s c k then setDbg 3 s
    else if k.request = 1 then
      (if s.sec.fuses.vdDisable || s.sec.debug = 2 then setDbg 4 s else setDbg 1 (enterDebug s))
    else if !iodCool s then setDbg 5 s
    else if k.request = 2 then setDbg 1 (enterFailureAnalysis s)
    else setDbg 1 (updSec (fun x => { x with fuses := { x.fuses with vdDisable := true } }) s)

def execDebugTokenVerify (tok : TokenRead) (s : State) : Out :=
  doneWith (if s.sec.submit.isSome then intDebug else 0) s (verifyToken tok s)

end Sys2Proof.Machine
end

