-- ==== Sys2Proof/Machine/Spdm.lean ====
section
/-! DEFINITION. SPDM over DOE (R316, R420–R424): the requests of the table, one reply each. Codes, flag bits and block layouts
are those of DMTF DSP0274 (PRESUMED, assumption 39). -/
namespace Sys2Proof.Machine

/-- SPDM error codes (assumption 39). -/
def invalidRequest : Nat := 0x01
def invalidSession : Nat := 0x02
def unexpectedRequest : Nat := 0x04
def decryptError : Nat := 0x06
def unsupported : Nat := 0x07
def sessionLimit : Nat := 0x0A

/-- The mailbox takes an object (R316, R321, R413): Busy while Thimble cannot. -/
def doeReady (s : State) : Bool := !s.link.doeBusy && s.sec.window != some 21 && !(s.mod.mstate == .fault && s.mod.faultCause == 1)

/-- Between steps 6 and 9 of the timeline DOE Busy is cleared at step 8, which has no row (R321, R323): whether it has passed is a
free value (assumption 69). -/
def doeStep (s : State) : State :=
  if s.link.doeBusy then draw { s with link := { s.link with doeBusy := !Config.stepEight s.free } } else s

/-- An SPDM request: no answer without the link, DOE Busy, or its body. -/
def spdmReq (s : State) (body : State → State) : Out :=
  done s (if !(s.link.cfgUp && linkUsable s) then s
    else if !doeReady (doeStep s) then { doeStep s with reply := .doeBusy }
    else body (doeStep s))

def spdmErr (code : Nat) (s : State) : State := { s with reply := .spdmError code }
def spdmAns (code : Nat) (v : BitVec 256) (s : State) : State := { s with reply := .spdm code v }
def spdmData (code : Nat) (l : List Byte) (s : State) : State := { s with reply := .spdmBytes code l }

/-- An answer whose bytes the spec does not give: a certificate, a signature, a key (assumption 8). -/
def freeAns (code kind : Nat) (s : State) : State := draw (spdmAns code (Config.thimbleAnswer kind s.free) s)

/-- After NEGOTIATE_ALGORITHMS only (assumption 39). -/
def afterNegotiation (body : State → State) (s : State) : State :=
  if s.sec.versioned && s.sec.negotiated then body s else spdmErr unexpectedRequest s

/-- Signatures are refused in FAILURE_ANALYSIS (R428). -/
def unlessFa (body : State → State) (s : State) : State := if s.sec.debug = 2 then spdmErr unsupported s else body s

/-- GET_VERSION: version 1.3 only; negotiation starts again. -/
def execGetVersion (s : State) : Out :=
  spdmReq s fun s => spdmAns 0x04 0x1300 (updSec (fun x => { x with versioned := true, negotiated := false }) s)

/-- GET_CAPABILITIES: CERT, CHAL, MEAS (signed), MEAS_FRESH, ENCRYPT, MAC, KEY_EX and CHUNK. -/
def execGetCapabilities (s : State) : Out :=
  spdmReq s fun s => if s.sec.versioned then spdmAns 0x61 0x202F6 s else spdmErr unexpectedRequest s

/-- NEGOTIATE_ALGORITHMS: the one set of R420, where the requester supports it. -/
def execNegotiateAlgorithms (supported : Bool) (s : State) : Out :=
  spdmReq s fun s =>
    if !s.sec.versioned then spdmErr unexpectedRequest s
    else if supported then freeAns 0x63 1 (updSec (fun x => { x with negotiated := true }) s)
    else spdmErr invalidRequest s

/-- GET_DIGESTS: slot 0. -/
def execGetDigests (s : State) : Out := spdmReq s (afterNegotiation (freeAns 0x01 2))

/-- GET_CERTIFICATE: slot 0 only. -/
def execGetCertificate (slot offset length : Nat) (s : State) : Out :=
  spdmReq s (afterNegotiation fun s => if slot = 0 then freeAns 0x02 (3 + offset * 2 ^ 8 + length * 2 ^ 40) s else spdmErr invalidRequest s)

/-- CHALLENGE: summary none, TCB or all. -/
def execChallenge (slot : Nat) (summary : SummaryHash) (nonce : BitVec 256) (s : State) : Out :=
  spdmReq s (afterNegotiation (unlessFa fun s =>
    if slot = 0 && summary != .other then freeAns 0x03 (4 + nonce.toNat * 2 ^ 8) s else spdmErr invalidRequest s))

/-- Block 0x30 (R421): FUSED_SVN, REVOKED, DEBUG, SLOTS. -/
def block30 (s : State) : List Byte :=
  leBytes 8 s.sec.fuses.svn ++ (leBytes 1 s.sec.fuses.revoke.toNat ++ (leBytes 1 s.sec.debug ++ (leBytes 1 (slotsByte s) ++ zeros 5)))

/-- Block of a component: its running digest. -/
def compBlock (s : State) (i : Nat) : List Byte := leBytes 64 ((attested s).comps.getD (i - 1) (0, 0, .pending, 0, 0)).2.2.2.1

/-- Block 0x81 (R421): SERIAL, ED_PUB and MLDSA_PUB, and the vendor's signature over them, by the running KEY_SLOT (assumption
8). -/
def endorsement (s : State) : List Byte :=
  leBytes 16 s.sec.fuses.serial.toNat ++ (leBytes 32 (edPub s).toNat ++ (mldsaPub s
    ++ (List.range 3309).map (Config.thimbleByte 103 (((manifestOf s s.sec.running).map (·.keySlot.val)).getD 0))))

/-- Block 0xFF (R421): blocks 1–34 and 0x30. -/
def allBlocks (s : State) : List Byte := ((List.range 34).flatMap fun i => compBlock s (i + 1)) ++ block30 s

/-- GET_MEASUREMENTS (R421): blocks 0x80 and 0x81 when named; the rest as raw values or digests. -/
def measurements (index : Nat) (signed : Bool) (nonce : BitVec 256) (s : State) : State :=
  if signed && s.sec.debug = 2 then spdmErr unsupported s
  else if 1 ≤ index ∧ index ≤ 34 then spdmData 0x60 (compBlock s index) s
  else if index = 0x30 then spdmData 0x60 (block30 s) s
  else if index = 0x80 then askReport false nonce s
  else if index = 0x81 then spdmData 0x60 (endorsement s) s
  else if index = 0xFF then spdmData 0x60 (allBlocks s) s
  else spdmErr invalidRequest s

def execGetMeasurements (index : Nat) (signed : Bool) (nonce : BitVec 256) (s : State) : Out :=
  spdmReq s (afterNegotiation (measurements index signed nonce))

/-- The lowest session number that is free. -/
def newSession (s : State) : Nat := if s.sec.sessions.any (·.1 == 1) then 2 else 1

/-- The shared secrets of a KEM exchange and of P-384 (assumption 8). -/
def kemSecret (n : Nat) : List Byte := (List.range 32).map (Config.thimbleByte 105 n)
def ecdhSecret (n : Nat) : List Byte := (List.range 48).map (Config.thimbleByte 106 n)

/-- A new session (R422, R423): with a KEM secret pending it runs on the hybrid secret, and OpaqueData carries the digest of the
key and the ciphertext; without one on the P-384 secret alone. -/
def openSession (id : Nat) (s : State) : State :=
  let ecdh := ecdhSecret s.free
  let r := match s.sec.kem with
    | some (key, some ct) => (hybridSecret (kemSecret s.free) ecdh, sha384 (key ++ ct))
    | _ => (ecdh, [])
  draw { updSec (fun x => { x with sessions := x.sessions ++ [(id, false)], secrets := x.secrets ++ [(id, r.1)], kem := none }) s with
    reply := .keyExchanged id r.2 (Config.thimbleAnswer 7 s.free) }

/-- A KEM exchange is complete: its secret is pending. -/
def kemPending (s : State) : Bool := match s.sec.kem with | some (_, some _) => true | _ => false

/-- KEY_EXCHANGE (R422–R424): responder authentication only, two sessions at most, a KEM secret where HYBRID_REQ asks for it,
which is consumed. -/
def keyExchange (mutualAuth : Bool) (s : State) : State :=
  if mutualAuth then spdmErr unsupported s
  else if 2 ≤ s.sec.sessions.length then spdmErr sessionLimit s
  else if s.sec.hybridReq && !kemPending s then spdmErr invalidRequest s
  else openSession (newSession s) s

def execKeyExchange (mutualAuth : Bool) (s : State) : Out := spdmReq s (afterNegotiation (unlessFa (keyExchange mutualAuth)))

/-- A session ends, its secret with it. -/
def Sec.dropSession (id : Nat) (x : Sec) : Sec :=
  { x with sessions := x.sessions.filter (·.1 != id), secrets := x.secrets.filter (·.1 != id) }

/-- FINISH completes a session in handshake. -/
def finishSession (id : Nat) (verifies : Bool) (s : State) : State :=
  if s.sec.sessions.contains (id, false) then
    (if verifies then freeAns 0x65 8 (updSec (fun x => { x with sessions := updWhere (·.1 == id) (fun y => (y.1, true)) x.sessions }) s)
     else spdmErr decryptError (updSec (Sec.dropSession id) s))
  else spdmErr invalidSession s

def execFinish (session : Nat) (verifies : Bool) (s : State) : Out := spdmReq s (finishSession session verifies)

/-- A message within an established session. -/
def inSession (id : Nat) (body : State → State) (s : State) : State :=
  if s.sec.sessions.contains (id, true) then body s else spdmErr invalidSession s

/-- END_SESSION (R424): keys that the session programmed stay in force. -/
def execEndSession (session : Nat) (s : State) : Out :=
  spdmReq s (inSession session fun s => spdmAns 0x6C 0 (updSec (Sec.dropSession session) s))

/-- CHUNK_SEND: chunks in order; the last one completes the request. -/
def chunkSend (handle n : Nat) (last : Bool) (bs : List Byte) (s : State) : State :=
  let have_ := match s.sec.chunks with | some (h, k, b) => if h = handle && k = n then some b else none | none => none
  match (if n = 0 then some [] else have_) with
  | none => spdmErr invalidRequest (updSec (fun x => { x with chunks := none }) s)
  | some b => spdmAns 0x05 (BitVec.ofNat 256 n) (updSec (fun x => { x with chunks := if last then none else some (handle, n + 1, b ++ bs) }) s)

def execChunkSend (handle seqNo : Nat) (last : Bool) (bytes : List Byte) (s : State) : Out :=
  spdmReq s (chunkSend handle seqNo last bytes)

/-- CHUNK_GET: the next chunk of a large response, of up to 16 KiB (assumption 39). -/
def chunkGet (handle n : Nat) (s : State) : State :=
  match s.sec.largeAns with
  | some (h, k, left) =>
    if h = handle && k = n then
      spdmData 0x06 (left.take 16384)
        (updSec (fun x => { x with largeAns := if left.length ≤ 16384 then none else some (h, k + 1, left.drop 16384) }) s)
    else spdmErr invalidRequest s
  | none => spdmErr unexpectedRequest s

def execChunkGet (handle seqNo : Nat) (s : State) : Out := spdmReq s (chunkGet handle seqNo)

/-- The encapsulation key of 1,184 bytes that a KEM_GET makes (assumption 8). -/
def kemKey (n : Nat) : List Byte := (List.range 1184).map (Config.thimbleByte 104 n)

/-- KEM_GET (R422): a new key pair replaces a pending secret. -/
def kemGet (s : State) : State := draw (spdmData 0x7E (kemKey s.free) (updSec (fun x => { x with kem := some (kemKey s.free, none) }) s))

def execKemGet (s : State) : Out := spdmReq s (afterNegotiation kemGet)

/-- KEM_CT (R422): the secret is pending from here on; the answer is empty. -/
def kemCt (ct : List Byte) (s : State) : State :=
  match s.sec.kem with
  | some (key, none) => spdmData 0x7E [] (updSec (fun x => { x with kem := some (key, some ct) }) s)
  | _ => spdmErr invalidRequest s

def execKemCt (ciphertext : List Byte) (s : State) : Out := spdmReq s (afterNegotiation (kemCt ciphertext))

/-! ### IDE_KM (R317, R318, R424) -/

def updIde (id : Nat) (f : Ide → Ide) (s : State) : State := { s with link := { s.link with ide := updWhere (·.id == id) f s.link.ide } }

/-- KEY_PROG: a key of a stream; stream 0 is the Link stream, 1 to 4 the Selective ones, in flit mode only (R317). The answer's
status 1 refuses. -/
def keyProg (id sub : Nat) (s : State) : State :=
  if !s.link.flit then spdmAns 0x7E 1 s
  else if s.link.ide.any (·.id == id) then
    spdmAns 0x7E 0 (updIde id (fun i => { i with keys := if i.keys.contains sub then i.keys else i.keys ++ [sub] }) s)
  else if 5 ≤ id then spdmAns 0x7E 1 s
  else spdmAns 0x7E 0 { s with link := { s.link with ide := s.link.ide ++ [{ id := id, keys := [sub], secure := false, insecure := false }] } }

def execKeyProg (session stream sub : Nat) (s : State) : Out := spdmReq s (inSession session (keyProg stream sub))

/-- K_SET_GO: the stream is Secure; held traffic goes on (R318). -/
def keySetGo (id sub : Nat) (s : State) : State :=
  if s.link.ide.any fun i => i.id == id && i.keys.contains sub then
    releaseTraffic (spdmAns 0x7E 0 (updIde id (fun i => { i with secure := true, insecure := false }) s))
  else spdmAns 0x7E 1 s

def execKSetGo (session stream sub : Nat) (s : State) : Out := spdmReq s (inSession session (keySetGo stream sub))

/-- K_SET_STOP: the key goes; a Secure stream without a key left leaves Secure (R318; assumption 42). -/
def keySetStop (id sub : Nat) (s : State) : State :=
  if s.link.ide.any fun i => i.id == id && i.keys.contains sub then
    let s := updIde id (fun i => { i with keys := i.keys.erase sub }) s
    spdmAns 0x7E 0 (if s.link.ide.any fun i => i.id == id && i.keys.isEmpty && i.secure then ideInsecure id s else s)
  else spdmAns 0x7E 1 s

def execKSetStop (session stream sub : Nat) (s : State) : Out := spdmReq s (inSession session (keySetStop stream sub))

/-- IDE_KM QUERY: the capability's bytes are the standard's (assumption 8). -/
def execIdeKmQuery (session : Nat) (s : State) : Out := spdmReq s (inSession session (freeAns 0x7E 11))

/-- Any other request (R420). -/
def execSpdmUnsupported (s : State) : Out := spdmReq s (spdmErr unsupported)

end Sys2Proof.Machine
end

