-- ==== Sys2Proof/Machine/Mgmt.lean ====
section
/-! DEFINITION. The management service (R433–R447, R452): connections, requests and the resources they reach. HTTP status
codes that the spec does not state are those of Redfish (PRESUMED, assumption 43). -/
namespace Sys2Proof.Machine

def updMgmt (f : Mgmt → Mgmt) (s : State) : State := { s with mgmt := f s.mgmt }

/-! ### When management serves -/

/-- The management network answers (R321 step 10, R446, R461, R463). -/
def mgmtServes (s : State) : Bool :=
  s.mgmt.up && s.mod.rails && !s.mod.perst && !s.mgmt.dead && !s.mod.resets.running.contains (.management, 0)
    && s.sec.window != some 20

/-- Connections end; an upload cut short ends its STAGE (R445). -/
def closeConns (p : Conn → Bool) (s : State) : State :=
  let cut := match s.mgmt.upload, s.sec.cmd with
    | some c, .stage _ false => s.mgmt.conns.any fun x => x.id == c && p x
    | _, _ => false
  let s := updMgmt (fun m => { m with conns := m.conns.filter fun x => !p x }) s
  if cut then endUpdate .aborted (updMgmt (fun m => { m with upload := none }) s) else s

/-- The credential record as defaults (R435, R437). -/
def Mgmt.unprovisioned (m : Mgmt) : Mgmt :=
  { m with accounts := [], sessions := [], authorities := [], tlsKey := false, cert := none, network := 0, networkNext := none }

def loseCredential (s : State) : State := { updMgmt Mgmt.unprovisioned s with hk := { s.hk with mgmtCap := 2700 } }

/-- MGMT_UP (R321, R324, R435): unprovisioned where the credential record does not read. -/
def mgmtStart (s : State) : State :=
  if booted s && s.mod.rails && !s.mod.perst && !s.mgmt.dead && !s.mgmt.up then
    let s := updMgmt (fun m => { m with up := true, startup := true }) s
    if s.mgmt.credential && s.sec.debug != 2 then s else loseCredential s
  else s

def execMgmtUp (s : State) : Out := done s (mgmtStart s)

/-- MGMT_STARTUP_LIMIT_END (R324, R439). -/
def execMgmtStartupLimitEnd (s : State) : Out := done s (updMgmt (fun m => { m with startup := false }) s)

/-! ### Connections (R437–R439) -/

/-- A provisioning connection may be opened (R437). -/
def mayProvision (s : State) (cred : ConnCred) (linkLocal : Bool) : Bool :=
  s.mgmt.provision && linkLocal && cred == .noCertificate && !s.mgmt.conns.any (·.prov)

/-- A shown certificate chains to an installed authority (R438). -/
def credOk (s : State) (cred : ConnCred) : Bool :=
  match cred with
  | .noCertificate => true
  | .certificate a => s.mgmt.authorities.contains a

/-- MGMT_CONNECTION: refused by TCP, refused by TLS, or accepted. -/
def connect (id : Nat) (cred : ConnCred) (linkLocal : Bool) (s : State) : State :=
  if !mgmtServes s then { s with reply := .tcpRefused }
  else if s.mgmt.conns.any (·.id == id) then s
  else if s.mgmt.accounts.isEmpty then
    (if mayProvision s cred linkLocal then
      { updMgmt (fun m => { m with conns := m.conns ++ [{ id := id, prov := true }] }) s with reply := .accepted }
     else { s with reply := .tlsRefused })
  else if (if s.mgmt.startup then 4 else 16) ≤ s.mgmt.conns.length || !credOk s cred then { s with reply := .tlsRefused }
  else { updMgmt (fun m => { m with conns := m.conns ++ [{ id := id }] }) s with reply := .accepted }

def execMgmtConnection (conn : Nat) (cred : ConnCred) (linkLocal : Bool) (s : State) : Out := done s (connect conn cred linkLocal s)

/-- MANAGEMENT_CONNECTION_CLOSE (R445). -/
def cutUpload (a b : State) : BitVec 11 := if isStage a && !isStage b then intUpdate else 0

def execManagementConnectionClose (conn : Nat) (s : State) : Out :=
  let t := closeConns (·.id == conn) s
  doneWith (cutUpload s t) s t

/-- MANAGEMENT_PORT_LINK_CHANGE (R433): 1000BASE-T, else 100BASE-TX. -/
def execManagementPortLinkChange (up : Bool) (partner1000 : Bool) (partner100 : Bool) (s : State) : Out :=
  done s (updMgmt (fun m => { m with phy := if !up then 0 else if partner1000 then 2 else if partner100 then 1 else 0 }) s)

/-- ICMP_ECHO (R433): answered over either protocol. -/
def execIcmpEcho (_v6 : Bool) (s : State) : Out := done s (if mgmtServes s then { s with reply := .echo } else s)

/-! ### Requests -/

def http (status : Nat) (s : State) : State := { s with reply := .http status 0 0 }
def retryAfter (sec : Nat) (s : State) : State := { s with reply := .http 503 sec 0 }
def httpBody (status body : Nat) (s : State) : State := { s with reply := .http status 0 body }
def words (l : List Int) (s : State) : State := { s with reply := .httpWords l }

def updConn (id : Nat) (f : Conn → Conn) (s : State) : State := updMgmt (fun m => { m with conns := updWhere (·.id == id) f m.conns }) s

/-- A request is within the rates of its second (R324, R439); requests that are carried out count. -/
def withinRate (c : Conn) (sec : Nat) (m : Mgmt) : Bool :=
  let mine := if c.second = sec then c.count else 0
  let all := if m.second = sec then m.count else 0
  if m.startup then mine < 20 else mine < 50 && all < 200

def countRequest (c : Conn) (sec : Nat) (s : State) : State :=
  updConn c.id (fun c => { c with second := sec, count := (if c.second = sec then c.count else 0) + 1 })
    (updMgmt (fun m => { m with second := sec, count := (if m.second = sec then m.count else 0) + 1 }) s)

def State.account? (s : State) (user : Nat) : Option Account := s.mgmt.accounts.find? (·.user == user)

def updAccount (user : Nat) (f : Account → Account) (s : State) : State :=
  updMgmt (fun m => { m with accounts := updWhere (·.user == user) f m.accounts }) s

/-- A password attempt (R438): five failures within 60 s lock the account. -/
def tryPassword (user password sec : Nat) (s : State) : Option Account × State :=
  match s.account? user with
  | none => (none, s)
  | some a =>
    if a.locked then (none, s)
    else if a.password = password then (some a, s)
    else (none, updAccount user (fun a =>
      let f := sec :: a.fails.filter fun t => sec - t < 60
      { a with fails := f, locked := 5 ≤ f.length }) s)

/-- Who asks (R438). -/
def authenticate (r : Req) (s : State) : Option Account × State :=
  match r.auth with
  | .none => (none, s)
  | .certificate a u => (if s.mgmt.authorities.contains a then s.account? u else none, s)
  | .token n => (match s.mgmt.sessions.find? (·.1 == n) with | some x => s.account? x.2 | none => none, s)
  | .basic u p => tryPassword u p r.second s

/-- What a role may do (R436): 0 read, 1 the actions of R443, 2 everything, 3 the service facilities. -/
def roleLevel : Role → Nat
  | .readOnly => 0 | .operator => 1 | .administrator => 2 | .service => 3

/-- A request of a connection, before authentication: served, not the provisioning session, within its rates. -/
def request (r : Req) (s : State) (body : State → State) : State :=
  if !mgmtServes s then s
  else
    match s.mgmt.conns.find? (·.id == r.conn) with
    | none => s
    | some c =>
      if c.prov then http 403 s
      else if withinRate c r.second s.mgmt then body (countRequest c r.second s) else retryAfter 1 s

def etagOf (s : State) (x : Resource) : Nat := ((s.mgmt.etags.find? (·.1 == x)).map (·.2)).getD 0

def bumpEtag (x : Resource) (s : State) : State :=
  updMgmt (fun m => { m with etags := (x, etagOf s x + 1) :: m.etags.filter (·.1 != x) }) s

/-- A request on a resource by an authenticated account of a level (R436, R438, R440). -/
def asRole (level : Nat) (res : Resource) (r : Req) (s : State) (body : Account → State → State) : State :=
  request r s fun s =>
    match authenticate r s with
    | (none, s) => http 401 s
    | (some a, s) =>
      if roleLevel a.role < level then http 403 s
      else if (match r.ifMatch with | some e => e != etagOf s res | none => false) then http 412 s
      else body a s

/-- A change of the credential record (R435): refused while the vault is offline, or holds writes. A read-only or failed vault
refuses it as an offline one does (assumption 43). -/
def credChange (s : State) (body : State → State) : State :=
  if s.vault.st != 2 then http 409 s
  else if s.vault.writeHold then retryAfter 10 s
  else body s

def pwOk (n : Nat) : Bool := 12 ≤ n && n ≤ 64

/-! ### Sessions and accounts -/

/-- SESSION_CREATE (R438). -/
def sessionCreate (r : Req) (user password : Nat) (s : State) : State :=
  request r s fun s =>
    match tryPassword user password r.second s with
    | (none, s) => http 401 s
    | (some _, s) =>
      httpBody 201 s.mgmt.nextSession
        (updMgmt (fun m => { m with sessions := m.sessions ++ [(m.nextSession, user)], nextSession := m.nextSession + 1 }) s)

def execSessionCreate (r : Req) (user : Nat) (password : Nat) (s : State) : Out := done s (sessionCreate r user password s)

/-- SESSION_DELETE: one's own session, or any as Administrator. -/
def sessionDelete (r : Req) (n : Nat) (s : State) : State :=
  asRole 0 .sessions r s fun a s =>
    match s.mgmt.sessions.find? (·.1 == n) with
    | none => http 404 s
    | some x => if x.2 = a.user || 2 ≤ roleLevel a.role then
        http 200 (updMgmt (fun m => { m with sessions := m.sessions.filter (·.1 != n) }) s) else http 403 s

def execSessionDelete (r : Req) (session : Nat) (s : State) : Out := done s (sessionDelete r session s)

/-- SESSION_IDLE_TIMEOUT (R438). -/
def execSessionIdleTimeout (session : Nat) (s : State) : Out :=
  done s (updMgmt (fun m => { m with sessions := m.sessions.filter (·.1 != session) }) s)

/-- PASSWORD_LOCKOUT_END (R438). -/
def execPasswordLockoutEnd (user : Nat) (s : State) : Out := done s (updAccount user (fun a => { a with locked := false, fails := [] }) s)

/-- ACCOUNT_CREATE (R436, R438): up to 8. -/
def accountCreate (r : Req) (user : Nat) (role : Role) (password pwLen : Nat) (s : State) : State :=
  asRole 2 .accounts r s fun _ s =>
    if !pwOk pwLen then http 400 s
    else if (s.account? user).isSome || 8 ≤ s.mgmt.accounts.length then http 409 s
    else credChange s fun s =>
      http 201 (bumpEtag .accounts (updMgmt (fun m => { m with accounts := m.accounts ++ [{ user := user, role := role, password := password }] }) s))

def execAccountCreate (r : Req) (user : Nat) (role : Role) (password pwLen : Nat) (s : State) : Out :=
  done s (accountCreate r user role password pwLen s)

/-- The account is the only Administrator (R436). -/
def lastAdmin (s : State) (user : Nat) : Bool :=
  (s.mgmt.accounts.any fun a => a.user == user && a.role == .administrator)
    && !s.mgmt.accounts.any fun a => a.user != user && a.role == .administrator

/-- ACCOUNT_PATCH (R436): the last Administrator is not demoted. -/
def accountPatch (r : Req) (user : Nat) (role : Option Role) (password : Option (Nat × Nat)) (s : State) : State :=
  asRole 2 .accounts r s fun _ s =>
    if (s.account? user).isNone then http 404 s
    else if (match password with | some p => !pwOk p.2 | none => false) then http 400 s
    else if lastAdmin s user && (match role with | some x => x != .administrator | none => false) then http 409 s
    else credChange s fun s =>
      http 200 (bumpEtag .accounts (updAccount user (fun a =>
        { a with role := role.getD a.role, password := (password.map (·.1)).getD a.password }) s))

def execAccountPatch (r : Req) (user : Nat) (role : Option Role) (password : Option (Nat × Nat)) (s : State) : Out :=
  done s (accountPatch r user role password s)

/-- ACCOUNT_DELETE (R436, R438): its sessions close; the last Administrator stays. -/
def accountDelete (r : Req) (user : Nat) (s : State) : State :=
  asRole 2 .accounts r s fun _ s =>
    if (s.account? user).isNone then http 404 s
    else if lastAdmin s user then http 409 s
    else credChange s fun s =>
      http 200 (bumpEtag .accounts (updMgmt (fun m =>
        { m with accounts := m.accounts.filter (·.user != user), sessions := m.sessions.filter (·.2 != user) }) s))

def execAccountDelete (r : Req) (user : Nat) (s : State) : Out := done s (accountDelete r user s)

/-! ### Provisioning (R437) -/

/-- PROVISION_ACCOUNT_CREATE: one Administrator; Thimble draws the TLS key (R434); the session ends. -/
def provision (conn user password pwLen : Nat) (s : State) : State :=
  if !(mgmtServes s && s.mgmt.provision && s.mgmt.accounts.isEmpty && s.mgmt.conns.any fun c => c.id == conn && c.prov) then s
  else if !pwOk pwLen then http 400 s
  else credChange s fun s =>
    http 201 (updMgmt (fun m => { m with
      accounts := [{ user := user, role := .administrator, password := password }], tlsKey := true, cert := none
      conns := m.conns.filter fun c => !c.prov }) s)

def execProvisionAccountCreate (conn user password pwLen : Nat) (s : State) : Out := done s (provision conn user password pwLen s)

/-- MGMT_PROVISION_DEASSERT: the provisioning session ends. -/
def execMgmtProvisionDeassert (s : State) : Out :=
  done s (updMgmt (fun m => { m with provision := false, conns := m.conns.filter fun c => !c.prov }) s)

/-- CREDENTIAL_ERASE: held for 10 s from PERST_N deassertion; logged. -/
def execCredentialErase (s : State) : Out := done s (if s.mgmt.provision then note .credentialErased (loseCredential s) else s)

/-! ### Certificates and network -/

/-- GENERATE_CSR (R434): its bytes are free (assumption 9). -/
def execGenerateCsr (r : Req) (s : State) : Out :=
  done s (asRole 2 .certificates r s fun _ s => draw (httpBody 200 (Config.redfishBody 1 s.free) s))

/-- REPLACE_CERTIFICATE (R434): for the same key. -/
def execReplaceCertificate (r : Req) (cert : Nat) (matchesKey : Bool) (s : State) : Out :=
  done s (asRole 2 .certificates r s fun _ s =>
    if !matchesKey then http 400 s
    else credChange s fun s => http 200 (bumpEtag .certificates (updMgmt (fun m => { m with cert := some cert }) s)))

/-- CLIENT_AUTHORITY_INSTALL (R438). -/
def execClientAuthorityInstall (r : Req) (authority : Nat) (s : State) : Out :=
  done s (asRole 2 .certificates r s fun _ s =>
    credChange s fun s => http 201 (bumpEtag .certificates (updMgmt (fun m =>
      { m with authorities := if m.authorities.contains authority then m.authorities else m.authorities ++ [authority] }) s)))

/-- NETWORK_SETTINGS_PATCH (R443): accepted, in effect 1 s later. -/
def execNetworkSettingsPatch (r : Req) (settings : Nat) (s : State) : Out :=
  done s (asRole 2 .network r s fun _ s =>
    credChange s fun s => http 200 (bumpEtag .network (updMgmt (fun m => { m with networkNext := some settings }) s)))

/-- NETWORK_SETTINGS_APPLY (R443): open connections close. -/
def networkApply (s : State) : State :=
  match s.mgmt.networkNext with
  | some n => closeConns (fun _ => true) (updMgmt (fun m => { m with network := n, networkNext := none }) s)
  | none => s

def execNetworkSettingsApply (s : State) : Out := doneWith (cutUpload s (networkApply s)) s (networkApply s)

/-! ### Controls (R443) -/

/-- POWER_LIMIT_PATCH: 405–1,350 W; in force at the next tick (R371). -/
def powerLimitPatch (r : Req) (watts : Nat) (s : State) : State :=
  asRole 1 .powerLimit r s fun _ s =>
    if watts < 405 || 1350 < watts then http 400 s
    else credChange s fun s => http 200 (bumpEtag .powerLimit { s with hk := { s.hk with mgmtCap := 2 * watts } })

def execPowerLimitPatch (r : Req) (watts : Nat) (s : State) : Out := done s (powerLimitPatch r watts s)

/-- POWER_STATE_ACTION (R383, R386). -/
def powerStateAction (r : Req) (target : Nat) (s : State) : State :=
  asRole 1 .housekeeping r s fun _ s =>
    match pstateOf target with
    | none => http 400 s
    | some p => http (if hkAway s then 202 else 200) (askHk (.power p) s)

def execPowerStateAction (r : Req) (target : Nat) (s : State) : Out := done s (powerStateAction r target s)

/-- RLI_ENABLE (R176): PT0's pieces go elsewhere; it is threaded with the shelf's light, where that arrives, and the return path
opens. DESIGN CHOICE: while PT0 is DARK or calibrates again STATUS keeps its value (assumption 100). -/
def enterRemote (shelfOk : Bool) (s : State) : State :=
  if s.mod.rliEn then s
  else
    let s := evacuate 0 { s with mod := { s.mod with rliEn := true, rliStatus := 1 } }
    let s := updTile 0 (fun x => { x with rli := true, rliMoved := 0 }) s
    if s.mod.mstate == .safelight || s.mod.mstate == .fault || s.tiles[(0 : Fin 12)].safelight then s
    else if shelfOk then startCalib 0 { s with mod := { s.mod with rliReturn := true } }
    else ditherFollow 0 (loseTile 0 (darkTile 0 s))

def execRliEnable (r : Req) (shelfOk : Bool) (s : State) : Out :=
  done s (asRole 1 (.tile 0) r s fun _ s => http 200 (enterRemote shelfOk s))

/-- RLI_DISABLE (R176, R185): the switches move at PT0's next fix point, which is at once where PT0 is fogged; then the return
path closes. A tile that is not in service simply leaves RLI mode, and its threading starts afresh on its own lasers. -/
def leaveRemoteMode (s : State) : State :=
  let x := s.tiles[(0 : Fin 12)]
  let s : State := { s with mod := { s.mod with rliEn := false, rliStatus := if x.rli && x.st == .locked then s.mod.rliStatus else 0 } }
  if !x.rli then closeReturn s
  else if x.st == .locked then updTile 0 (Tile.await .leaveRli) s
  else
    let s := leaveShelf 0 s
    if x.st == .threading || (x.st == .dark && x.rest == .run && !x.safelight && (s.mod.mstate == .ready || s.mod.mstate == .calibrating))
    then startCalib 0 s else s

def execRliDisable (r : Req) (s : State) : Out := done s (asRole 1 (.tile 0) r s fun _ s => http 200 (leaveRemoteMode s))

/-! ### Updates (R445) -/

/-- An update command from management: 409 with RESULT BUSY while another runs, else its Task. -/
def askUpdate (c : SecCmd) (s : State) : State :=
  let t := askSec c s
  if c != .abort && s.sec.window.isNone && s.sec.cmd != .none then http 409 t else httpBody 202 (secUpdStatus t) t

/-- RESULT may be written again with its old value: a refusal counts (R481). -/
def updateAction (r : Req) (c : SecCmd) (s : State) : Out :=
  let t := asRole 2 .update r s fun _ s => askUpdate c s
  let asked := match t.reply with | .http 202 _ _ => true | .http 409 _ _ => true | _ => false
  doneWith (if asked && mgmtServes s && s.sec.window.isNone && !updStarted s t && !(c == .abort && t.sec.rolling) then intUpdate else 0) s t

def execMultipartUpdatePush (r : Req) (src : BundleRead) (s : State) : Out :=
  match updateAction r (.stage src false) s with
  | .next t => .next (if isStage t && !isStage s then updMgmt (fun m => { m with upload := some r.conn }) t else t)
  | x => x

def execUpdateActivateAction (r : Req) (s : State) : Out := updateAction r .activate s
def execUpdateAbortAction (r : Req) (s : State) : Out := updateAction r .abort s
def execUpdateCommitAction (r : Req) (s : State) : Out := updateAction r .commit s

/-! ### Reading -/

/-- ATTESTATION_ACTION (R418, R419). -/
def execAttestationAction (r : Req) (nonce : BitVec 256) (s : State) : Out :=
  done s (asRole 0 .update r s fun _ s => askReport true nonce s)

/-- REGISTERS_ACTION (R442): a word of the management space; reading clears nothing. At an address that is not aligned the read
returns the addressed bytes of the containing register (R9). -/
def execRegistersAction (r : Req) (addr : Nat) (s : State) : Out :=
  done s (asRole 0 .manager r s fun _ s => words [(readBytes (mgmtWord s (addr / 4 * 4)) addr 4 : Int)] s)

/-- Words of the management space from `a` on. -/
def wordsFrom (s : State) (a n : Nat) : List Int := (List.range n).map fun i => (mgmtWord s (a + 4 * i) : Int)

def tileBase (t : Nat) : Nat := 0x40000000 + t * 0x1000000

/-- A contact-sheet map (R168, R444): GEN, then 17,152 entries, 0x8000 where no value. -/
def sheetOf (s : State) (t : Fin 12) : List Int :=
  let x := s.tiles[t]
  let bank := if x.csGen.getLsbD 0 then x.bank1 else x.bank0
  (x.csGen.toNat : Int) :: (List.range 17152).map fun k => (sheetHalf bank k : Int)

/-- CONTACT_SHEET_GET (R444). -/
def execContactSheetGet (r : Req) (tile : Option (Fin 12)) (s : State) : Out :=
  done s (asRole 0 (.tile (tile.getD 0)) r s fun _ s =>
    words (match tile with | some t => sheetOf s t | none => ((List.finRange 12).map (sheetOf s)).flatten) s)

/-- A number for a resource whose body is the schema's (assumption 9). -/
def resourceCode : Resource → Nat
  | .serviceRoot => 2 | .sessions => 3 | .accounts => 4 | .roles => 5 | .certificates => 6 | .manager => 7 | .network => 8
  | .eventLog => 9 | .sensor n => 256 + n | .environment => 10 | .powerLimit => 11 | .update => 12 | .tasks => 13
  | .eventService => 14 | .registries => 15 | .serviceFacilities => 16 | .other => 17
  | .tile _ | .core _ | .laser _ _ | .calibration _ | .seam _ _ | .vault | .housekeeping | .placement => 18

/-- What a resource shows of the state (R441, R442): register words, readings, lists; none where the body is the schema's. -/
def resourceWords (s : State) : Resource → Option (List Int)
  | .tile t => some (wordsFrom s (tileBase t) 3)
  | .core c => some (wordsFrom s (tileBase (c.val / 4) + 0x20000 + c.val % 4 * 0x1000) 390)
  | .laser t n => some [(mgmtWord s (tileBase t + 0x10000 + 4 * n.val) : Int), (mgmtWord s (tileBase t + 0x10200) : Int)]
  | .calibration t => some (wordsFrom s (tileBase t + 0x40000) 9)
  | .seam t p => some (wordsFrom s (tileBase t + 0x30000 + 16 * p.val) 4)
  | .vault => some (wordsFrom s 0x50010000 8)
  | .housekeeping => some (wordsFrom s 0x50020000 6 ++ wordsFrom s 0x50020100 282
      ++ [(mgmtWord s 0x50030010 : Int), (mgmtWord s 0x50030110 : Int), (mgmtWord s 0x50030200 : Int)])
  | .placement => some [(glbPlacement s : Int), (glbPlaceStatus s : Int)]
  | .sensor n => some [((s.hk.at n).used).getD (-0x8000)]
  | .environment => some [(hkRead s 8 : Int), (s.hk.tempOut).getD (-128)]
  | .powerLimit => some [(s.hk.mgmtCap / 2 : Nat)]
  | .update | .tasks => some [(secUpdStatus s : Int), (secStatus s : Int)]
  | .sessions => some (s.mgmt.sessions.map fun x => (x.1 : Int))
  | .accounts => some ((s.mgmt.accounts.map fun a => [(a.user : Int), (roleLevel a.role : Int), if a.locked then 1 else 0]).flatten)
  | .network => some [(s.mgmt.network : Int), (s.mgmt.phy : Int)]
  | .eventLog => some ((s.mgmt.log.filterMap (·.seq)).map fun n => (n : Int))
  | _ => none

/-- REDFISH_GET (R441, R442, R447). -/
def redfishGet (r : Req) (x : Resource) (s : State) : State :=
  asRole 0 x r s fun a s =>
    if x == .other then http 404 s
    else if x == .serviceFacilities && s.sec.debug = 0 then http 404 s
    else if x == .serviceFacilities && roleLevel a.role < 3 then http 403 s
    else
      match resourceWords s x with
      | some l => words l s
      | none => draw (httpBody 200 (Config.redfishBody (resourceCode x) s.free) s)

def execRedfishGet (r : Req) (res : Resource) (s : State) : Out := done s (redfishGet r res s)

/-- An entry before those of a higher SEQ. -/
def insertSeq (x : LogEntry) : List LogEntry → List LogEntry
  | [] => [x]
  | y :: ys => if x.seq.getD 0 ≤ y.seq.getD 0 then x :: y :: ys else y :: insertSeq x ys

/-- Every entry held, in memory or in the ring, from SEQ `n` on (R452), in order. -/
def heldFrom (m : Mgmt) (n : Nat) : List LogEntry :=
  let mem := m.log.filter (streamable m n)
  let old := m.ring.filter fun x => streamable m n x && !mem.any fun y => y.seq == x.seq
  (mem ++ old).reverse.foldr insertSeq []

/-- The lowest SEQ held. -/
def firstHeld (m : Mgmt) : Option Nat :=
  (m.ring ++ m.log).filterMap (·.seq) |>.foldl (fun a n => some (match a with | some k => min k n | none => n)) none

/-- EVENT_STREAM_OPEN (R439, R452): four streams; entries after Last-Event-ID, after one that names the first still held where
older ones are gone. -/
def streamOpen (r : Req) (lastId : Option Nat) (s : State) : State :=
  asRole 0 .eventService r s fun _ s =>
    if 4 ≤ (s.mgmt.conns.filter (·.stream)).length then { s with reply := .http 503 0 0 }
    else
      let m := s.mgmt
      let n := (lastId.map (· + 1)).getD (m.nextSeq.getD 0)
      let marker := match firstHeld m with | some k => if n < k then some k else none | none => none
      { updConn r.conn (fun c => { c with stream := true, next := m.nextSeq.getD 0 }) s with reply := .events marker ((heldFrom m n).map LogEntry.bytes) }

def execEventStreamOpen (r : Req) (lastId : Option Nat) (s : State) : Out := done s (streamOpen r lastId s)

/-! ### Service facilities (R447) -/

/-- A service request: absent in LOCKED, Service accounts only. -/
def asService (r : Req) (s : State) (body : State → State) : State :=
  asRole 0 .serviceFacilities r s fun a s =>
    if s.sec.debug = 0 then http 404 s else if roleLevel a.role < 3 then http 403 s else body s

def procCode : Proc → Nat
  | .thimble => 1 | .management => 2 | .housekeeping => 3 | .vault => 4 | .tailor => 5 | .shuttle => 6 | .tile => 7 | .hubDie => 8

/-- SERVICE_MEMORY_READ: any processor but Thimble. A processor that is not there answers 404, a range outside its private
memory (R26) 400; the contents are free (assumption 7). -/
def execServiceMemoryRead (r : Req) (proc : ProcAt) (addr len : Nat) (s : State) : Out :=
  done s (asService r s fun s =>
    if proc.kind == .thimble then http 403 s
    else if proc.kind == .hubDie || !procExists proc.kind proc.inst then http 404 s
    else if privateSize proc.kind < addr + len then http 400 s
    else draw (words ((List.range len).map fun i =>
      ((Config.privateMemory (procCode proc.kind + 16 * (proc.inst + 16 * s.free)) (addr + i)).toNat : Int)) s))

/-- SERVICE_LOG_DETAIL. -/
def execServiceLogDetail (r : Req) (raise : Bool) (s : State) : Out :=
  done s (asService r s fun s => http 200 (updMgmt (fun m => { m with detail := raise }) s))

/-- SERVICE_ADC_CAPTURE: up to 65,536 raw samples. -/
def execServiceAdcCapture (r : Req) (_core : Fin 48) (_row : Fin 67) (_half : Fin 2) (samples : List Byte) (s : State) : Out :=
  done s (asService r s fun s => if 65536 < samples.length then http 400 s else words (samples.map fun b => (b.toNat : Int)) s)

end Sys2Proof.Machine
end

