-- ==== Sys2Proof/Machine/Sideband.lean ====
section
/-! DEFINITION. The SMBus sideband (R453–R456): MCTP control, PLDM base, PLDM monitoring, the alert response. The codes and
layouts of the standards it names are PRESUMED (assumption 44). -/
namespace Sys2Proof.Machine

/-- A packet reaches the responder while the auxiliary domain is up (R453); one whose PEC fails is not acknowledged. -/
def sideband (pecOk : Bool) (s : State) (body : State → State) : Out :=
  done s (if !s.mod.auxOn then s else if pecOk then body s else { s with reply := .noAck })

def mctp (l : List Nat) (s : State) : State := { s with reply := .mctp l }
def pldm (code : Nat) (l : List Int) (s : State) : State := { s with reply := .pldm code l }

/-- Bytes of an answer that the spec does not give (assumption 13). -/
def romBytes (kind n : Nat) : List Int := (List.range n).map fun i => ((Config.pdrRom kind i).toNat : Int)

/-! ### MCTP control -/

/-- SET_ENDPOINT_ID: the null and the broadcast endpoint IDs are invalid data. -/
def setEndpoint (eid : BitVec 8) (s : State) : State :=
  if eid = 0 || eid = 0xFF then mctp [2] s else mctp [0, 0, eid.toNat, 0] (updMgmt (fun m => { m with eid := eid }) s)

def execSetEndpointId (eid : BitVec 8) (pecOk : Bool) (s : State) : Out := sideband pecOk s (setEndpoint eid)

/-- GET_ENDPOINT_ID: 0 until one is assigned. -/
def execGetEndpointId (pecOk : Bool) (s : State) : Out := sideband pecOk s (mctp [0, s.mgmt.eid.toNat, 0, 0])

/-- GET_MCTP_VERSION_SUPPORT: one entry, 1.3. -/
def execGetMctpVersionSupport (pecOk : Bool) (s : State) : Out := sideband pecOk s (mctp [0, 1, 0xF1, 0xF3, 0xFF, 0x00])

/-- GET_MESSAGE_TYPE_SUPPORT: PLDM. -/
def execGetMessageTypeSupport (pecOk : Bool) (s : State) : Out := sideband pecOk s (mctp [0, 1, 1])

/-! ### PLDM base -/

/-- GET_TID: the responder's terminus ID, which the spec does not give. -/
def execGetTid (pecOk : Bool) (s : State) : Out := sideband pecOk s (pldm 0 (romBytes 0 1))

/-- GET_PLDM_VERSION: of types 0 and 2; their versions are not given. -/
def execGetPldmVersion (type : Nat) (pecOk : Bool) (s : State) : Out :=
  sideband pecOk s (if type = 0 || type = 2 then pldm 0 (romBytes (1 + type) 4) else pldm 0x83 [])

/-- GET_PLDM_TYPES: types 0 and 2. -/
def execGetPldmTypes (pecOk : Bool) (s : State) : Out := sideband pecOk s (pldm 0 [5])

/-- GET_PLDM_COMMANDS: the commands of R453 as a bit mask. -/
def execGetPldmCommands (type : Nat) (pecOk : Bool) (s : State) : Out :=
  sideband pecOk s (
    if type = 0 then pldm 0 [2 ^ 2 + 2 ^ 3 + 2 ^ 4 + 2 ^ 5]
    else if type = 2 then pldm 0 [2 ^ 0x11 + 2 ^ 0x21 + 2 ^ 0x50 + 2 ^ 0x51]
    else pldm 0x83 [])

/-! ### Sensors (R454, R455) -/

/-- What a sensor answers: unavailable, failed with a replacement, or enabled (R455). An unavailable one carries no reading. -/
inductive SensorAnswer where
  | unavailable
  | failed (v : Int)
  | enabled (v : Int)
  deriving DecidableEq, Repr

def SensorAnswer.values : SensorAnswer → List Int
  | .unavailable => [2]
  | .failed v => [4, v]
  | .enabled v => [0, v]

/-- A temperature sensor: raw while the rails are off, unavailable before the first round, its replacement where it failed. -/
def tempAnswer (s : State) (n : Nat) : SensorAnswer :=
  let x := s.hk.at n
  if !s.mod.rails then (match x.raw with | some t => .enabled t | none => .unavailable)
  else if !s.mod.sidebandUp then .unavailable
  else
    match x.used with
    | none => .unavailable
    | some t => if x.failed then .failed t else .enabled t

/-- Mean of codes scaled by `num` ÷ 65,536, rounded to nearest. -/
def meanScaled (l : List Nat) (num : Nat) : Nat := (2 * l.foldl (· + ·) 0 * num + l.length * 65536) / (2 * l.length * 65536)

/-- Sensors 300–303: power in W, voltage in 0.01 V, current in 0.01 A over 10 ms; the limit in force, rounded down. -/
def railAnswer (s : State) (id : Nat) : SensorAnswer :=
  if !s.mod.rails || !s.mod.sidebandUp then .unavailable
  else if id = 303 then .enabled ((s.hk.inForce / 2 : Nat) : Int)
  else if s.hk.monitorFault || s.hk.powers.isEmpty then .unavailable
  else if id = 300 then .enabled (((powerMean s 100 1).getD 0 : Nat) : Int)
  else if id = 301 then .enabled ((meanScaled s.hk.volts 6250 : Nat) : Int)
  else .enabled ((meanScaled s.hk.amps 4000 : Nat) : Int)

/-- State sensors: module state, throttle, tile states; none while PERST_N is asserted. -/
def stateAnswer (s : State) (id : Nat) : SensorAnswer :=
  if !s.mod.rails || !s.mod.sidebandUp || s.mod.perst then .unavailable
  else if id = 310 then .enabled (s.mod.mstate.code + 1 : Nat)
  else if id = 311 then .enabled (if throttle s then 2 else 1)
  else if h : id - 320 < 12 then .enabled ((s.tiles[id - 320].st.code + 1 : Nat) : Int)
  else .unavailable

/-- GET_SENSOR_READING (R455): an ID that names no numeric sensor is invalid. -/
def sensorReading (s : State) (id : Nat) : State :=
  if 1 ≤ id && id ≤ 282 then pldm 0 (tempAnswer s (id - 1)).values s
  else if 300 ≤ id && id ≤ 303 then pldm 0 (railAnswer s id).values s
  else pldm 0x80 [] s

def execGetSensorReading (sensor : Nat) (pecOk : Bool) (s : State) : Out := sideband pecOk s fun s => sensorReading s sensor

/-- GET_STATE_SENSOR_READINGS (R454). -/
def stateReadings (s : State) (id : Nat) : State :=
  if id = 310 || id = 311 || (320 ≤ id && id ≤ 331) then pldm 0 (stateAnswer s id).values s else pldm 0x80 [] s

def execGetStateSensorReadings (sensor : Nat) (pecOk : Bool) (s : State) : Out := sideband pecOk s fun s => stateReadings s sensor

/-- The sensors of the repository (R454), in the order of its table. -/
def pdrSensors : List Nat := span 1 282 ++ (span 300 4 ++ ([310, 311] ++ span 320 12))

/-- Bytes of an answer: those that the spec fixes, the ROM's elsewhere. -/
def withRom (kind n : Nat) (known : List (Nat × Nat)) : List Int :=
  (romBytes kind n).mapIdx fun i b => match known.find? (·.1 == i) with | some x => (x.2 : Int) | none => b

/-- Little-endian bytes from a position on. -/
def bytesAt (pos n v : Nat) : List (Nat × Nat) := (List.range n).map fun i => (pos + i, v / 256 ^ i % 256)

/-- Unit, modifier and data size of a numeric sensor (R454): °C, W, V or A; a modifier of −2 is 254; sint16 is 3, uint16 is 2. -/
def pdrUnit (id : Nat) : Nat × Nat × Nat :=
  if id ≤ 282 then (2, 254, 3) else if id = 301 then (5, 254, 2) else if id = 302 then (6, 254, 2) else (7, 0, 2)

/-- State set of a state sensor (R454). -/
def pdrStateSet (id : Nat) : Nat := if id = 310 then 0x8000 else if id = 311 then 0x8001 else 0x8002

/-- The bytes of a sensor's record that R454 fixes: handle, type, sensor ID, and units or state set. -/
def pdrKnown (handle id : Nat) : List (Nat × Nat) :=
  bytesAt 0 4 handle ++ ((4, 1) :: bytesAt 12 2 id) ++
    (if id < 310 then let u := pdrUnit id; [(5, 2), (22, u.1), (23, u.2.1), (32, u.2.2)] else (5, 4) :: bytesAt 23 2 (pdrStateSet id))

/-- GET_PDR_REPOSITORY_INFO (R454): available, the number of records; the rest is the ROM's. -/
def execGetPdrRepositoryInfo (pecOk : Bool) (s : State) : Out :=
  sideband pecOk s (pldm 0 (withRom 4 40 ((0, 0) :: bytesAt 27 4 pdrSensors.length)))

/-- GET_PDR (R454): handles count from 1 in the table's order, 0 asks for the first; the next handle, the record in one part. -/
def getPdr (record : Nat) (s : State) : State :=
  let k := if record = 0 then 1 else record
  match pdrSensors[k - 1]? with
  | some id =>
    pldm 0 (withRom (5 + k) 75 (bytesAt 0 4 (if k < pdrSensors.length then k + 1 else 0) ++ (bytesAt 4 4 0 ++ ((8, 5) :: bytesAt 9 2 64))
      ++ (pdrKnown k id).map fun x => (11 + x.1, x.2))) s
  | none => pldm 0x82 [] s

def execGetPdr (record : Nat) (pecOk : Bool) (s : State) : Out := sideband pecOk s (getPdr record)

/-! ### The rest -/

/-- SMBUS_ALERT_RESPONSE (R456): its own address, 0x58 + SMB_ADDR, while it holds SMB_ALERT_N asserted. -/
def alertResponse (s : State) : State :=
  if smbAlert s then { s with reply := .smbus (0x58 + s.mgmt.smbAddr.toNat) } else { s with reply := .noAck }

def execSmbusAlertResponse (s : State) : Out := sideband true s alertResponse

/-- SIDEBAND_UNSUPPORTED (R453): ERROR_UNSUPPORTED_PLDM_CMD, or its MCTP equivalent. -/
def execSidebandUnsupported (pldmCmd pecOk : Bool) (s : State) : Out := sideband pecOk s (if pldmCmd then pldm 5 [] else mctp [5])

end Sys2Proof.Machine
end

