-- ==== Sys2Proof/Machine/Avail.lean ====
section
/-! DEFINITION. Availability: SAFELIGHT by command and its exit (R464–R468), partial resets and their escalation
(R461, R463), tile loss, Thimble's watchdog (R469). -/
namespace Sys2Proof.Machine

/-! ### SAFELIGHT (R464–R468, R471) -/

/-- EXIT writes RESULT at once, unless it starts an exit. -/
def leaveWrites (s t : State) : BitVec 11 := if slServes s && !(t.mod.slExit && !s.mod.slExit) then intSafelight else 0

def enterWrites (s : State) : BitVec 11 := if slServes s then intSafelight else 0

/-- SAFELIGHT_ENTER: GLB_SAFELIGHT.CMD = ENTER. -/
def execSafelightEnter (s : State) : Out :=
  if pfOpen s 0x58 then doneWith (if hkAway s then 0 else enterWrites s) s (askHk .enter s) else barDone 0 s s

/-- SAFELIGHT_EXIT: GLB_SAFELIGHT.CMD = EXIT. -/
def execSafelightExit (s : State) : Out :=
  if pfOpen s 0x58 then doneWith (if hkAway s then 0 else leaveWrites s (slLeave s)) s (askHk .leave s) else barDone 0 s s

/-- The management action reached the command path (R443, R471). -/
def slReached (t : State) : Bool := match t.reply with | .http 200 _ _ | .http 409 _ _ => true | _ => false

/-- MGMT_SAFELIGHT_ENTER (R25, R443): accepted, and carried out later, while housekeeping cannot act. -/
def execMgmtSafelightEnter (r : Req) (s : State) : Out :=
  let t := asRole 1 .manager r s fun _ s =>
    if hkAway s then http 202 (askHk .enter s) else if slServes s then http 200 (slEnter s) else http 409 s
  doneWith (if mgmtServes s && slReached t then enterWrites s else 0) s t

/-- MGMT_SAFELIGHT_EXIT (R443): a refused exit is a conflict. -/
def execMgmtSafelightExit (r : Req) (s : State) : Out :=
  let t := asRole 1 .manager r s fun _ s =>
    if hkAway s then http 202 (askHk .leave s)
    else if !slServes s then http 409 s
    else if (slLeave s).mod.slResult = 3 && !(slLeave s).mod.slExit then http 409 (slLeave s) else http 200 (slLeave s)
  doneWith (if mgmtServes s && slReached t then leaveWrites s t else 0) s t

/-- The exit's calibration has ended (R468 step 3): READY with at least 11 tiles LOCKED, else the tile-loss cause, tiles DARK
and rails off. -/
def exitDone (s : State) : State :=
  if 11 ≤ tilesLocked s then enterReady (setSlResult 1 s)
  else tilesOff { s with mod := { s.mod with slExit := false, slResult := 4, slCause := s.mod.slCause ||| causeBit 1 } }

def execSafelightExitDone (s : State) : Out :=
  if s.mod.mstate == .safelight && s.mod.slExit then doneWith intSafelight s (exitDone s) else done s s

/-- A cause of the module's own clears; with none left the exit starts by itself (R467). -/
def clearCause (c : Nat) (s : State) : State :=
  if s.mod.mstate == .safelight && s.mod.slCause &&& causeBit c != 0 then
    let s := { s with mod := { s.mod with slCause := s.mod.slCause &&& ~~~causeBit c } }
    if s.mod.slCause = 0 && !s.mod.slExit then startExit s else s
  else s

/-- Every value used lies at least 10 °C below its throttle threshold, and no sensor meets R369 (R467). -/
def coolingGone (h : Hk) : Bool :=
  (List.range 282).all fun n => (match (h.at n).used with | some t => t ≤ throttleAt n - 1000 | none => true) && !untrusted h n

/-- COOLING_CAUSE_CLEAR (R467): for 60 s. -/
def coolingCauseClear (s : State) : State :=
  if s.hk.coolingFault && coolingGone s.hk then clearCause 0 { s with hk := { s.hk with coolingFault := false } } else s

def execCoolingCauseClear (s : State) : Out := done s (coolingCauseClear s)

/-- LASER_SUPPLY_CAUSE_CLEAR (R467): power-good and inputs 28 and 29 within limits for 10 s. -/
def laserCauseClear (s : State) : State :=
  if s.hk.laserSupplyOk then s else clearCause 2 { s with hk := { s.hk with laserSupplyOk := true, laserOut := 0 } }

def execLaserSupplyCauseClear (s : State) : Out := done s (laserCauseClear s)

/-! ### Tile loss (R464) -/

/-- The tile counts as lost once it has stayed so for 1 s. -/
def tileLost (s : State) (t : Fin 12) : Bool :=
  let x := s.tiles[t]
  x.st == .quarantined || x.safelight
    || (x.rest == .run && !x.rli && x.fogCause != some .wake && x.fogCause != some .openFibre && (x.st == .fogged || x.st == .dark))

def lostCount (s : State) : Nat := ((List.finRange 12).filter (tileLost s)).length

/-- TILE_LOSS (R464): in SAFELIGHT every tile is dark, and the exit decides (R468). -/
def tileLoss (s : State) : State :=
  if (s.mod.mstate == .ready || s.mod.mstate == .calibrating) && 2 ≤ lostCount s then enterSafelight 1 s else s

def execTileLoss (s : State) : Out := done s (tileLoss s)

/-! ### Partial resets (R461) -/

/-- Its power domain is up. -/
def procUp (s : State) (p : Proc) (i : Nat) : Bool :=
  s.mod.rails && !s.mod.perst &&
    match p with
    | .tailor | .shuttle | .hubDie => s.power.hubsUp.getLsbD i
    | .tile => s.power.tilesUp.getLsbD i
    | _ => true

/-- The hub die of the active Tailor. -/
def activeTailor (s : State) : Nat := if s.tailor.onHd2 then 2 else 0

/-- A Tailor is lost with its processor or its hub die: the standby takes over from an active one (R27, R461). -/
def loseTailor (h : Nat) (s : State) : State :=
  if h = activeTailor s then tailorTimeout s
  else if h = 0 || h = 2 then { s with tailor := { s.tailor with standbyUp := false } } else s

/-- A tile's reset: DARK, its pieces re-placed at once, passes in flight redone (R461). -/
def resetTile (t : Fin 12) (s : State) : State :=
  calibrateTileDone t (ditherFollow t (loseTile t (if s.tiles[t].st == .quarantined then s else darkTile t s)))

/-- The vault processor's reset: the journal remounts. A write without a commit record starts again from its source; a committed
one waits for the other copy of its record (R278, R461). -/
def resetVault (s : State) : State :=
  let s := s.vault.writes.foldl (fun s w => if w.copies = 0 then hold w.q w.seq s else s) s
  { s with vault := { s.vault with
      st := if s.vault.st = 2 || s.vault.st = 3 then 1 else s.vault.st
      writes := s.vault.writes.filter (·.copies != 0) } }

/-- The management processor's reset (R446): connections closed, sessions lost. -/
def resetMgmt (s : State) : State := updMgmt (fun m => { m with sessions := [] }) (closeConns (fun _ => true) s)

/-- The context holds hub swatches on the hub die (R266). -/
def hubData (s : State) (h ctx : Nat) : Bool := s.swatches.any fun x => x.2 == ctx && x.1 / 64 == h && x.1 < 256

/-- The HBM3E of a hub die under reset is in self-refresh, its contents kept (R461). -/
def hubMemory (h : Nat) (up : Bool) (s : State) : State :=
  { s with power := { s.power with hbmUp := if up then s.power.hbmUp ||| (1#4 <<< h) else s.power.hbmUp &&& ~~~(1#4 <<< h) } }

/-- Work items with data in a lost hub SRAM run again from their inputs (R293, R461). -/
def rerunHub (h : Nat) (s : State) : State :=
  s.works.foldl (fun s w =>
    if hubData s h w.ctx then
      match s.pat? w.ctx w.pat with
      | some x => runAgain x.file w (cancelReqs w.q w.seq s)
      | none => s
    else s) s

/-- A hub die's reset: its SRAM lost, its three tiles' pieces re-placed, its Tailor lost. -/
def resetHub (h : Nat) (s : State) : State :=
  let s := (List.finRange 12).foldl (fun s t => if t.val % 4 = h then loseTile t s else s) s
  loseTailor h (rerunHub h (hubMemory h false s))

/-- What the reset of a component does beside its own image. -/
def resetProc (p : Proc) (i : Nat) (s : State) : State :=
  match p with
  | .tile => if h : i < 12 then resetTile ⟨i, h⟩ s else s
  | .vault => resetVault s
  | .housekeeping => { s with hk := { s.hk with halted := true } }
  | .management => resetMgmt s
  | .hubDie => resetHub i s
  | .tailor => loseTailor i s
  | .shuttle | .thimble => s

/-- The component is no longer being reset. -/
def notRunning (p : Proc) (i : Nat) (s : State) : State :=
  { s with mod := { s.mod with resets := { s.mod.resets with running := s.mod.resets.running.filter (· != (p, i)) } } }

/-- A fourth partial reset within one hour (R463). For a Tailor the rule names none: it stays down (assumption 46). -/
def escalate (p : Proc) (i : Nat) (s : State) : State :=
  match p with
  | .tile =>
    if h : i < 12 then
      (if s.tiles[i].st == .threading then calibQuarantine ⟨i, h⟩ s else loseTile ⟨i, h⟩ (quarantineTile ⟨i, h⟩ s))
    else s
  | .shuttle | .hubDie => enterFault 3 i s
  | .vault =>
    let s := s.vault.writes.foldl (fun s w => failCmd w.q w.seq .notPermitted 0 s) s
    { s with vault := { s.vault with st := 4 } }
  | .housekeeping => enterFault 2 0 { s with hk := { s.hk with halted := true } }
  | .management => updMgmt (fun m => { m with dead := true }) (resetMgmt s)
  | .tailor => notRunning .tailor i (loseTailor i s)
  | .thimble => s

/-- Partial resets of the component within the last hour. -/
def recentResets (s : State) (p : Proc) (i now : Nat) : Nat :=
  (s.mod.resets.history.filter fun x => x.1 == p && x.2.1 == i && now - x.2.2 < 3600).length

/-- A component is to be reset: it is, or its fourth reset within the hour escalates. `now` in seconds. -/
def partialReset (p : Proc) (i now : Nat) (s : State) : State :=
  if !booted s || !procExists p i || !procUp s p i || s.mod.resets.running.contains (p, i) then s
  else if 3 ≤ recentResets s p i now then escalate p i s
  else
    let run := fun (r : Resets) => { r with
      history := (p, i, now) :: r.history, running := if r.running.contains (p, i) then r.running else (p, i) :: r.running }
    let s := { s with mod := { s.mod with resets := run s.mod.resets } }
    resetProc p i s

/-- PROCESSOR_HEARTBEAT_MISS (R461, R463); an upload cut short ends its STAGE (R445). -/
def execProcessorHeartbeatMiss (proc : Proc) (inst : Nat) (now : Nat) (s : State) : Out :=
  let t := partialReset proc inst now s
  doneWith (cutUpload s t) s t

/-- PRIVATE_MEMORY_UNCORRECTABLE (R461, R469): FAULT where it is Thimble's. -/
def privateUncorrectable (p : Proc) (i now : Nat) (s : State) : State :=
  if p == .thimble then (if s.mod.rails && !s.mod.perst then enterFault 1 0 s else s) else partialReset p i now s

def execPrivateMemoryUncorrectable (proc : Proc) (inst : Nat) (now : Nat) (s : State) : Out :=
  let t := privateUncorrectable proc inst now s
  doneWith (cutUpload s t) s t

/-- THIMBLE_WATCHDOG (R469). -/
def execThimbleWatchdog (s : State) : Out := done s (if s.mod.rails && !s.mod.perst then enterFault 1 0 s else s)

/-- A tile is back: its tables stand again, and it relocks as in R387 steps 3–7; one that was being calibrated starts
afresh; one at rest stays so. -/
def tileBack (t : Fin 12) (s : State) : State :=
  let x := s.tiles[t]
  if s.mod.mstate == .fault || (s.mod.mstate == .safelight && !s.mod.slExit) || x.st != .dark || x.safelight then s
  else if x.rest == .sleep || x.rest == .deep then s
  else if x.cal.step != 0 then startCalib t s
  else trainDown t (updTile t (fun x => Tile.wake t.val { x with rest := .deep }) s)

/-- A Tailor that is back is the standby, unless it was reset while it was the only one (R27). -/
def tailorBack (h : Nat) (s : State) : State :=
  { s with tailor := { s.tailor with standbyUp := s.tailor.standbyUp || h != activeTailor s } }

/-- The component is measured again and back (R461, R417). -/
def procBack (p : Proc) (i : Nat) (s : State) : State :=
  match p with
  | .tile => if h : i < 12 then tileBack ⟨i, h⟩ s else s
  | .housekeeping => serveHk { s with hk := { s.hk with halted := false } }
  | .tailor => tailorBack i s
  | .hubDie =>
    let s := hubMemory i true s
    if i = 0 || i = 2 then tailorBack i (notRunning .tailor i s) else s
  | _ => s

/-- PARTIAL_RESET_DONE (R461). -/
def partialResetDone (p : Proc) (i : Nat) (s : State) : State :=
  if s.mod.resets.running.contains (p, i) then
    refill (procBack p i (notRunning p i s))
  else s

def execPartialResetDone (proc : Proc) (inst : Nat) (s : State) : Out :=
  doneWith (askedBits s (partialResetDone proc inst s)) s (partialResetDone proc inst s)

end Sys2Proof.Machine
end

