-- ==== Sys2Proof/Machine/Calib.lean ====
section
/-! DEFINITION. Calibration: fitting and bracketing (R194–R197), temperature sets (R198–R201), power-up steps (R190–R193),
running recalibration and sweeps (R206–R210), CALIBRATE (R211–R213) and SELF_TEST (R214, R215). -/
namespace Sys2Proof.Machine

/-! ### Calibration symbols -/

/-- A calibration symbol (R188): level symbols light channels of on-off light, analog symbols draw codes. -/
inductive CalSymbol where
  | level (lit : BitVec 64)
  | analog (input weights : List Nat)

/-- The codes of its 64 channels. -/
def CalSymbol.input : CalSymbol → List Nat
  | .level lit => (List.range 64).map fun ch => if lit.getLsbD ch then 63 else 0
  | .analog input _ => input

/-- The ring codes on the calibrated row. -/
def CalSymbol.weights : CalSymbol → List Nat
  | .level _ => List.replicate 64 63
  | .analog _ weights => weights

/-- What the tile controller computes as its truth: k of each half, or P of R64. -/
def CalSymbol.truth : CalSymbol → List Nat
  | .level lit => [popHalf lit 0, popHalf lit 1]
  | .analog input weights => [analogTruth input weights]

/-- A measurement reseeds the generator of its converter die (R188); the samples are used by the measured rows only. -/
def reseed (t : Fin 12) (s : State) : State := draw (updTile t (fun x => { x with lfsr := Config.calGenerator t.val s.free }) s)

/-! ### Fit, margin, bracketing -/

/-- Σ (k − 16) × μ_k: 2,992 times the gain (R194). -/
def gainSum (mu : List Int) : Int := ((List.range 33).map fun (k : Nat) => ((k : Int) - 16) * mu.getD k 0).foldl (· + ·) 0

/-- Two measurements of a half-row agree (R197); centres in 1/65,536 code. -/
def halvesAgree (x y : HalfMeas) : Bool :=
  ((List.range 33).all fun k => (x.mu.getD k 0 - y.mu.getD k 0).natAbs ≤ 16384)
    && decide (((gainSum x.mu - gainSum y.mu).natAbs : Int) * 400 ≤ gainSum x.mu + gainSum y.mu)

/-- What two agreeing measurements give (R197): twice the mean centres, and the larger deviations. -/
structure Adopted where
  mu2   : List Int
  sigma : List Nat

def adoptHalf (x y : HalfMeas) : Adopted :=
  { mu2 := (List.range 33).map fun k => x.mu.getD k 0 + y.mu.getD k 0
    sigma := (List.range 33).map fun k => max (x.sigma.getD k 0) (y.sigma.getD k 0) }

/-- The entry meets the limits of R194. -/
def halfLimits (h : Half) : Bool :=
  8192 ≤ h.k && h.k ≤ 32767 && -4096 ≤ h.o && h.o ≤ 4096 && (h.delta.all fun d => -128 ≤ d && d ≤ 127)
    && thresholdsRise (thresholds h)

/-- The dodge and burn entry of adopted centres (R194); none where the half-row fails. -/
def fitHalf (a : Adopted) : Option Half :=
  let g := gainSum a.mu2
  if g ≤ 0 then none
  else
    let k := (divEven (127008 * 2992 * 131072) g.toNat).toNat
    let o := divEven (2992 * a.mu2.foldl (· + ·) 0 - 528 * g) (512 * 33 * 2992)
    let base : Half := { k := k, o := o, delta := List.replicate 33 0 }
    if k = 0 then none
    else
      let h := { base with delta := (List.range 33).map fun i => divEven (a.mu2.getD i 0) 8192 - levelCentre base i }
      if halfLimits h then some h else none

/-- Ten times the level margin of a half-row, rounded down (R195); none where it is unbounded. -/
def marginOf (a : Adopted) : Option Nat :=
  (List.range 32).foldl (fun best i =>
    let d := a.mu2.getD (i + 1) 0 - a.mu2.getD i 0
    let sg := max (a.sigma.getD i 0) (a.sigma.getD (i + 1) 0)
    let sep : Option Nat := if sg = 0 then (if 0 < d then none else some 0) else some ((10 * d).toNat / (2 * sg))
    match best, sep with
    | none, x => x
    | some b, none => some b
    | some b, some v => some (min b v)) none

/-- MARGIN of a row (R195). -/
def rowMargin (a b : Adopted) : Nat :=
  match marginOf a, marginOf b with
  | none, none => 0xFFFE
  | some x, none => min x 0xFFFE
  | none, some y => min y 0xFFFE
  | some x, some y => min (min x y) 0xFFFE

/-- A residual in units of 0.01 LSB rms, rounded up (R195), from 1/65,536 LSB. -/
def residCode (r : Nat) : Nat := min 0xFFFE ((r * 100 + 65535) / 65536)

/-- What the measurements of a row decide (R197). -/
inductive Verdict3 where
  | more
  | bad
  | adopt (a b : Adopted) (resid : Nat)

/-- The pair of measurements that a half is adopted from, out of three (R197): indices. -/
def pickPair (h : RowMeas → HalfMeas) (m1 m2 m3 : RowMeas) : Option (RowMeas × RowMeas) :=
  if halvesAgree (h m1) (h m2) then some (m1, m2)
  else if halvesAgree (h m2) (h m3) then some (m2, m3)
  else if halvesAgree (h m1) (h m3) then some (m1, m3)
  else none

def bracket : List RowMeas → Verdict3
  | m1 :: m2 :: m3 :: _ =>
    (match pickPair RowMeas.a m1 m2 m3, pickPair RowMeas.b m1 m2 m3 with
     | some (x, y), some (u, v) =>
       .adopt (adoptHalf x.a y.a) (adoptHalf u.b v.b) (max (max x.resid y.resid) (max u.resid v.resid))
     | _, _ => .bad)
  | [m1, m2] =>
    if halvesAgree m1.a m2.a && halvesAgree m1.b m2.b then
      .adopt (adoptHalf m1.a m2.a) (adoptHalf m1.b m2.b) (max m1.resid m2.resid)
    else .more
  | _ => .more

/-- The entries, MARGIN and RESID of an adopted row, where it meets R194 and R196. -/
def judgeRow (a b : Adopted) (resid : Nat) : Option (Half × Half × Nat × Nat) :=
  match fitHalf a, fitHalf b with
  | some ha, some hb =>
    if 143 ≤ rowMargin a b && resid * 100 ≤ 70 * 65536 then some (ha, hb, rowMargin a b, residCode resid) else none
  | _, _ => none

/-- What adopted measurements give a row: the new entries where it meets the limits, MARGIN and RESID in any case (R195). -/
def Row.figures (a b : Adopted) (resid : Nat) (r : Row) : Half × Half × Nat × Nat :=
  (judgeRow a b resid).getD (r.a, r.b, rowMargin a b, residCode resid)

def Row.adopt (a b : Adopted) (resid : Nat) (r : Row) : Row := r.take (r.figures a b resid)

/-! ### Temperature sets -/

/-- The set whose temperature is closest to a sum of 16 readings; ties to the lower (R199). -/
def nearestSet (sum16 : Int) : Nat :=
  (List.range 5).foldl (fun (best : Nat) (j : Nat) =>
    if (sum16 - 16 * (2500 + 1500 * (j : Int))).natAbs < (sum16 - 16 * (2500 + 1500 * (best : Int))).natAbs then j else best) 0

/-- A set other than the nearest follows its change (R199); one that breaks the limits keeps its old values. DESIGN CHOICE: K is
rounded to nearest, ties to even (assumption 118). -/
def offsetHalf (old new x : Half) : Half :=
  let y : Half := { k := (divEven (x.k * new.k) old.k).toNat, o := x.o + new.o - old.o, delta := new.delta }
  if old.k = 0 || !halfLimits y then x else y

/-- One half-row's entry in force goes into the sets. -/
def foldHalf (n k : Nat) (new : Half) (sets : Vector TempSet 5) : Vector TempSet 5 :=
  let old := if h : n < 5 then sets[n].entry k else {}
  vecMap (fun j ts => ts.put k (if j = n then new else offsetHalf old new (ts.entry k))) sets

/-- Every half-row in service goes into the sets (R199, R201). -/
def foldSets (n : Nat) (x : Tile) : Tile :=
  let keys := (List.range 268).filter fun cr => if h : cr / 67 < 4 then x.cores[cr / 67].inService (cr % 67) else false
  let row := fun (cr : Nat) => if h : cr / 67 < 4 then x.cores[cr / 67].row (cr % 67) else {}
  { x with cal := { x.cal with
      sets := keys.foldl (fun sets cr => foldHalf n (2 * cr + 1) (row cr).b (foldHalf n (2 * cr) (row cr).a sets)) x.cal.sets } }

/-- A tile's sets as they are stored (R200). -/
def Tile.setCopy (gen : Nat) (x : Tile) : SetCopy :=
  { gen := gen, tables := x.rings.map fun g => (g.1, g.2.table), sets := x.cal.sets }

/-- The sets are committed to the vault (R200, R201): refused with TEMP_HOLD it is retried; none in a debug state (R427). -/
def commitSets (t : Fin 12) (s : State) : State :=
  if s.sec.debug != 0 then s
  else if vaultWritable s then
    updTile t (fun x => { x with cal := { x.cal with
      setGen := x.cal.setGen + 1, vaultCopy := x.setCopy (x.cal.setGen + 1), mirrorDue := true, retryDue := false } }) s
  else updTile t (fun x => { x with cal := { x.cal with retryDue := true } }) s

/-- SET_COMMIT (R201): hourly, after folding into the set nearest to the tile's present temperature. -/
def setCommit (t : Fin 12) (s : State) : State :=
  if s.tiles[t].st == .locked then
    commitSets t (updTile t (fun x => foldSets (nearestSet ((x.temps.take 16).foldl (· + ·) 0)) x) s)
  else s

def execSetCommit (tile : Fin 12) (s : State) : Out := done s (setCommit tile s)

def execSetCommitRetry (tile : Fin 12) (s : State) : Out :=
  done s (if s.tiles[tile].cal.retryDue then commitSets tile s else s)

def isStaging (s : State) : Bool := match s.sec.cmd with | .stage _ _ => true | _ => false

/-- MIRROR_WRITE (R200, R201): into the mirror area of the inactive slot; not before READY, in 0–85 °C, not while staging. -/
def execMirrorWrite (tile : Fin 12) (norTemp : Int) (s : State) : Out :=
  done s (if s.tiles[tile].cal.mirrorDue && s.mod.wasReady && 0 ≤ norTemp && norTemp ≤ 8500 && !isStaging s && s.sec.debug == 0 then
    updTile tile (fun x => { x with cal := { x.cal with
      mirrors := x.cal.mirrors.set (otherSlot s).val x.cal.vaultCopy, mirrorDue := false } }) s else s)

/-! ### Power-up steps -/

/-- At power-up the tile loads its sets (R200): the vault's copy, else the mirror's in the inactive slot, else the factory
record; a copy that was never written is none. -/
def loadSets (inactive : Fin 2) (vaultOk mirrorOk : Bool) (x : Tile) : Tile :=
  if x.cal.loaded then x
  else
    let v := vaultOk && 0 < x.cal.vaultCopy.gen
    let mirror := x.cal.mirrors[inactive]
    let m := mirrorOk && 0 < mirror.gen
    let copy := if v then x.cal.vaultCopy else if m then mirror else {}
    { x with
      rings := copy.tables.map fun g => (g.1, { table := g.2 })
      cal := { x.cal with
        loaded := true, source := if v then 0 else if m then 1 else 2, setGen := x.cal.vaultCopy.gen, sets := copy.sets } }

/-- One laser as characterisation leaves it (R141, R142, R190 step 1): tuned, its bias and monitor set points fixed; working
lasers emit, but for a tile on remote light, whose are warm-held (R176); spares are warm-held. -/
def Laser.characterised (t n draw : Nat) (bad rli : Bool) (l : Laser) : Laser :=
  let b := Config.operatingBias t n draw % 801
  let l := { l with set := b, freq := Config.laserFreq t n draw, monitor := Config.laserMonitor t n draw, margin := 0xFF }
  if bad then { l with st := .failed, bias := 0, serving := false }
  else if n < 64 && !rli then { l with st := .operating, bias := b, serving := true }
  else { l with st := .warmHold, bias := Config.warmHoldBias t n, serving := false }

/-- A channel whose working laser failed characterisation (R191): its spare serves it at once; with none the channel is dark.
DESIGN CHOICE: no swap of R144 runs, and LS_SWAPS does not count it (assumption 117). -/
def replaceBad (t : Fin 12) (s : State) (l : Fin 72) : State :=
  let ch := laserChan s.tiles[t] l
  if s.tiles[t].rli then s
  else if spareFree s.tiles[t] ch then
    updTile t (Tile.updLaser (spareOf (groupOf ch)) (fun x => { x with st := .operating, chan := ch.val, bias := x.set, serving := true })) s
  else updTile t (fun x => { x with dark := x.dark ||| (1#64 <<< ch.val) }) s

/-- Step 1 (R190, R191): the lasers are characterised; a working laser that fails is replaced at once; a bias of 680 or more
declares a laser fading (R143). -/
def characterise (t : Fin 12) (bad : List (Fin 72)) (s : State) : State :=
  let base := draw (updTile t (fun x => { x with lasers := vecMap (fun n l =>
    l.characterised t.val n s.free (bad.any (·.val == n)) x.rli) x.lasers }) s)
  (List.finRange 72).foldl (fun s l => judgeBias t l s) ((bad.filter (·.val < 64)).foldl (replaceBad t) base)

/-- Measurements of a run are stored, row by row. -/
def storeRun (runs : List (Fin 4 × Fin 67 × RowMeas)) (x : Tile) : Tile :=
  runs.foldl (fun x m => Tile.updCore m.1 (Core.updRow m.2.1 (fun r => { r with meas := r.meas ++ [m.2.2] })) x) x

/-- Rows whose first two measurements disagree. -/
def undecided (x : Tile) : List (Fin 4 × Fin 67) :=
  (List.finRange 4).flatMap fun c => ((List.finRange 67).filter fun r =>
    let row := (x.cores[c]).row r.val
    !row.quar && (match row.meas with | [_, _] => (match bracket row.meas with | .more => true | _ => false) | _ => false)).map fun r => (c, r)

/-- After the last run every row measured is adopted, or quarantined by calibration (R191, R194–R197). -/
def adoptRow (c : Fin 4) (x : Tile) (r : Fin 67) : Tile :=
  let row := (x.cores[c]).row r.val
  if row.quar || row.meas.isEmpty then x
  else
    let bad := fun (x : Tile) =>
      let y := Tile.calLose [(c, r)] (Tile.updCore c (Core.updRow r (fun w => { w with meas := [] })) x)
      { y with cal := { y.cal with quar := y.cal.quar + 1 } }
    match bracket row.meas with
    | .adopt a b e =>
      let y := Tile.updCore c (Core.updRow r (Row.adopt a b e)) x
      if (judgeRow a b e).isSome then y else bad y
    | _ => bad x

def adoptRuns (x : Tile) : Tile := (List.finRange 4).foldl (fun x c => (List.finRange 67).foldl (adoptRow c) x) x

/-- The tile goes on to the next step, or out of service where every core is retired (R191). -/
def stepTo (t : Fin 12) (n : Nat) (s : State) : State :=
  if s.tiles[t].allRetired then calibQuarantine t s
  else ditherFollow t (updTile t (fun y => { y with cal := { y.cal with step := n } }) s)

/-- The modulator span trim of a channel, and the span trim of a ring, numbered as in `Tile.rings` (R47, R52, R187): as step 3 or
the last core sweep set it. -/
def Tile.modTrim (t : Fin 12) (ch : Fin 64) (x : Tile) : Option Int := x.modAt.map (Config.modSpan t.val ch.val)

def Row.ringTrim (t : Fin 12) (ring : Nat) (r : Row) : Option Int := r.spanAt.map (Config.ringSpan t.val ring)

/-- Converter trim `n` of a half-row, numbered as in `TempSet` (R54, R187): TIA gain, ADC offset, gain, interleave skew,
sampling instant, 0 to 4. -/
def Row.halfTrim (t : Fin 12) (half n : Nat) (r : Row) : Option Int := r.convAt.map (Config.convTrim t.val (half * 5 + n))

/-- Step 3 (R187, R190, R191): weight drives and modulators are stepped through their codes and span-trimmed; a modulator beyond
its trim range makes its channel dark. -/
def step3 (t : Fin 12) (r : CalResults) (s : State) : State :=
  let d := s.free
  let s := draw (updTile t (fun x =>
    let x := mapCores (fun c => { c with modWritten := true, ringWritten := true, rows := vecMap (fun _ w => { w with spanAt := some d }) c.rows }) x
    { x.calQuarantine r.badRows with modAt := some d }) s)
  stepTo t 4 (r.badChannels.foldl (fun s ch => if s.tiles[t].dark.getLsbD ch.val then s else applyDark t ch s) s)

/-- A run of steps 4, 6 and 7 (R187, R188, R190): converter trims, then level statistics; rows whose trims lie beyond range are
quarantined. -/
def calRun (t : Fin 12) (r : CalResults) (s : State) : State :=
  let d := s.free
  reseed t (draw (updTile t (fun x =>
    let x := mapCores (fun c => { c with rows := vecMap (fun _ w => { w with convAt := some d }) c.rows }) x
    storeRun r.runs (x.calQuarantine r.badRows)) s))

/-- Bracketing ends (R197): rows are adopted or quarantined; `n` runs were made. -/
def adoptStep (t : Fin 12) (n third : Nat) (s : State) : State :=
  stepTo t 8 (updTile t (fun x =>
    let z := adoptRuns x
    { z with cal := { z.cal with runs := n, third := z.cal.third + BitVec.ofNat 32 third } }) s)

/-- Step 8 ends (R190, R191): a tile whose probes failed repeats them once, and locks without those rows if they fail again
(DESIGN CHOICE, assumption 101); otherwise the sets are refreshed and committed, the ports trained, the tile's summary formed
(DESIGN CHOICE, assumption 102), and the tile is LOCKED. Without its root clock the tile has no probes (R35). -/
def step8 (t : Fin 12) (bad : List (Fin 4 × Fin 67)) (s : State) : State :=
  if !pllGood s t then s
  else
    let x := (s.tiles[t]).calLose bad
    let s := updTile t (fun _ => x) s
    if x.allRetired then calibQuarantine t s
    else if !bad.isEmpty && !x.cal.probed then updTile t (fun y => { y with cal := { y.cal with probed := true } }) s
    else
      let n := nearestSet x.cal.meanTemp
      let s := updTile t (fun y =>
        let y := (foldSets n y).summary
        { y with cal := { y.cal with nearest := n }, rings := y.rings.map fun g => (g.1, { g.2 with dq := 0 }) }) s
      let s := lockTile t (trainDown t (commitSets t s))
      let s := if t = 0 && s.tiles[t].rli then { s with mod := { s.mod with rliStatus := 2 } } else s
      calibTileEnd t (careChannels t s)

/-- POWERUP_CALIBRATION_STEP (R190, R191); step 2 ends with THREADING_DONE. -/
def calibStep (t : Fin 12) (r : CalResults) (s : State) : State :=
  if s.tiles[t].st != .threading then s
  else
    match s.tiles[t].cal.step with
    | 1 => if !r.rulerOk then calibQuarantine t s
           else
             let s := characterise t r.badLasers (updTile t (fun x => { loadSets (otherSlot s) r.vaultSetsOk r.mirrorSetsOk x with heated := true }) s)
             ditherFollow t (updTile t (fun y => { y with cal := { y.cal with step := 2 } }) s)
    | 3 => step3 t r s
    | 4 => stepTo t 5 (calRun t r s)
    | 5 => stepTo t 6 s
    | 6 =>
      let s := updTile t (fun y => { y with cal := { y.cal with meanTemp := 16 * r.meanTemp } }) (calRun t r s)
      if (undecided s.tiles[t]).isEmpty then adoptStep t 2 0 s else stepTo t 7 s
    | 7 => adoptStep t 3 (undecided s.tiles[t]).length (calRun t r s)
    | 8 => step8 t r.badRows s
    | _ => s

def execPowerupCalibrationStep (tile : Fin 12) (results : CalResults) (s : State) : Out :=
  let b := calibStep tile results s
  doneWith (exitBit s b) s b

/-- CALIBRATION_DEADLINE (R192): 6.0 s from calibration start. -/
def execCalibrationDeadline (s : State) : Out := done s (if s.mod.mstate == .calibrating then leaveCalibrating s else s)

/-- TILE_CALIBRATION_DEADLINE (R192): 12.0 s. -/
def execTileCalibrationDeadline (tile : Fin 12) (s : State) : Out :=
  done s (if s.tiles[tile].st == .threading && s.mod.mstate != .calibrating then calibQuarantine tile s else s)

/-! ### Running recalibration -/

/-- A core's accelerated walk goes on (R211). -/
def Core.accelerating (c : Core) : Bool := 0 < c.accelLeft && c.canWalk

/-- The actions of a CALIBRATE on a tile have all ended (R211): its accelerated walks, and of RESTORE the measurements, the
returns and the sweeps. A tile that is out of service has none left. -/
def calibrateIdle (x : Tile) : Bool :=
  x.st == .dark || x.st == .quarantined
    || (x.st != .threading && !x.cores.toList.any Core.accelerating
        && (!x.cal.restore || (x.cores.toList.all (fun c => !(c.sweep && c.st == .retired) && c.rows.toList.all (!·.restoreDue))
          && x.pend.all fun ch => ch.order != 1)))

/-- A tile's part of a running CALIBRATE is looked at again. -/
def calibrateCheck (t : Fin 12) (s : State) : State :=
  let x := s.tiles[t]
  let s := updTile t (fun x => { x with cal := { x.cal with accel := x.cores.toList.any Core.accelerating } }) s
  match s.calib with
  | some c =>
    if c.busy.getLsbD t.val && !c.waiting.getLsbD t.val && !c.after.getLsbD t.val && calibrateIdle x then calibrateTileDone t s else s
  | none => s

/-- RECAL_SLOT (R204–R206, R210, R212, R413): the move waits with the tile's other changes for the fix point at which the slot
opens; `made` where the tile controller has to make it. -/
def recalSlot (core : Fin 48) (made : Bool) (s : State) : State :=
  let t := coreTile core
  if s.tiles[t].st != .locked || s.tiles[t].rest != .run || s.sec.window == some t.val then s
  else
    let s := updTile t (Tile.await (.recalMove (coreSlot core))) s
    calibrateCheck t (if made then madeFixPoint t s else fixPoint t s)

def execRecalSlot (slot : WalkSlot) (s : State) : Out := done s (recalSlot slot.core slot.made s)

/-- Rows of a core in a sweep leave service, quarantined by calibration (R209). -/
def sweepQuarantine (core : Fin 48) (fails : List (Fin 67)) (s : State) : State :=
  let new := fails.eraseDups.filter fun r => !((s.core core).row r.val).quar
  let s := updTile (coreTile core) (fun x => { x with cal := { x.cal with quar := x.cal.quar + BitVec.ofNat 32 new.length } })
    (updCore core (Core.calLose new) s)
  if (s.core core).st == .retired then loseCore core (updCore core (fun c => { c with sweep := false }) s) else s

/-- A row is quarantined by calibration: in its slot (R209, R216), or in a sweep of its core. -/
def slotQuarantine (core : Fin 48) (r : Fin 67) (s : State) : State :=
  let c := s.core core
  if c.sweep then
    (if c.st == .retired then updCore core (fun c => { c with sweepBad := r :: c.sweepBad }) s else sweepQuarantine core [r] s)
  else if c.slotBad then s
  else
    updTile (coreTile core) (fun x => { x with cal := { x.cal with quar := x.cal.quar + 1 } })
      (updCore core (fun c => { c with slotBad := true }) s)

/-- One ring's new ΔQ (R208): adopted, measured once more and adopted with a log entry, or the row fails. η × ΔQ is in
units of 10⁻⁸ GHz. DESIGN CHOICE: of two that agree the first is adopted (assumption 114). -/
def centreRing (core : Fin 48) (r : Fin 67) (s : State) (x : RingCentre) : State :=
  let t := coreTile core
  let k := ringKey (coreSlot core).val r.val x.ch.val
  let g := s.tiles[t].ring k
  let put := updTile t (Tile.updRing k (fun g => { g with dq := x.dq }))
  if g.eta * (x.dq - g.dq).natAbs ≤ 1000000000 then put s
  else
    match x.again with
    | none => s
    | some v =>
      if g.eta * (v - x.dq).natAbs ≤ 100000000 then note (.heaterCentring core.val r.val) (put s) else slotQuarantine core r s

/-- HEATER_CENTRING_DONE (R208, R209): of the row in its slot, or of a row of a core in a sweep; while the tile is LOCKED. -/
def centringDone (core : Fin 48) (r : Fin 67) (rings : List RingCentre) (s : State) : State :=
  let c := s.core core
  if s.tiles[coreTile core].st != .locked || !(c.sweep || (c.walk == some r && c.centring)) then s
  else ditherFollow (coreTile core) (updCore core (fun c => { c with centring := false }) (rings.foldl (centreRing core r) s))

def execHeaterCentringDone (core : Fin 48) (centred : RowCentre) (s : State) : Out :=
  done s (centringDone core centred.row centred.rings s)

/-- The received-power margins that a row's measurement gives are kept, and each channel's is judged (R142). -/
def noteMargins (core : Fin 48) (r : Fin 67) (l : List (Fin 64 × Nat)) (s : State) : State :=
  let t := coreTile core
  let s := updCore core (Core.updRow r (fun x =>
    { x with db := l.map (fun m => (m.1.val, m.2)) ++ x.db.filter fun d => !l.any fun m => m.1.val == d.1 })) s
  l.foldl (fun s m => judgeMargin t m.1 s) s

/-- A third measurement of a row is counted (R216). -/
def countThird (t : Fin 12) (n : Nat) (s : State) : State :=
  if n = 3 then updTile t (fun x => { x with cal := { x.cal with third := x.cal.third + 1 } }) s else s

/-- One measurement of the row in its slot (R197, R206): an adopted entry takes effect at once on a row that is out of service
(R207), and on row 66, which is measured while free, at the slot's end (R78). -/
def slotMeasure (core : Fin 48) (r : Fin 67) (m : RowMeas) (s : State) : State :=
  let ms := ((s.core core).row r.val).meas ++ [m]
  let s := countThird (coreTile core) ms.length (updCore core (Core.updRow r (fun x => { x with meas := ms })) s)
  match bracket ms with
  | .more => s
  | .bad => slotQuarantine core r s
  | .adopt a b e =>
    let s := updCore core (fun c =>
      if r = 66 then { Core.updRow r (fun x => { x with meas := [] }) c with took := some ((c.row 66).figures a b e) }
      else Core.updRow r (Row.adopt a b e) c) s
    if (judgeRow a b e).isSome then s else slotQuarantine core r s

/-- One measurement of a quarantined row under RESTORE (R211): it returns at a fix point if it passes. -/
def restoreMeasure (core : Fin 48) (r : Fin 67) (m : RowMeas) (s : State) : State :=
  let t := coreTile core
  let ms := ((s.core core).row r.val).meas ++ [m]
  let s := countThird t ms.length s
  let over_ := updCore core (Core.updRow r (fun x => { x with meas := [], restoreDue := false })) s
  match bracket ms with
  | .more => updCore core (Core.updRow r (fun x => { x with meas := ms })) s
  | .bad => calibrateCheck t over_
  | .adopt a b e =>
    let s := updCore core (Core.updRow r (Row.adopt a b e)) over_
    if (judgeRow a b e).isSome then updTile t (Tile.await (.restoreRow (coreSlot core) r)) s else calibrateCheck t s

/-- The issue cycles that a measurement claimed are counted (R207, R216): at most its 2,228,224 symbols. The number is free
(assumption 87). -/
def countClaims (t : Fin 12) (s : State) : State :=
  draw (updTile t (fun x => { x with cal := { x.cal with
    claims := x.cal.claims + BitVec.ofNat 32 (Config.claimedCycles s.free % 2228225) } }) s)

/-- CAL_MEASUREMENT_DONE (R188, R197, R206, R207, R211). -/
def measurementDone (core : Fin 48) (r : Fin 67) (m : RowMeas) (db : List (Fin 64 × Nat)) (s : State) : State :=
  let t := coreTile core
  let c := s.core core
  let slot := c.walk == some r && !c.slotBad
  let restore := (c.row r.val).restoreDue && (c.row r.val).quar && c.st != .retired
  if s.tiles[t].st != .locked || !(slot || restore) then s
  else
    let s := noteMargins core r db (reseed t (countClaims t s))
    if slot then slotMeasure core r m s else restoreMeasure core r m s

def execCalMeasurementDone (core : Fin 48) (row : Fin 67) (meas : RowMeas) (marginDb : List (Fin 64 × Nat)) (s : State) : Out :=
  done s (measurementDone core row meas marginDb s)

/-! ### Core sweeps -/

/-- A core is vacated and its sweep begins (R209). -/
def beginSweep (core : Fin 48) (s : State) : State :=
  let s := moveOff (· == core) (updCore core (fun c => { c with vacate := true }) s)
  ditherFollow (coreTile core) (updTile (coreTile core) (fun x =>
    let y := Tile.slotEnded x (Tile.updCore (coreSlot core) Core.startSweep x)
    { y with cal := { y.cal with step := 0xA } }) s)

/-- CORE_SWEEP_REQUEST (R209): the core cannot walk. -/
def execCoreSweepRequest (core : Fin 48) (s : State) : Out :=
  let c := s.core core
  done s (if s.tiles[coreTile core].st == .locked && c.st != .retired && !c.sweep && !c.canWalk then beginSweep core s else s)

/-- A row after a sweep: its figures where its two measurements agree. A row whose measurements disagree keeps its own. -/
def sweepRow (m1 m2 : RowMeas) (r : Row) : Row :=
  match bracket [m1, m2] with
  | .adopt a b e => r.adopt a b e
  | _ => r

/-- Its two measurements agree, and it does not meet the limits (R196). -/
def sweepBad (m1 m2 : RowMeas) : Bool := match bracket [m1, m2] with | .adopt a b e => (judgeRow a b e).isNone | _ => false

/-- Rows of a retired core that do not pass (R208, R211): a disagreement is no pass, and no failed centring is. -/
def sweepFails (centred : List (Fin 67)) (rows : List (Fin 67 × RowMeas × RowMeas)) : List (Fin 67) :=
  (List.finRange 67).filter fun r => centred.contains r ||
    match rows.find? (·.1 == r) with
    | some (_, m1, m2) => (match bracket [m1, m2] with | .adopt a b e => (judgeRow a b e).isNone | _ => true)
    | none => true

/-- The trims that a sweep sets (R187, R209), and the figures of the rows that passed. -/
def Core.swept (draw : Nat) (rows : List (Fin 67 × RowMeas × RowMeas)) (c : Core) : Core :=
  let c := { c with rows := vecMap (fun _ r => { r with spanAt := some draw, convAt := some draw }) c.rows }
  rows.foldl (fun c x => Core.updRow x.1 (sweepRow x.2.1 x.2.2) c) c

/-- A sweep of a core in service (R209): failing rows are quarantined by calibration. -/
def sweepService (core : Fin 48) (rows : List (Fin 67 × RowMeas × RowMeas)) (s : State) : State :=
  let fails := (rows.filter fun x => sweepBad x.2.1 x.2.2).map (·.1)
  updCore core (fun c => { c with sweep := false, vacate := false })
    (sweepQuarantine core fails (draw (updCore core (Core.swept s.free rows) s)))

/-- A sweep of a retired core under RESTORE (R211): it returns with at most one row quarantined. -/
def sweepRetired (core : Fin 48) (rows : List (Fin 67 × RowMeas × RowMeas)) (s : State) : State :=
  let fails := sweepFails (s.core core).sweepBad rows
  if 1 < fails.length then updCore core (fun c => { c with sweep := false, sweepBad := [] }) s
  else
    let s := draw (updCore core (fun c => Core.swept s.free rows (Core.fresh c)) s)
    let s := sweepQuarantine core fails s
    updCore core (fun c => if s.tiles[coreTile core].st == .locked then c.openGate else c) s

/-- CORE_SWEEP_DONE (R209, R211, R214, R220). -/
def sweepDone (core : Fin 48) (rows : List (Fin 67 × RowMeas × RowMeas)) (s : State) : State :=
  let t := coreTile core
  if !(s.core core).sweep || s.tiles[t].st != .locked then s
  else
    let s := if (s.core core).st == .retired then sweepRetired core rows (reseed t s) else sweepService core rows (reseed t s)
    let s := updTile t (fun x => { x.summary with cal := { x.summary.cal with
      step := if x.st == .threading || x.testing || x.cores.toList.any (·.sweep) then x.cal.step else 0 } }) s
    fillCores (calibrateCheck t (ditherFollow t s))

def execCoreSweepDone (core : Fin 48) (rows : List (Fin 67 × RowMeas × RowMeas)) (s : State) : Out := done s (sweepDone core rows s)

/-! ### CALIBRATE -/

/-- A tile's RETHREAD, or its wait for the tile's self-test to end or for the tile to wake: in order of arrival (R215, R384). -/
def startRethread (t : Fin 12) (s : State) : State :=
  if s.tiles[t].testing || s.tiles[t].rest != .run || testClaims s t then
    { s with calib := s.calib.map fun c => { c with waiting := c.waiting ||| (1#12 <<< t.val) } }
  else startCalib t s

/-- What an option can act on (R161, R211): ACCEL a LOCKED tile with a core that walks, RESTORE a LOCKED tile, RETHREAD a tile
that no pattern uses, DARK ones included, or a QUARANTINED one. -/
def eligible (s : State) (t : Fin 12) (opt : Nat) : Bool :=
  let x := s.tiles[t]
  match opt with
  | 0 => x.st == .locked && x.cores.toList.any Core.canWalk
  | 1 => x.st == .locked
  | _ => ((!tileUsed s t && !x.safelight) || x.st == .quarantined || x.outOfService) && !x.imageBad

/-- ACCEL or RESTORE of a tile that is rethreaded as well follows its RETHREAD. -/
def followsRethread (s : State) (t : Fin 12) (o : Nat) : Bool :=
  o < 2 && (match s.calib with | some c => c.tiles.getLsbD t.val && c.opts.getLsbD 2 && eligible s t 2 | none => false)

/-- One option on one tile of a merged run. -/
def startOption (s : State) (want : Fin 12 × Nat) : State :=
  let (t, o) := want
  let bit := 1#12 <<< t.val
  if followsRethread s t o then { s with calib := s.calib.map fun c => { c with busy := c.busy ||| bit, after := c.after ||| bit } }
  else if eligible s t o then
    let s := { s with calib := s.calib.map fun c => { c with busy := c.busy ||| bit } }
    match o with
    | 0 => startAccel t s
    | 1 => ditherFollow t (startRestore t s)
    | _ => startRethread t s
  else { s with calib := s.calib.map fun c => { c with skipped := c.skipped ||| bit } }

/-- The (tile, option) pairs of a mask and options. -/
def calibPairs (tiles : BitVec 12) (opts : BitVec 3) : List (Fin 12 × Nat) :=
  ((List.finRange 12).filter fun t => tiles.getLsbD t.val).flatMap fun t =>
    ((List.range 3).filter fun o => opts.getLsbD o).map fun o => (t, o)

/-- CALIBRATE (R211, R213, R466): it merges with a run in progress. -/
def calibrate (q seq : Nat) (e : Entry) (s : State) : State :=
  let tiles := BitVec.ofNat 12 (desc16 e.desc 16)
  let opts := BitVec.ofNat 3 (descByte e.desc 18)
  if e.st == .begun then calibrateEnd ((List.finRange 12).foldl (fun s t => calibrateCheck t s) s)
  else if s.mod.mstate == .safelight then finish q seq .ok tiles.toNat s
  else
    let old := s.calib.getD { by_ := [], tiles := 0, opts := 0, skipped := 0, busy := 0 }
    let was := calibPairs old.tiles old.opts
    let c := { old with by_ := old.by_ ++ [(q, seq)], tiles := old.tiles ||| tiles, opts := old.opts ||| opts }
    let new := (calibPairs c.tiles c.opts).filter fun p => !was.contains p
    let s := new.foldl startOption (begin_ q seq { s with calib := some c })
    calibrateEnd ((List.finRange 12).foldl (fun s t => calibrateCheck t s) s)

def execCalibrate (q seq : Nat) (s : State) : Out := done s (inTurn 0x0B q seq s fun _ _ e => calibrate q seq e s)

/-! ### SELF_TEST -/

/-- INFO of SELF_TEST (R350). -/
def SelfTest.info (x : SelfTest) : Nat := x.tested.toNat + x.failed.toNat * 2 ^ 16

/-- SELF_TEST ends with OK once every tile of its mask is tested; the next tile is picked as one is free (`selfTestFollow`). -/
def selfTestEnd (s : State) : State :=
  match s.selfTest with
  | some x => if x.tiles &&& ~~~x.tested = 0 then finish x.q x.seq .ok x.info { s with selfTest := none } else s
  | none => s

/-- SELF_TEST (R214, R466): one run at a time. -/
def selfTestCmd (q seq : Nat) (e : Entry) (s : State) : State :=
  if e.st == .begun then selfTestEnd s
  else if s.mod.mstate == .safelight then finish q seq .ok 0 s
  else if s.selfTest.isSome then s
  else selfTestEnd (begin_ q seq { s with selfTest := some { q := q, seq := seq, tiles := BitVec.ofNat 12 (desc16 e.desc 16) } })

def execSelfTest (q seq : Nat) (s : State) : Out := done s (inTurn 0x0C q seq s fun _ _ e => selfTestCmd q seq e s)

/-- A RETHREAD that waited for the tile starts (R215). -/
def rethreadNow (t : Fin 12) (s : State) : State :=
  match s.calib with
  | some c =>
    if c.waiting.getLsbD t.val && s.tiles[t].rest == .run then
      startCalib t { s with calib := some { c with waiting := c.waiting &&& ~~~(1#12 <<< t.val) } }
    else s
  | none => s

/-- A tile is no longer under test; a RETHREAD that waited for it starts (R215). -/
def leaveTest (t : Fin 12) (result : Nat) (s : State) : State :=
  let s := ditherFollow t (updTile t (fun x =>
    { mapCores (fun c => if c.st == .retired then c else { c with sweep := false }) x with
      testing := false, cal := { x.cal with step := 0, stResult := result } }) s)
  rethreadNow t s

/-- SELF_TEST_TILE_DONE (R214, R217): failing cores are retired; four failing cores quarantine the tile. -/
def selfTestTile (t : Fin 12) (failed : BitVec 4) (s : State) : State :=
  if !s.tiles[t].testing then s
  else
    let s := { s with selfTest := s.selfTest.map fun x => { x with
      tested := x.tested ||| (1#12 <<< t.val), failed := if failed = 0 then x.failed else x.failed ||| (1#12 <<< t.val) } }
    let s := if failed = 0 then s else note (.selfTestFail t.val failed.toNat) s
    let s := updTile t (fun x => { x with cores := vecMap (fun c k =>
      if failed.getLsbD c then { k with st := .retired, block := none, sweep := false } else k) x.cores }) s
    let s := leaveTest t (if failed = 0xF then 3 else if failed = 0 then 1 else 2) s
    selfTestEnd (if failed = 0xF then quarantineTile t s else s)

def execSelfTestTileDone (tile : Fin 12) (failed : BitVec 4) (s : State) : Out := done s (selfTestTile tile failed s)

/-- SELF_TEST_STOP (R215): the tile is released, not tested, and passed over until it becomes free anew. -/
def execSelfTestStop (tile : Fin 12) (s : State) : Out :=
  done s (if s.tiles[tile].testing then
    leaveTest tile 4 { s with selfTest := s.selfTest.map fun x => { x with passed := x.passed ||| (1#12 <<< tile.val) } } else s)

/-- SELF_TEST_DEADLINE (R215): NOT_RUN, with the tiles tested so far. -/
def selfTestDeadline (s : State) : State :=
  match s.selfTest with
  | none => s
  | some x =>
    let s := (List.finRange 12).foldl (fun s t => if s.tiles[t].testing then leaveTest t 4 s else s) s
    (List.finRange 12).foldl (fun s t => rethreadNow t s) (finish x.q x.seq .notRun x.info { s with selfTest := none })

def execSelfTestDeadline (s : State) : Out := done s (selfTestDeadline s)

end Sys2Proof.Machine
end

