-- ==== Sys2Proof/Machine/Dispatch.lean ====
section
/-! DEFINITION. One arm for each command: a call of its meaning. -/
namespace Sys2Proof.Machine

def exec (i : Instr) (s : State) : Host.Outcome State Fault Refusal :=
  match i with
  | .nop q seq => Sys2Proof.Machine.execNop q seq s
  | .runPattern q seq hs => Sys2Proof.Machine.execRunPattern q seq hs s
  | .loadPattern q seq hs rsp => Sys2Proof.Machine.execLoadPattern q seq hs rsp s
  | .unloadPattern q seq => Sys2Proof.Machine.execUnloadPattern q seq s
  | .copy q seq hs bad => Sys2Proof.Machine.execCopy q seq hs bad s
  | .fill q seq => Sys2Proof.Machine.execFill q seq s
  | .expertHint q seq hs => Sys2Proof.Machine.execExpertHint q seq hs s
  | .fence q seq hs => Sys2Proof.Machine.execFence q seq hs s
  | .signal q seq => Sys2Proof.Machine.execSignal q seq s
  | .scaleFreeze q seq => Sys2Proof.Machine.execScaleFreeze q seq s
  | .scaleSet q seq => Sys2Proof.Machine.execScaleSet q seq s
  | .calibrate q seq => Sys2Proof.Machine.execCalibrate q seq s
  | .selfTest q seq => Sys2Proof.Machine.execSelfTest q seq s
  | .queryStatus q seq => Sys2Proof.Machine.execQueryStatus q seq s
  | .createContext seq => Sys2Proof.Machine.execCreateContext seq s
  | .destroyContext seq => Sys2Proof.Machine.execDestroyContext seq s
  | .createQueue seq => Sys2Proof.Machine.execCreateQueue seq s
  | .destroyQueue seq => Sys2Proof.Machine.execDestroyQueue seq s
  | .map seq => Sys2Proof.Machine.execMap seq s
  | .unmap seq => Sys2Proof.Machine.execUnmap seq s
  | .setPartitionAssign seq => Sys2Proof.Machine.execSetPartitionAssign seq s
  | .setPartitionRelease seq => Sys2Proof.Machine.execSetPartitionRelease seq s
  | .setPartitionReassign seq => Sys2Proof.Machine.execSetPartitionReassign seq s
  | .setPartitionCreate seq => Sys2Proof.Machine.execSetPartitionCreate seq s
  | .setPartitionResize seq => Sys2Proof.Machine.execSetPartitionResize seq s
  | .setPartitionDelete seq => Sys2Proof.Machine.execSetPartitionDelete seq s
  | .setPartitionAttach seq => Sys2Proof.Machine.execSetPartitionAttach seq s
  | .setPriority seq => Sys2Proof.Machine.execSetPriority seq s
  | .cancel seq => Sys2Proof.Machine.execCancel seq s
  | .nudge fn width value => Sys2Proof.Machine.execNudge fn width value s
  | .doorbellSlotRead q hs rsp => Sys2Proof.Machine.execDoorbellSlotRead q hs rsp s
  | .descriptorAdmit q hs rsp => Sys2Proof.Machine.execDescriptorAdmit q hs rsp s
  | .headWriteback q => Sys2Proof.Machine.execHeadWriteback q s
  | .completionRecordWrite q elapsed => Sys2Proof.Machine.execCompletionRecordWrite q elapsed s
  | .coalTimeExpiry q => Sys2Proof.Machine.execCoalTimeExpiry q s
  | .statusPageWrite page => Sys2Proof.Machine.execStatusPageWrite page s
  | .fencePoll q seq hs => Sys2Proof.Machine.execFencePoll q seq hs s
  | .selfTestDeadline => Sys2Proof.Machine.execSelfTestDeadline s
  | .selfTestTileDone tile failed => Sys2Proof.Machine.execSelfTestTileDone tile failed s
  | .selfTestStop tile => Sys2Proof.Machine.execSelfTestStop tile s
  | .aqEnable value => Sys2Proof.Machine.execAqEnable value s
  | .aqDisable value => Sys2Proof.Machine.execAqDisable value s
  | .glbPlacementWrite value => Sys2Proof.Machine.execGlbPlacementWrite value s
  | .clkSscWrite value => Sys2Proof.Machine.execClkSscWrite value s
  | .sscDepthApply => Sys2Proof.Machine.execSscDepthApply s
  | .clkStatusRead width off => Sys2Proof.Machine.execClkStatusRead width off s
  | .glbLinkRead width off => Sys2Proof.Machine.execGlbLinkRead width off s
  | .pwrEventsRead width off => Sys2Proof.Machine.execPwrEventsRead width off s
  | .intCauseWrite fn value meets => Sys2Proof.Machine.execIntCauseWrite fn value meets s
  | .intEnableWrite fn value => Sys2Proof.Machine.execIntEnableWrite fn value s
  | .intTestWrite fn value => Sys2Proof.Machine.execIntTestWrite fn value s
  | .safelightEnter => Sys2Proof.Machine.execSafelightEnter s
  | .safelightExit => Sys2Proof.Machine.execSafelightExit s
  | .safelightExitDone => Sys2Proof.Machine.execSafelightExitDone s
  | .coolingCauseClear => Sys2Proof.Machine.execCoolingCauseClear s
  | .laserSupplyCauseClear => Sys2Proof.Machine.execLaserSupplyCauseClear s
  | .powerTargetWrite value => Sys2Proof.Machine.execPowerTargetWrite value s
  | .pwrCapWrite value => Sys2Proof.Machine.execPwrCapWrite value s
  | .stage src => Sys2Proof.Machine.execStage src s
  | .stageDone imagesOk => Sys2Proof.Machine.execStageDone imagesOk s
  | .activate => Sys2Proof.Machine.execActivate s
  | .preloadDone imagesOk => Sys2Proof.Machine.execPreloadDone imagesOk s
  | .abort => Sys2Proof.Machine.execAbort s
  | .commit => Sys2Proof.Machine.execCommit s
  | .newChal => Sys2Proof.Machine.execNewChal s
  | .submit => Sys2Proof.Machine.execSubmit s
  | .debugTokenVerify tok => Sys2Proof.Machine.execDebugTokenVerify tok s
  | .registerWrite fn bar off width value poisoned => Sys2Proof.Machine.execRegisterWrite fn bar off width value poisoned s
  | .msixVectorUnmask fn vec => Sys2Proof.Machine.execMsixVectorUnmask fn vec s
  | .perstNAssert widthNs => Sys2Proof.Machine.execPerstNAssert widthNs s
  | .perstNDeassert digestA digestB provisionPin => Sys2Proof.Machine.execPerstNDeassert digestA digestB provisionPin s
  | .memoryTrainingDone => Sys2Proof.Machine.execMemoryTrainingDone s
  | .wakeN lowUs => Sys2Proof.Machine.execWakeN lowUs s
  | .hotReset => Sys2Proof.Machine.execHotReset s
  | .pfFlr => Sys2Proof.Machine.execPfFlr s
  | .vfFlr fn => Sys2Proof.Machine.execVfFlr fn s
  | .vfEnableClear => Sys2Proof.Machine.execVfEnableClear s
  | .vfEnableSet num ari => Sys2Proof.Machine.execVfEnableSet num ari s
  | .d3hotEntry fn => Sys2Proof.Machine.execD3hotEntry fn s
  | .d0Return fn => Sys2Proof.Machine.execD0Return fn s
  | .configRequest fn access sinceMs => Sys2Proof.Machine.execConfigRequest fn access sinceMs s
  | .linkRetrain => Sys2Proof.Machine.execLinkRetrain s
  | .linkTrainingDone speed width flit => Sys2Proof.Machine.execLinkTrainingDone speed width flit s
  | .atsInvalidate fn base len => Sys2Proof.Machine.execAtsInvalidate fn base len s
  | .atsInvalidateCompletion fn => Sys2Proof.Machine.execAtsInvalidateCompletion fn s
  | .atsTranslationCompletion fn page host read write => Sys2Proof.Machine.execAtsTranslationCompletion fn page host read write s
  | .feedDogResponse id hs rsp => Sys2Proof.Machine.execFeedDogResponse id hs rsp s
  | .completionTimeout id => Sys2Proof.Machine.execCompletionTimeout id s
  | .doeDiscovery index => Sys2Proof.Machine.execDoeDiscovery index s
  | .doeAbort => Sys2Proof.Machine.execDoeAbort s
  | .getVersion => Sys2Proof.Machine.execGetVersion s
  | .getCapabilities => Sys2Proof.Machine.execGetCapabilities s
  | .negotiateAlgorithms supported => Sys2Proof.Machine.execNegotiateAlgorithms supported s
  | .getDigests => Sys2Proof.Machine.execGetDigests s
  | .getCertificate slot offset length => Sys2Proof.Machine.execGetCertificate slot offset length s
  | .challenge slot summary nonce => Sys2Proof.Machine.execChallenge slot summary nonce s
  | .getMeasurements index signed nonce => Sys2Proof.Machine.execGetMeasurements index signed nonce s
  | .keyExchange mutualAuth => Sys2Proof.Machine.execKeyExchange mutualAuth s
  | .finish session verifies => Sys2Proof.Machine.execFinish session verifies s
  | .endSession session => Sys2Proof.Machine.execEndSession session s
  | .chunkSend handle seqNo last bytes => Sys2Proof.Machine.execChunkSend handle seqNo last bytes s
  | .chunkGet handle seqNo => Sys2Proof.Machine.execChunkGet handle seqNo s
  | .kemGet => Sys2Proof.Machine.execKemGet s
  | .kemCt ciphertext => Sys2Proof.Machine.execKemCt ciphertext s
  | .keyProg session stream sub => Sys2Proof.Machine.execKeyProg session stream sub s
  | .kSetGo session stream sub => Sys2Proof.Machine.execKSetGo session stream sub s
  | .kSetStop session stream sub => Sys2Proof.Machine.execKSetStop session stream sub s
  | .ideKmQuery session => Sys2Proof.Machine.execIdeKmQuery session s
  | .spdmUnsupported => Sys2Proof.Machine.execSpdmUnsupported s
  | .ideStreamInsecure stream => Sys2Proof.Machine.execIdeStreamInsecure stream s
  | .mgmtConnection conn cred linkLocal => Sys2Proof.Machine.execMgmtConnection conn cred linkLocal s
  | .mgmtStartupLimitEnd => Sys2Proof.Machine.execMgmtStartupLimitEnd s
  | .redfishGet r res => Sys2Proof.Machine.execRedfishGet r res s
  | .sessionCreate r user password => Sys2Proof.Machine.execSessionCreate r user password s
  | .sessionDelete r session => Sys2Proof.Machine.execSessionDelete r session s
  | .sessionIdleTimeout session => Sys2Proof.Machine.execSessionIdleTimeout session s
  | .passwordLockoutEnd user => Sys2Proof.Machine.execPasswordLockoutEnd user s
  | .accountCreate r user role password pwLen => Sys2Proof.Machine.execAccountCreate r user role password pwLen s
  | .accountPatch r user role password => Sys2Proof.Machine.execAccountPatch r user role password s
  | .accountDelete r user => Sys2Proof.Machine.execAccountDelete r user s
  | .generateCsr r => Sys2Proof.Machine.execGenerateCsr r s
  | .replaceCertificate r cert matchesKey => Sys2Proof.Machine.execReplaceCertificate r cert matchesKey s
  | .clientAuthorityInstall r authority => Sys2Proof.Machine.execClientAuthorityInstall r authority s
  | .powerLimitPatch r watts => Sys2Proof.Machine.execPowerLimitPatch r watts s
  | .powerStateAction r target => Sys2Proof.Machine.execPowerStateAction r target s
  | .mgmtSafelightEnter r => Sys2Proof.Machine.execMgmtSafelightEnter r s
  | .mgmtSafelightExit r => Sys2Proof.Machine.execMgmtSafelightExit r s
  | .rliEnable r shelfOk => Sys2Proof.Machine.execRliEnable r shelfOk s
  | .rliDisable r => Sys2Proof.Machine.execRliDisable r s
  | .networkSettingsPatch r settings => Sys2Proof.Machine.execNetworkSettingsPatch r settings s
  | .networkSettingsApply => Sys2Proof.Machine.execNetworkSettingsApply s
  | .multipartUpdatePush r src => Sys2Proof.Machine.execMultipartUpdatePush r src s
  | .updateActivateAction r => Sys2Proof.Machine.execUpdateActivateAction r s
  | .updateAbortAction r => Sys2Proof.Machine.execUpdateAbortAction r s
  | .updateCommitAction r => Sys2Proof.Machine.execUpdateCommitAction r s
  | .attestationAction r nonce => Sys2Proof.Machine.execAttestationAction r nonce s
  | .registersAction r addr => Sys2Proof.Machine.execRegistersAction r addr s
  | .contactSheetGet r tile => Sys2Proof.Machine.execContactSheetGet r tile s
  | .eventStreamOpen r lastId => Sys2Proof.Machine.execEventStreamOpen r lastId s
  | .serviceMemoryRead r proc addr len => Sys2Proof.Machine.execServiceMemoryRead r proc addr len s
  | .serviceLogDetail r raise => Sys2Proof.Machine.execServiceLogDetail r raise s
  | .serviceAdcCapture r core row half samples => Sys2Proof.Machine.execServiceAdcCapture r core row half samples s
  | .provisionAccountCreate conn user password pwLen => Sys2Proof.Machine.execProvisionAccountCreate conn user password pwLen s
  | .mgmtProvisionDeassert => Sys2Proof.Machine.execMgmtProvisionDeassert s
  | .credentialErase => Sys2Proof.Machine.execCredentialErase s
  | .setEndpointId eid pecOk => Sys2Proof.Machine.execSetEndpointId eid pecOk s
  | .getEndpointId pecOk => Sys2Proof.Machine.execGetEndpointId pecOk s
  | .getMctpVersionSupport pecOk => Sys2Proof.Machine.execGetMctpVersionSupport pecOk s
  | .getMessageTypeSupport pecOk => Sys2Proof.Machine.execGetMessageTypeSupport pecOk s
  | .getTid pecOk => Sys2Proof.Machine.execGetTid pecOk s
  | .getPldmVersion type pecOk => Sys2Proof.Machine.execGetPldmVersion type pecOk s
  | .getPldmTypes pecOk => Sys2Proof.Machine.execGetPldmTypes pecOk s
  | .getPldmCommands type pecOk => Sys2Proof.Machine.execGetPldmCommands type pecOk s
  | .getSensorReading sensor pecOk => Sys2Proof.Machine.execGetSensorReading sensor pecOk s
  | .getStateSensorReadings sensor pecOk => Sys2Proof.Machine.execGetStateSensorReadings sensor pecOk s
  | .getPdrRepositoryInfo pecOk => Sys2Proof.Machine.execGetPdrRepositoryInfo pecOk s
  | .getPdr record pecOk => Sys2Proof.Machine.execGetPdr record pecOk s
  | .smbusAlertResponse => Sys2Proof.Machine.execSmbusAlertResponse s
  | .sidebandUnsupported pldm pecOk => Sys2Proof.Machine.execSidebandUnsupported pldm pecOk s
  | .auxValid smbAddr => Sys2Proof.Machine.execAuxValid smbAddr s
  | .auxLoss => Sys2Proof.Machine.execAuxLoss s
  | .input48vValid => Sys2Proof.Machine.execInput48vValid s
  | .input48vLoss => Sys2Proof.Machine.execInput48vLoss s
  | .input48vOvervoltage => Sys2Proof.Machine.execInput48vOvervoltage s
  | .input48vRecovery => Sys2Proof.Machine.execInput48vRecovery s
  | .holdupChargeTimeout => Sys2Proof.Machine.execHoldupChargeTimeout s
  | .laserSupplyFault => Sys2Proof.Machine.execLaserSupplyFault s
  | .sensorConversion sensor temp => Sys2Proof.Machine.execSensorConversion sensor temp s
  | .thermalRestart digestA digestB => Sys2Proof.Machine.execThermalRestart digestA digestB s
  | .slowRound now diodeFaults => Sys2Proof.Machine.execSlowRound now diodeFaults s
  | .fastRound now => Sys2Proof.Machine.execFastRound now s
  | .sensorReturn sensor => Sys2Proof.Machine.execSensorReturn sensor s
  | .relaxHoldExpiry => Sys2Proof.Machine.execRelaxHoldExpiry s
  | .coolingFault => Sys2Proof.Machine.execCoolingFault s
  | .tileSafelightEnd tile => Sys2Proof.Machine.execTileSafelightEnd tile s
  | .monitorRound a b => Sys2Proof.Machine.execMonitorRound a b s
  | .mcSwTrigger mon => Sys2Proof.Machine.execMcSwTrigger mon s
  | .mcInject mon value => Sys2Proof.Machine.execMcInject mon value s
  | .mcConversionDone mon code => Sys2Proof.Machine.execMcConversionDone mon code s
  | .mcDataRead mon => Sys2Proof.Machine.execMcDataRead mon s
  | .mcDropsRead mon => Sys2Proof.Machine.execMcDropsRead mon s
  | .mcPlausRead => Sys2Proof.Machine.execMcPlausRead s
  | .monitorFaultClear => Sys2Proof.Machine.execMonitorFaultClear s
  | .refEnable => Sys2Proof.Machine.execRefEnable s
  | .refSettled => Sys2Proof.Machine.execRefSettled s
  | .domainDemandWake dom imageOk => Sys2Proof.Machine.execDomainDemandWake dom imageOk s
  | .domainHoldExpiry dom => Sys2Proof.Machine.execDomainHoldExpiry dom s
  | .drainRetry dom => Sys2Proof.Machine.execDrainRetry dom s
  | .powerTransitionDone => Sys2Proof.Machine.execPowerTransitionDone s
  | .tileSensorRead tile temps => Sys2Proof.Machine.execTileSensorRead tile temps s
  | .fogSlopeSettled tile => Sys2Proof.Machine.execFogSlopeSettled tile s
  | .probeRound tile probes foggedOver5K => Sys2Proof.Machine.execProbeRound tile probes foggedOver5K s
  | .probeRetryWait tile => Sys2Proof.Machine.execProbeRetryWait tile s
  | .fogReplacement tile => Sys2Proof.Machine.execFogReplacement tile s
  | .heaterScan tile reads => Sys2Proof.Machine.execHeaterScan tile reads s
  | .heaterReread tile rd => Sys2Proof.Machine.execHeaterReread tile rd s
  | .heaterMismatchConfirm tile rd => Sys2Proof.Machine.execHeaterMismatchConfirm tile rd s
  | .laserPowerLoop tile reads => Sys2Proof.Machine.execLaserPowerLoop tile reads s
  | .swapReady tile spare => Sys2Proof.Machine.execSwapReady tile spare s
  | .swapFixPointTimeout tile => Sys2Proof.Machine.execSwapFixPointTimeout tile s
  | .laserFrequencyHoldFail tile laser => Sys2Proof.Machine.execLaserFrequencyHoldFail tile laser s
  | .laserFail tile laser => Sys2Proof.Machine.execLaserFail tile laser s
  | .threadingDone tile rings chipletOk => Sys2Proof.Machine.execThreadingDone tile rings chipletOk s
  | .contactSheetMap tile temps => Sys2Proof.Machine.execContactSheetMap tile temps s
  | .seamFlitReceive tile port flit => Sys2Proof.Machine.execSeamFlitReceive tile port flit s
  | .seamAckTimeout tile port => Sys2Proof.Machine.execSeamAckTimeout tile port s
  | .seamLaneLos tile port lane => Sys2Proof.Machine.execSeamLaneLos tile port lane s
  | .seamErrorWindow tile port counts => Sys2Proof.Machine.execSeamErrorWindow tile port counts s
  | .seamRetrainTimeout tile port => Sys2Proof.Machine.execSeamRetrainTimeout tile port s
  | .switchReconfiguration tile paths => Sys2Proof.Machine.execSwitchReconfiguration tile paths s
  | .d2dFlitReceive link flit => Sys2Proof.Machine.execD2dFlitReceive link flit s
  | .openFibre => Sys2Proof.Machine.execOpenFibre s
  | .rootPllLockLoss die => Sys2Proof.Machine.execRootPllLockLoss die s
  | .rootPllRelock die => Sys2Proof.Machine.execRootPllRelock die s
  | .pllLossPersist die => Sys2Proof.Machine.execPllLossPersist die s
  | .faultDoorbellPoll q hs rsp => Sys2Proof.Machine.execFaultDoorbellPoll q hs rsp s
  | .weightLoad core pat piece set pass flips => Sys2Proof.Machine.execWeightLoad core pat piece set pass flips s
  | .pass core q seq piece set pass vec samples words operandOk => Sys2Proof.Machine.execPass core q seq piece set pass vec samples words operandOk s
  | .tileFixPoint tile => Sys2Proof.Machine.execTileFixPoint tile s
  | .coreFixPoint core => Sys2Proof.Machine.execCoreFixPoint core s
  | .fixPointLimitExpiry tile => Sys2Proof.Machine.execFixPointLimitExpiry tile s
  | .quantumEnd core savedOk => Sys2Proof.Machine.execQuantumEnd core savedOk s
  | .powerupCalibrationStep tile results => Sys2Proof.Machine.execPowerupCalibrationStep tile results s
  | .calibrationDeadline => Sys2Proof.Machine.execCalibrationDeadline s
  | .tileCalibrationDeadline tile => Sys2Proof.Machine.execTileCalibrationDeadline tile s
  | .recalSlot slot => Sys2Proof.Machine.execRecalSlot slot s
  | .heaterCentringDone core centred => Sys2Proof.Machine.execHeaterCentringDone core centred s
  | .calMeasurementDone core row meas marginDb => Sys2Proof.Machine.execCalMeasurementDone core row meas marginDb s
  | .coreSweepRequest core => Sys2Proof.Machine.execCoreSweepRequest core s
  | .coreSweepDone core rows => Sys2Proof.Machine.execCoreSweepDone core rows s
  | .setCommit tile => Sys2Proof.Machine.execSetCommit tile s
  | .setCommitRetry tile => Sys2Proof.Machine.execSetCommitRetry tile s
  | .mirrorWrite tile norTemp => Sys2Proof.Machine.execMirrorWrite tile norTemp s
  | .tailorHeartbeatTimeout => Sys2Proof.Machine.execTailorHeartbeatTimeout s
  | .dutyRevision tile want => Sys2Proof.Machine.execDutyRevision tile want s
  | .pieceMove pat piece fromCores toCores => Sys2Proof.Machine.execPieceMove pat piece fromCores toCores s
  | .snagScan first => Sys2Proof.Machine.execSnagScan first s
  | .stripeNarrow pat => Sys2Proof.Machine.execStripeNarrow pat s
  | .stripeWiden pat => Sys2Proof.Machine.execStripeWiden pat s
  | .batchWindowExpiry pat piece => Sys2Proof.Machine.execBatchWindowExpiry pat piece s
  | .expertFetchDone pat expert rsp => Sys2Proof.Machine.execExpertFetchDone pat expert rsp s
  | .writeOut q seq stagedOk rerunOk => Sys2Proof.Machine.execWriteOut q seq stagedOk rerunOk s
  | .lpddr4xPatrolScrub unit result => Sys2Proof.Machine.execLpddr4xPatrolScrub unit result s
  | .vaultBackgroundScan page strengthPct result => Sys2Proof.Machine.execVaultBackgroundScan page strengthPct result s
  | .vaultMount spare reads => Sys2Proof.Machine.execVaultMount spare reads s
  | .commitRecordProgrammed spool copies => Sys2Proof.Machine.execCommitRecordProgrammed spool copies s
  | .vaultTemperatureRead coldest hottest => Sys2Proof.Machine.execVaultTemperatureRead coldest hottest s
  | .vaultHoldRelease => Sys2Proof.Machine.execVaultHoldRelease s
  | .spoolScrub units => Sys2Proof.Machine.execSpoolScrub units s
  | .partitionScrubDone => Sys2Proof.Machine.execPartitionScrubDone s
  | .eventReport e now => Sys2Proof.Machine.execEventReport e now s
  | .logCommit => Sys2Proof.Machine.execLogCommit s
  | .logUnanchoredTimeout => Sys2Proof.Machine.execLogUnanchoredTimeout s
  | .swapWindowOpen => Sys2Proof.Machine.execSwapWindowOpen s
  | .swapWindowClose started => Sys2Proof.Machine.execSwapWindowClose started s
  | .processorHeartbeatMiss proc inst now => Sys2Proof.Machine.execProcessorHeartbeatMiss proc inst now s
  | .partialResetDone proc inst => Sys2Proof.Machine.execPartialResetDone proc inst s
  | .tileLoss => Sys2Proof.Machine.execTileLoss s
  | .mgmtUp => Sys2Proof.Machine.execMgmtUp s
  | .digitalFallbackCompute q seq piece reads => Sys2Proof.Machine.execDigitalFallbackCompute q seq piece reads s
  | .privateMemoryUncorrectable proc inst now => Sys2Proof.Machine.execPrivateMemoryUncorrectable proc inst now s
  | .thimbleWatchdog => Sys2Proof.Machine.execThimbleWatchdog s
  | .linkRecovery => Sys2Proof.Machine.execLinkRecovery s
  | .icmpEcho v6 => Sys2Proof.Machine.execIcmpEcho v6 s
  | .managementPortLinkChange up partner1000 partner100 => Sys2Proof.Machine.execManagementPortLinkChange up partner1000 partner100 s
  | .managementConnectionClose conn => Sys2Proof.Machine.execManagementConnectionClose conn s

end Sys2Proof.Machine
end

