-- ==== Sys2Proof/Safety.lean ====
section
/-! DEFINITION. The terms in which statements about the block are made: what a command's follow-up may move, when a queue
command is in its turn, and the properties that every command keeps. -/
namespace Sys2Proof.Machine

/-- A tile without what the Tailor's work may move: what its cores hold, changes waiting, dither, a test begun. -/
def Tile.stripped (t : Tile) : Tile :=
  { t with cores := vecMap (fun _ _ => {}) t.cores, pend := [], dith := vecMap (fun _ _ => {}) t.dith, testing := false
           cal := { t.cal with step := 0, marginCore := 0, marginRow := 0, margin := 0, residCore := 0, resid := 0 } }

/-- A pattern without where it stands (R231–R244), its stripe width (R257) and its streams diverted (R249). -/
def Pattern.stripped (x : Pattern) : Pattern :=
  { x with places := [], onFallback := [], turns := [], routes := [], blocks := [], stripe := 0, stripeWant := none, diverted := [] }

/-- A work item without what dealing may move (R232): its cores. -/
def Work.stripped (w : Work) : Work := { w with dealt := [] }

/-- The state without what `settle` may move after a command: the Tailor's turn, reserve and profile in force (R27, R235,
R236), placement, credits and waits (R231–R249), the next self-test (R215), INT_CAUSE, pending bits and messages (R310, R481),
marks of changed status pages (R354), GENERATION (R416). Two states with the same stripped state agree on everything else. -/
def State.stripped (s : State) : State :=
  { s with
    tailor := { s.tailor with onHd2 := false, takeover := false, profileNow := 0, reserveNow := none, toEmpty := none }
    mod := { s.mod with resets := { s.mod.resets with running := [] } }
    pats := s.pats.map Pattern.stripped
    works := s.works.map Work.stripped
    tiles := vecMap (fun _ => Tile.stripped) s.tiles
    funcs := vecMap (fun _ f => { f with intCause := 0, pba := [], dirty := false }) s.funcs
    ctxs := s.ctxs.map fun c => { c with dirty := false }
    bufs := [], edges := [], selfTest := none, msgs := [], free := 0
    sec := { s.sec with generation := 0 } }

/-- Command `seq` of queue `q` has opcode `op` and may execute now (R322, R341, R351): its queue, context and entry are
`x`, `c` and `e`. -/
structure Turn (s : State) (op q seq : Nat) (x : Queue) (c : Ctx) (e : Entry) : Prop where
  queue : s.queue? q = some x
  entry : x.entry? seq = some e
  ctx   : s.ctx? x.ctx = some c
  opcode : e.op = op
  go    : verdict s x e = .go

/-- An SPDM request reaches Thimble now (R316, R321, R413). -/
def State.doeOpen (s : State) : Bool := s.link.cfgUp && linkUsable s && doeReady s

/-- A management request of account `a` on a resource is carried out (R436–R440): the service is up, its connection `c` is no
provisioning session and within its rates, the account authenticates and has the role, and the ETag, if given, is the
resource's. -/
structure Granted (s : State) (level : Nat) (res : Resource) (r : Req) (c : Conn) (a : Account) : Prop where
  serves : mgmtServes s = true
  conn   : s.mgmt.conns.find? (·.id == r.conn) = some c
  plain  : c.prov = false
  rate   : withinRate c r.second s.mgmt = true
  auth   : authenticate r s = (some a, s)
  role   : level ≤ roleLevel a.role
  etag   : ∀ e, r.ifMatch = some e → e = etagOf s res

/-- Every memory is in its canonical form: host memory, HBM3E, LPDDR4X. -/
def State.memoryWf (s : State) : Bool := Memory.wf s.host && Memory.wf s.hbm && Memory.wf s.lp

/-- Pages are aligned to their size, and no two overlap (R260, R261, R263). -/
def pagesDisjoint : List Page → Bool
  | [] => true
  | p :: ps => p.dva % p.size == 0 && ps.all (fun x => decide (x.dva + x.size ≤ p.dva ∨ p.dva + p.size ≤ x.dva)) && pagesDisjoint ps

/-- So are the pages of every context, and context numbers are not used twice. -/
def State.pagesOk (s : State) : Bool := (s.ctxs.all fun c => pagesDisjoint c.pages) && decide (s.ctxs.map (·.num)).Nodup

/-- Seam ports with no partner are UNPARTNERED, and only they (R18, R186). -/
def State.portsOk (s : State) : Bool :=
  (List.finRange 12).all fun t => (List.finRange 4).all fun p => (s.tiles[t].seams[p].st == .unpartnered) == unpartnered t.val p.val

/-- VFs have the INT bits that R484 gives them only. -/
def State.vfIntOk (s : State) : Bool := (List.finRange 64).all fun fn => fn == 0 || s.funcs[fn].intCause &&& 0x1DE#11 == 0

/-- The commands that reset the module, or that complete an entry to OFF (R325, R377, R379, R388, R505, R506, R508): the
only way out of FAULT (R470). -/
def Instr.mayReset : Instr → Bool
  | .perstNAssert .. | .perstNDeassert .. | .thermalRestart .. | .sensorConversion .. | .wakeN .. | .input48vValid
  | .input48vLoss | .input48vOvervoltage | .input48vRecovery | .auxValid _ | .auxLoss | .powerTransitionDone => true
  | _ => false

end Sys2Proof.Machine
end

