-- ==== Sys2Proof/Certificates/Slice0/Obligations.lean ====
section
/-! DEFINITION. The statements for the provers. A command's result is stated as `exec c s = .next (settle s t w)`: it answers
a next state, which is `t`, every effect of the command named in it and everything else as in `s`, with what `settle` adds to
every command (changed pages marked, events raised; `settle_follows` in Laws says that it moves nothing else). -/
open Sys2Proof Sys2Proof.Machine

/-- A step runs the command at the front of the queue on the state with the queue's rest; on an empty queue the block idles (the
model's choice, assumption 1). -/
def Obligations.StepRunsFrontCommand : Prop :=
  (∀ (c : Instr) (rest : List Instr) (s : State),
    step { s with pending := c :: rest } = exec c { s with pending := rest }) ∧
  (∀ s : State, s.pending = [] → step s = .next s)

/-- No command stops the block: whatever the state, each answers a next state, and leaves the queue as it found it. -/
def Obligations.EveryCommandAnswersAndKeepsTheQueue : Prop :=
  ∀ (c : Instr) (s : State), ∃ t, exec c s = .next t ∧ t.pending = s.pending

/-- NOP completes with OK and INFO 0 and does nothing else (R340). FENCE and the poll of a FENCE complete without WAIT_MEM, and
with it once the 8 bytes at ADDR are at least VALUE; a FENCE whose value is smaller begins to wait (R345, R352).
QUERY_STATUS writes the block that WHAT selects, cut to DST_LEN, and completes with OK and INFO the bytes written; a refused
ID ends it with the status of R346. -/
def Obligations.NopFenceAndQueryComplete : Prop :=
  (∀ (s : State) (q seq : Nat) (x : Queue) (c : Ctx) (e : Entry),
     (Turn s 0x00 q seq x c e → exec (.nop q seq) s = .next (settle s (finish q seq .ok 0 s) 0)) ∧
     (∀ hs : List Cell, Turn (seeHost hs s) 0x07 q seq x c e →
       (descByte e.desc 16 = 0 →
         exec (.fence q seq hs) s = .next (settle s (finish q seq .ok 0 (seeHost hs s)) 0)) ∧
       (descByte e.desc 16 ≠ 0 → rangeFault (seeHost hs s) c (desc64 e.desc 24) 8 false = none →
         hostWaits (seeHost hs s) c (desc64 e.desc 24) 8 = false →
         (desc64 e.desc 32 ≤ leNat (dvaReadN (seeHost hs s) c (desc64 e.desc 24) 8) →
           exec (.fence q seq hs) s = .next (settle s (finish q seq .ok 0 (seeHost hs s)) 0) ∧
           (e.st = .begun → exec (.fencePoll q seq hs) s = .next (settle s (finish q seq .ok 0 (seeHost hs s)) 0))) ∧
         (leNat (dvaReadN (seeHost hs s) c (desc64 e.desc 24) 8) < desc64 e.desc 32 →
           exec (.fence q seq hs) s = .next (settle s (begin_ q seq (seeHost hs s)) 0))))) ∧
  (∀ (s : State) (q seq : Nat) (x : Queue) (c : Ctx) (e : Entry), Turn s 0x0D q seq x c e →
     (∀ blk, queryBlock s x c (descByte e.desc 16) (desc16 e.desc 18) = .ok blk →
       rangeFault s c (desc64 e.desc 24) (min (desc32 e.desc 32) blk.length) true = none →
       hostWaits s c (desc64 e.desc 24) (min (desc32 e.desc 32) blk.length) = false →
       exec (.queryStatus q seq) s = .next (settle s
         (finish q seq .ok (min (desc32 e.desc 32) blk.length)
           (storeDva c (desc64 e.desc 24) false (blk.take (desc32 e.desc 32)) s)) 0)) ∧
     (∀ st, queryBlock s x c (descByte e.desc 16) (desc16 e.desc 18) = .error st →
       exec (.queryStatus q seq) s = .next (settle s (finish q seq st 0 s) 0)) ∧
     (descByte e.desc 16 = 0 → ∀ y, s.queue? (desc16 e.desc 18) = some y → y.ctx = c.num →
       queryBlock s x c 0 (desc16 e.desc 18) = .ok (leBytes 8 y.head ++ leBytes 8 y.recs ++ leBytes 4 y.entries.length
         ++ leBytes 1 y.priority ++ leBytes 1 (bitAt 0 y.sleeping + bitAt 1 y.cqWait + bitAt 2 y.stopped) ++ List.replicate 10 0)) ∧
     (descByte e.desc 16 = 2 → ∀ y, s.spool? (desc16 e.desc 18) = some y → y.ctx = some c.num →
       queryBlock s x c 2 (desc16 e.desc 18) = .ok (leBytes 8 y.gen ++ leBytes 8 y.length ++ leBytes 4 y.size ++ leBytes 4 0
         ++ leBytes 8 y.inc)))

/-- SIGNAL writes VALUE as 8 little-endian bytes at ADDR and nothing else in any memory, and completes with OK; the FENCEs of
its context that wait on ADDR read it at once (R345, R352). An ADDR that is not mapped writable ends it with ACCESS_FAULT and
INFO the faulting DVA (R265), and nothing is written. -/
def Obligations.SignalWritesItsValue : Prop :=
  ∀ (s : State) (q seq : Nat) (x : Queue) (c : Ctx) (e : Entry) (p : Page), Turn s 0x08 q seq x c e → s.pagesOk = true →
    s.memoryWf = true → desc64 e.desc 24 % 8 = 0 → desc64 e.desc 24 < 2 ^ 52 →
    (translate s c (desc64 e.desc 24) true = some p → p.target < 3 →
      hostWaits s c (desc64 e.desc 24) 8 = false →
      ∃ t u, exec (.signal q seq) s = .next t ∧ t = settle s (wakeFences c (desc64 e.desc 24) (finish q seq .ok 0 u)) 0 ∧
        { u with host := s.host, hbm := s.hbm, lp := s.lp, posted := s.posted, bad := s.bad } = s ∧
        memReadN (targetMem t p.target) (p.addr + (desc64 e.desc 24 - p.dva)) 8 = leBytes 8 (desc64 e.desc 32) ∧
        ∀ k a, k < 3 → (k = p.target → a < p.addr + (desc64 e.desc 24 - p.dva) ∨ p.addr + (desc64 e.desc 24 - p.dva) + 8 ≤ a) →
          memRead (targetMem t k) a = memRead (targetMem s k) a) ∧
    (translate s c (desc64 e.desc 24) true = none →
      exec (.signal q seq) s = .next (settle s (finish q seq .accessFault (desc64 e.desc 24) s) 0))

/-- A slot read takes the host's TAIL and CQ_HEAD (R330, R334, R335): a TAIL ahead of the cached one ends the queue's wait; a
TAIL more than the ring ahead of HEAD, or a CQ_HEAD ahead of the records, stops the queue; an unchanged TAIL sets SLEEPING,
which is written to the slot. A failed read faults the context (R462). The FAULT poll takes them in FAULT too (R470). HEAD
is written to the slot with FLAGS as one 8-byte write (R330, R333); COAL_TIME sends the queue's pending interrupt (R355); a
NUDGE from the owning function wakes a sleeping queue: its flags are cleared and written (R335, R337). A changed status page
is written whole, 4096 bytes, with GEN the next even value (R353, R354). -/
def Obligations.SlotsPagesAndNudges : Prop :=
  (∀ (s : State) (n : Nat) (hs : List Cell) (q : Queue), (seeHost hs s).queue? n = some q →
     queueServed (seeHost hs s) q = true → readsSlot (seeHost hs s) q = true →
     let h := seeHost hs s
     let t := countFrom q.head (leNat (memReadN h.host (slotAddr h q) 4))
     let c := countFrom q.cqHead (leNat (memReadN h.host (slotAddr h q + 4) 4))
     (∀ rsp : Rsp, rsp.came = true → c ≤ q.recs → q.stopped = false → q.closing = false → q.cqWait = false →
       cqFull { q with cqHead := c } = false →
       (q.tail < t → t - q.head ≤ 2 ^ q.sizeLog2 → q.sleeping = false →
         let u := updQueue n (fun y => { y with
           cqHead := c, tail := t, seen := y.seen ++ [(t, h.tailReads)], sleeping := false, reread := false })
           { h with tailReads := h.tailReads + 1 }
         exec (.doorbellSlotRead n hs rsp) s = .next (settle s u 0) ∧
         (s.mod.mstate = .fault → exec (.faultDoorbellPoll n hs rsp) s = .next (settle s u 0))) ∧
       (2 ^ q.sizeLog2 < t - q.head →
         exec (.doorbellSlotRead n hs rsp) s = .next (settle s (stopQueue n (updQueue n (fun y => { y with cqHead := c }) h)) 0)) ∧
       (t ≤ q.tail → t - q.head ≤ 2 ^ q.sizeLog2 → q.tail = q.head → q.sleeping = false → s.mod.mstate ≠ .fault →
         exec (.doorbellSlotRead n hs rsp) s = .next (settle s
           (writeSlot n (updQueue n (fun y => { y with cqHead := c, sleeping := true, reread := true }) h)) 0))) ∧
     (∀ rsp : Rsp, rsp.came = false → exec (.doorbellSlotRead n hs rsp) s =
       .next (settle s (faultCtx q.ctx (timedOutAt (queueFn h q) 0 rsp h)) 0))) ∧
  (∀ (s : State) (n : Nat) (q : Queue), s.queue? n = some q →
     (q.num = n → queueServed s q = true → q.head ≠ q.headOut →
       exec (.headWriteback n) s = .next (settle s
         (updQueue n (fun y => { y with headOut := y.head })
           (busWrite (queueFn s q) (slotAddr s q + 8) (leBytes 4 (queueFlags q) ++ leBytes 4 (q.head % 2 ^ 32)) s)) 0)) ∧
     (q.coalTime ≠ 0 → q.pendInt ≠ 0 →
       exec (.coalTimeExpiry n) s = .next (settle s
         (sendMsix (queueFn s q) q.vector (updQueue n (fun y => { y with pendInt := 0 }) s)) 0)) ∧
     (∀ v : Word, v.toNat = n → n < 4096 → barUp s (queueFn s q) = true → s.mod.mstate ≠ .fault →
       q.stopped = false → q.sleeping = true →
       exec (.nudge (queueFn s q) 4 v) s = .next (settle s
         (writeSlot n (updQueue n (fun y => { y with sleeping := false, reread := false, cqWait := false, cqReread := false }) s)) 0))) ∧
  (∀ s : State,
     (∀ (fn : Fin 64) (a : Nat), fspAddr s.funcs[fn] = some a → s.funcs[fn].dirty = true → hostOk s fn a 4096 = true →
       exec (.statusPageWrite (.function fn)) s = .next
         (updFunc fn (fun f => { f with dirty := false, fspGen := f.fspGen + 2 })
           (busWrite fn a (leBytes 8 (s.funcs[fn].fspGen + 2).toNat ++ funcPageBody s fn) s)) ∧
       (leBytes 8 (s.funcs[fn].fspGen + 2).toNat ++ funcPageBody s fn).length = 4096) ∧
     (∀ (n : Nat) (c : Ctx), s.ctx? n = some c → c.dirty = true → c.cspOn = true → hostOk s c.owner c.csp 4096 = true →
       exec (.statusPageWrite (.context n)) s = .next
         (updCtx n (fun c => { c with dirty := false, gen := c.gen + 2 })
           (busWrite c.owner c.csp (leBytes 8 (c.gen + 2).toNat ++ ctxPageBody s c) s)) ∧
       (leBytes 8 (c.gen + 2).toNat ++ ctxPageBody s c).length = 4096))

/-- A descriptor that may be admitted is copied from its ring slot as the next entry and HEAD counts it (R331, R333). A failed
check of R341 gives the entry its status at once, in the order of R341; a CANCEL that named it gives CANCELLED (R356); in
FAULT all but NOP and QUERY_STATUS end with MODULE_FAULT (R470). -/
def Obligations.DescriptorIsAdmitted : Prop :=
  ∀ (s : State) (n : Nat) (hs : List Cell) (q : Queue) (c : Ctx), (seeHost hs s).queue? n = some q →
    s.ctx? q.ctx = some c → mayAdmit (seeHost hs s) q = true → inLine (seeHost hs s) q = true →
    let h := seeHost hs s
    let d := descOf (memReadN h.host (q.ring + 64 * (q.head % 2 ^ q.sizeLog2)) 64)
    let e : Entry := { seq := q.head, desc := d, order := q.readOf q.head }
    let put := fun e : Entry => updQueue n (fun y => { y with
      head := y.head + 1, ringLost := false, entries := y.entries ++ [e], seen := y.seen.filter fun r => q.head + 1 < r.1 }) h
    let ends := fun st : Status => put { e with st := .finished, status := st }
    q.head + 1 - q.headOut < 16 → (∀ r ∈ q.doomed, q.head < r.1 ∨ r.2 < q.head) →
    (admitCheck d q c = none → (s.mod.mstate = .fault → e.op = 0x00 ∨ e.op = 0x0D) →
      exec (.descriptorAdmit n hs .ok) s = .next (settle s (put e) 0)) ∧
    (admitCheck d q c = none → s.mod.mstate = .fault → e.op ≠ 0x00 → e.op ≠ 0x0D →
      exec (.descriptorAdmit n hs .ok) s = .next (settle s (ends .moduleFault) 0)) ∧
    (operandSpans e.op = none → exec (.descriptorAdmit n hs .ok) s = .next (settle s (ends .descInvalid) 0)) ∧
    (∀ spans, operandSpans e.op = some spans →
      (reservedOk d spans = false ∨ rangesOk e.op d = false →
        exec (.descriptorAdmit n hs .ok) s = .next (settle s (ends .descInvalid) 0)) ∧
      (reservedOk d spans = true → rangesOk e.op d = true →
        (opAllowed e.op (q.num == 0) (c.owner == 0) = false →
          exec (.descriptorAdmit n hs .ok) s = .next (settle s (ends .notPermitted) 0)) ∧
        (opAllowed e.op (q.num == 0) (c.owner == 0) = true →
          (c.st = .revoked → exec (.descriptorAdmit n hs .ok) s = .next (settle s (ends .cancelled) 0)) ∧
          (c.st = .faulted → exec (.descriptorAdmit n hs .ok) s = .next (settle s (ends .contextFaulted) 0)))))

/-- The record of the next command in SEQ order, once finished and with room in the ring, is written at its slot: SEQ, INFO,
USER_TAG, DESC_INDEX, QUEUE, OPCODE, STATUS, FLAGS, INFO2 and PHASE (R331, R332, R348, R349, R351). The command leaves
Shuttle memory, the record is counted, and every other byte of host memory, HBM3E and LPDDR4X stays as it was. No record is
written out of SEQ order, for an unfinished command, or into a full ring (R334, R351). -/
def Obligations.CompletionRecordsAreWrittenInOrder : Prop :=
  (∀ (s : State) (n elapsed : Nat) (q : Queue) (e : Entry), s.queue? n = some q → q.entry? q.recs = some e → e.st = .finished →
     queueServed s q = true → q.recs - q.cqHead < 2 ^ q.sizeLog2 → Memory.wf s.host = true →
     ∃ t, exec (.completionRecordWrite n elapsed) s = .next t ∧
       memReadN t.host (q.cq + 32 * (e.seq % 2 ^ q.sizeLog2)) 32 =
         leBytes 8 e.seq ++ leBytes 8 e.info ++ leBytes 4 (desc32 e.desc 4) ++ leBytes 2 (e.seq % 2 ^ q.sizeLog2)
           ++ leBytes 2 q.num ++ leBytes 1 e.op ++ leBytes 1 e.status.code ++ leBytes 1 (flagByte e.flags (late e.desc elapsed))
           ++ leBytes 4 (min e.info2 0xFFFFFFFF) ++ leBytes 1 (bitAt 0 (e.seq / 2 ^ q.sizeLog2 % 2 == 0)) ∧
       (∀ a, a < q.cq + 32 * (e.seq % 2 ^ q.sizeLog2) ∨ q.cq + 32 * (e.seq % 2 ^ q.sizeLog2) + 32 ≤ a →
         memRead t.host a = memRead s.host a) ∧
       t.hbm = s.hbm ∧ t.lp = s.lp ∧
       t.queue? n = some { q with
         recs := q.recs + 1, pendInt := if intDue q e then 0 else q.pendInt + 1
         entries := q.entries.filter fun y => y.seq != e.seq }) ∧
  (∀ (s : State) (n elapsed : Nat) (q : Queue), s.queue? n = some q →
     (∀ e, q.entry? q.recs = some e → e.st ≠ .finished) ∨ 2 ^ q.sizeLog2 ≤ q.recs - q.cqHead →
     exec (.completionRecordWrite n elapsed) s = .next (settle s s 0))

/-- CREATE_CONTEXT makes a context of the lowest free number with the descriptor's owner, WEIGHT, PASID and pages (R347), and
INFO names it; a disabled owner gives NOT_PERMITTED. CREATE_QUEUE makes a queue likewise and writes FLAGS and HEAD of 0 into
its slot; a context that does not exist, or a slot in use, gives NOT_PERMITTED (R347, R520). DESTROY_QUEUE names every item
of the queue as CANCEL with ALL does and completes once every record is written: the queue goes, stopped in its slot (R356,
R357). DESTROY_CONTEXT does so for the context's queues and then wipes the context (R357). Queue 0 and context 0 give
NOT_PERMITTED. -/
def Obligations.ContextsAndQueuesComeAndGo : Prop :=
  (∀ (s : State) (seq : Nat) (x : Queue) (c : Ctx) (e : Entry),
     (Turn s 0x40 0 seq x c e → ∀ owner : Fin 64, owner.val = desc16 e.desc 16 →
       (s.funcs[owner].enabled = true → ∀ n, freeNumber 0 1024 (s.ctxs.map (·.num)) = some n →
         exec (.createContext seq) s = .next (settle s (finish 0 seq .ok n { s with ctxs := s.ctxs ++
           [{ num := n, owner := owner, weight := descByte e.desc 19, dbPage := desc64 e.desc 24, csp := desc64 e.desc 32
              pasid := if descByte e.desc 18 % 2 = 1 then some (desc32 e.desc 20) else none }] }) 0)) ∧
       (s.funcs[owner].enabled = false → exec (.createContext seq) s = .next (settle s (finish 0 seq .notPermitted 0 s) 0))) ∧
     (Turn s 0x42 0 seq x c e →
       (s.ctx? (desc16 e.desc 16) = none → exec (.createQueue seq) s = .next (settle s (finish 0 seq .notPermitted 0 s) 0)) ∧
       (∀ k n, s.ctx? (desc16 e.desc 16) = some k → (k.owner ≠ 0 → desc16 e.desc 20 ≤ 63) →
         freeNumber 1 4096 (s.queues.map (·.num)) = some n →
         ((s.queues.any fun q => q.ctx == k.num && q.slot == descByte e.desc 18) = true →
           exec (.createQueue seq) s = .next (settle s (finish 0 seq .notPermitted 0 s) 0)) ∧
         ((s.queues.any fun q => q.ctx == k.num && q.slot == descByte e.desc 18) = false →
           hostOk s k.owner (k.dbPage + 64 * descByte e.desc 18) 64 = true →
           exec (.createQueue seq) s = .next (settle s (finish 0 seq .ok n
             (updQueue n (fun y => { y with headOut := y.head }) (busWrite k.owner (k.dbPage + 64 * descByte e.desc 18 + 8)
               (leBytes 4 0 ++ leBytes 4 0)
               { s with queues := s.queues ++
                 [{ num := n, ctx := desc16 e.desc 16, slot := descByte e.desc 18, sizeLog2 := descByte e.desc 19
                    vector := desc16 e.desc 20, priority := descByte e.desc 22, coalCount := descByte e.desc 23
                    coalTime := desc16 e.desc 40, ring := desc64 e.desc 24, cq := desc64 e.desc 32 }] }))) 0))))) ∧
  (∀ (s : State) (seq : Nat) (x : Queue) (c : Ctx) (e : Entry),
     (Turn s 0x43 0 seq x c e →
       (desc16 e.desc 16 = 0 → exec (.destroyQueue seq) s = .next (settle s (finish 0 seq .notPermitted 0 s) 0)) ∧
       (∀ q, desc16 e.desc 16 = q.num → q.num ≠ 0 → s.queue? q.num = some q → e.st = .begun → queueDrained q = true →
         exec (.destroyQueue seq) s = .next (settle s (finish 0 seq .ok 0 (closeQueue q.num s)) 0)) ∧
       (∀ q, desc16 e.desc 16 = q.num → q.num ≠ 0 → s.queue? q.num = some q → e.st = .begun → queueDrained q = false →
         exec (.destroyQueue seq) s = .next (settle s (shutDone q.num s) 0)) ∧
       (∀ q, desc16 e.desc 16 = q.num → q.num ≠ 0 → s.queue? q.num = some q → e.st ≠ .begun → q.head < q.tail →
         q.stopped = false → q.ringLost = false →
         exec (.destroyQueue seq) s = .next (settle s (begin_ 0 seq (doomQueue q.num s)) 0))) ∧
     (Turn s 0x41 0 seq x c e →
       (desc16 e.desc 16 = 0 → exec (.destroyContext seq) s = .next (settle s (finish 0 seq .notPermitted 0 s) 0)) ∧
       (∀ k, desc16 e.desc 16 = k.num → k.num ≠ 0 → s.ctx? k.num = some k → e.st = .begun →
         (∀ q ∈ s.queues, q.ctx = k.num → queueDrained q = true) → (∀ r ∈ s.reqs, r.ctx ≠ k.num) →
         let own := (s.queues.filter (·.ctx == k.num)).map (·.num)
         exec (.destroyContext seq) s = .next (settle s (finish 0 seq .ok 0
           (wipeCtx k.num (own.foldl (fun s q => closeQueue q s) (own.foldl (fun s q => shutDone q s) s)))) 0))))

/-- MAP adds the descriptor's pages to the context, all or none, with the tables that they need out of the pool (R261, R263);
UNMAP takes them away once no request is under them, all or none, with the translations cached for them and the tables left
empty, and scrubs and frees their LPDDR4X frames (R261, R264, R269). A page that may not
be mapped, or is not mapped, ends the command with ACCESS_FAULT and INFO its DVA. SET_PRIORITY sets a queue's PRIORITY or a
context's WEIGHT (R347, R520). CANCEL names the items without a record that the last TAIL read covers (R356): it cancels
those in Shuttle memory, marks those still in the ring, and completes with INFO the number of them that completed with
CANCELLED; it waits until each has its record. Queue 0 gives NOT_PERMITTED. -/
def Obligations.PagesPrioritiesAndCancellation : Prop :=
  (∀ (s : State) (seq : Nat) (x : Queue) (c k : Ctx) (e : Entry), s.ctx? (desc16 e.desc 16) = some k → k.num = desc16 e.desc 16 →
     (Turn s 0x44 0 seq x c e →
       ((descPages e.desc).all (fun p => !mapFault s k p) = true → descByte e.desc 18 / 2 % 4 < 2 →
         poolUsed s + ((needTables k (descPages e.desc)).map fun t => tableSize t.1).foldl (· + ·) 0 ≤ 2 ^ 32 →
         exec (.map seq) s = .next (settle s (finish 0 seq .ok 0 (addTables k.num (descPages e.desc)
           (updCtx k.num (fun y => { y with pages := y.pages ++ descPages e.desc }) s))) 0)) ∧
       (∀ p, (descPages e.desc).find? (mapFault s k) = some p →
         exec (.map seq) s = .next (settle s (finish 0 seq .accessFault p.dva s) 0))) ∧
     (Turn s 0x45 0 seq x c e →
       ((descPages e.desc).all (isMapped k) = true → reqUnder s k.num (descPages e.desc) = false →
         let gone := k.pages.filter fun z => (descPages e.desc).any fun p => p.dva == z.dva
         exec (.unmap seq) s = .next (settle s (finish 0 seq .ok 0
           (updCtx k.num (fun y =>
             let left := y.pages.filter fun z => !(descPages e.desc).any fun p => p.dva == z.dva
             { y with pages := left, tables := keepTables left y.tables })
           (updFunc k.owner (fun f => { f with
             atc := f.atc.filter fun t =>
               !gone.any fun p => p.target == 0 && p.addr ≤ t.1 * 4096 && t.1 * 4096 < p.addr + p.size }) (freeFrames gone s)))) 0)) ∧
       (∀ p, (descPages e.desc).find? (fun p => !isMapped k p) = some p →
         exec (.unmap seq) s = .next (settle s (finish 0 seq .accessFault p.dva s) 0)))) ∧
  (∀ (s : State) (seq : Nat) (x : Queue) (c : Ctx) (e : Entry),
     (Turn s 0x47 0 seq x c e →
       (∀ q, descByte e.desc 16 = 0 → s.queue? (desc16 e.desc 18) = some q → desc16 e.desc 18 ≠ 0 →
         exec (.setPriority seq) s = .next (settle s (finish 0 seq .ok 0
           (updQueue (desc16 e.desc 18) (fun q => { q with priority := descByte e.desc 20 }) s)) 0)) ∧
       (∀ k, descByte e.desc 16 = 1 → s.ctx? (desc16 e.desc 18) = some k →
         exec (.setPriority seq) s = .next (settle s (finish 0 seq .ok 0
           (updCtx (desc16 e.desc 18) (fun c => { c with weight := descByte e.desc 20 }) s)) 0))) ∧
     (Turn s 0x48 0 seq x c e →
       (desc16 e.desc 16 = 0 → e.st ≠ .begun → exec (.cancel seq) s = .next (settle s (finish 0 seq .notPermitted 0 s) 0)) ∧
       (∀ q, e.st ≠ .begun → desc16 e.desc 16 ≠ 0 → s.queue? (desc16 e.desc 16) = some q → cancelNames e.desc q = [] →
         exec (.cancel seq) s = .next (settle s (finish 0 seq .ok 0 (begin_ 0 seq { s with cancelling := none })) 0)) ∧
       (∀ w, e.st = .begun → s.cancelling = some w → w.seq = seq → w.named = [] →
         exec (.cancel seq) s = .next (settle s (finish 0 seq .ok w.count { s with cancelling := none }) 0))))

/-- SET_PARTITION on swatches and bolts (R360, R362): Assign gives device-owned units to the context; Release takes its unused
units, starts their scrub and has its cores loaded all-OFF; Reassign revokes the owners and starts the scrub that gives the
units to the context. The end of the oldest scrub records its unit's owner, and the command completes with its last unit. A unit
of another context, or a unit in use, gives NOT_PERMITTED. SET_PARTITION on spools (R276, R360, R361): Create makes a spool of
length 0 and generation 0 at the lowest free ID, with its next incarnation; Resize changes its reserved size; Delete waits for
the spool's reads and writes in progress, then makes it unreachable and leaves its units to the scrub; Attach gives a parked
spool whose function and label match to the context. Sizes come out of the vault's free space. -/
def Obligations.PartitionsAndSpools : Prop :=
  (∀ (s : State) (seq : Nat) (x : Queue) (c k : Ctx) (e : Entry), s.ctx? (partCtx e.desc) = some k →
     let us := partUnits e.desc
     let kind := partKind e.desc
     let l := ownList s kind
     (Turn s 0x46 0 seq x c e → e.st ≠ .begun → (kind = 2 → us.all (fun u => !systemBolt u) = true) → underScrub s e.desc = false →
       (partAction e.desc = 0 →
         ((∀ u ∈ us, unitOwner l u = none ∨ unitOwner l u = some k.num) →
           exec (.setPartitionAssign seq) s = .next (settle s
             (finish 0 seq .ok 0 (us.foldl (fun s u => setOwner kind u (some k.num) s) s)) 0)) ∧
         (∀ u n, u ∈ us → unitOwner l u = some n → n ≠ k.num →
           exec (.setPartitionAssign seq) s = .next (settle s (finish 0 seq .notPermitted 0 s) 0))) ∧
       (partAction e.desc = 1 →
         ((∀ u ∈ us, unitOwner l u = some k.num ∧ unitInUse s kind u k.num = false) →
           exec (.setPartitionRelease seq) s = .next (settle s (begin_ 0 seq (allOffCtx k.num
             (startScrub seq kind us (fun _ => some k.num) none (us.foldl (fun s u => setOwner kind u none s) s)))) 0)) ∧
         (∀ u, u ∈ us → unitInUse s kind u k.num = true →
           exec (.setPartitionRelease seq) s = .next (settle s (finish 0 seq .notPermitted 0 s) 0))) ∧
       (partAction e.desc = 2 → kind ≠ 3 → ∀ owner, us ≠ [] → (∀ u ∈ us, unitOwner l u = some owner) → owner ≠ k.num →
         exec (.setPartitionReassign seq) s = .next (settle s (begin_ 0 seq (startScrub seq kind us (unitOwner l) (some k.num)
           (us.foldl (fun s u => setOwner kind u none s) (revokeCtx owner s)))) 0))) ∧
     (∀ (y : Scrub) (rest : List Scrub) (n : Nat), s.scrubs = y :: rest → scrubWaits s y = false → s.sec.window ≠ some 21 →
       y.kind = 2 → y.seq = some n → (∀ z ∈ rest, z.seq ≠ some n) →
       exec .partitionScrubDone s = .next (settle s (finish 0 n .ok 0 (note (.scrubEnd 2 y.unit) (setOwner 2 y.unit y.to_
         { s with
           scrubs := rest, hbm := zeroRange s.hbm (y.unit * bolt0) bolt0
           bad := s.bad.filter fun b => match b with | .mem t a => !(t == 1 && a / bolt0 == y.unit) | _ => true }))) 0))) ∧
  (∀ (s : State) (seq : Nat) (x : Queue) (c k : Ctx) (e : Entry), s.ctx? (partCtx e.desc) = some k → vaultRefuses s = false →
     Turn s 0x46 0 seq x c e →
     (partAction e.desc = 3 → ∀ id, freeNumber 1 4096 (s.vault.spools.map (·.id)) = some id → desc32 e.desc 28 ≤ s.vault.free →
       exec (.setPartitionCreate seq) s = .next (settle s (finish 0 seq .ok id
         { s with vault := { s.vault with
             spools := s.vault.spools ++ [{ id := id, ctx := some k.num, fn := k.owner.val, label := desc64 e.desc 32
                                            size := desc32 e.desc 28, length := 0, gen := 0, inc := nextInc s id, data := [] }]
             free := s.vault.free - desc32 e.desc 28
             incs := (id, nextInc s id) :: s.vault.incs.filter (·.1 != id) } }) 0)) ∧
     (∀ y, s.spool? (desc32 e.desc 20) = some y →
       (partAction e.desc = 4 → y.ctx = some k.num → y.length ≤ desc32 e.desc 28 * 2 ^ 26 →
         (desc32 e.desc 28 ≤ y.size + s.vault.free →
           ((∀ w ∈ s.vault.writes, w.spool = y.id → w.off + w.len ≤ desc32 e.desc 28 * 2 ^ 26) →
             exec (.setPartitionResize seq) s = .next (settle s (finish 0 seq .ok 0 (updSpool y.id
               (fun z => { z with size := desc32 e.desc 28 })
               { s with vault := { s.vault with free := s.vault.free + y.size - desc32 e.desc 28 } })) 0)) ∧
           (∀ w ∈ s.vault.writes, w.spool = y.id → desc32 e.desc 28 * 2 ^ 26 < w.off + w.len →
             exec (.setPartitionResize seq) s = .next (settle s (begin_ 0 seq s) 0))) ∧
         (y.size + s.vault.free < desc32 e.desc 28 →
           exec (.setPartitionResize seq) s = .next (settle s (finish 0 seq .resourceShort 0 s) 0))) ∧
       (partAction e.desc = 5 → y.ctx = some k.num →
         (spoolBusy s y.id = false →
           exec (.setPartitionDelete seq) s = .next (settle s (finish 0 seq .ok 0 (fetchFollow (allOffCtx k.num
             (scrubSpool y true { s with vault := { s.vault with spools := s.vault.spools.filter (·.id != y.id) } })))) 0)) ∧
         (spoolBusy s y.id = true →
           exec (.setPartitionDelete seq) s = .next (settle s
             (fetchFollow (begin_ 0 seq (updSpool y.id (fun z => { z with closing := true }) s))) 0))) ∧
       (partAction e.desc = 6 → y.ctx = none → y.fn = k.owner.val → y.label = desc64 e.desc 32 →
         exec (.setPartitionAttach seq) s = .next (settle s (finish 0 seq .ok 0
           (updSpool y.id (fun z => { z with ctx := some k.num }) s)) 0))))

/-- After a module reset every register of PF BAR0 reads the value of R473's Reset column, on a module of stepping A2 whose
fuses are blank (the model's reset state, assumption 15); no command waits, and the invariants of the other statements hold. -/
def Obligations.ResetRegisterValues : Prop :=
  pfRead State.reset 0x0 = 0x72400102 ∧ pfRead State.reset 0x4 = 0 ∧ pfRead State.reset 0x8 = 0x10000400 ∧
  pfRead State.reset 0xC = 0 ∧ pfRead State.reset 0x40 = 0xF1 ∧ pfRead State.reset 0x44 = 0xF01 ∧
  pfRead State.reset 0x48 = 0 ∧ pfRead State.reset 0x50 = 0 ∧ pfRead State.reset 0x54 = 0 ∧ pfRead State.reset 0x58 = 0 ∧
  pfRead State.reset 0x5C = 0 ∧ pfRead State.reset 0x1000 = 0x600 ∧
  (∀ off ∈ [0x1008, 0x100C, 0x1010, 0x1014, 0x1018, 0x101C, 0x1020, 0x1024], pfRead State.reset off = 0) ∧
  pfRead State.reset 0x10000 = 0x10001 ∧ pfRead State.reset 0x11000 = 0x80000001 ∧
  (∀ c, 0 < c → c < 1024 → pfRead State.reset (0x11000 + 4 * c) = 0) ∧
  pfRead State.reset 0x12000 = 0x9C000600 ∧ (∀ q, 0 < q → q < 4096 → pfRead State.reset (0x12000 + 4 * q) = 0) ∧
  (∀ off ∈ [0x20000, 0x20004, 0x20008, 0x2000C], pfRead State.reset off = 0) ∧
  pfRead State.reset 0x30000 = 0xA00 ∧ pfRead State.reset 0x30004 = 0x0FFFF700 ∧ pfRead State.reset 0x30008 = 0x10E ∧
  pfRead State.reset 0x3000C = 0x10E ∧ pfRead State.reset 0x30010 = 0x8000FFFF ∧ pfRead State.reset 0x30014 = 0 ∧
  pfRead State.reset 0x40000 = 3 ∧ pfRead State.reset 0x40004 = 0 ∧ pfRead State.reset 0x50000 = 0 ∧
  pfRead State.reset 0x50004 = 1 ∧
  (∀ off ∈ [0x50008, 0x5000C, 0x50010, 0x50014, 0x50018, 0xF0000, 0xF0004, 0xF0008, 0xF000C], pfRead State.reset off = 0) ∧
  (∀ n, n < 8 → pfRead State.reset (0xF0010 + 4 * n) = 0) ∧
  State.reset.pending = [] ∧ State.reset.memoryWf = true ∧ State.reset.pagesOk = true ∧ State.reset.portsOk = true ∧
  State.reset.vfIntOk = true ∧ 810 ≤ State.reset.hk.limit ∧ State.reset.hk.limit ≤ 2700

/-- INT_CAUSE: 1s clear, but a bit whose event comes in the same cycle reads 1 and makes no transition (R8, R481, R482).
INT_TEST: 1s set bits, with one message for those that rise while enabled. INT_ENABLE: one message when a bit goes from 0 to
1 with its cause set. Stated for the PF. An MSI-X message is sent when its vector is unmasked and the function may reach the
host; otherwise its pending bit is set (R310). Unmasking the vector sends what is pending, once, and clears the pending bit. -/
def Obligations.PfInterruptsAndMsix : Prop :=
  (∀ (s : State) (v : Word), intOpen s 0 = true →
     let f := s.funcs[(0 : Fin 64)]
     let bits := v.setWidth 11
     (∀ meets : BitVec 11, meets &&& ~~~f.intCause = 0 →
       exec (.intCauseWrite 0 v meets) s = .next (settle s
         (updFunc 0 (fun f => { f with intCause := (f.intCause &&& ~~~bits) ||| (meets &&& f.intCause) }) s) 0)) ∧
     (bits &&& ~~~f.intCause &&& f.intEnable ≠ 0 →
       exec (.intTestWrite 0 v) s = .next (settle s
         (sendMsix 0 f.intVector.toNat (updFunc 0 (fun f => { f with intCause := f.intCause ||| bits }) s)) 0)) ∧
     (bits &&& ~~~f.intCause &&& f.intEnable = 0 →
       exec (.intTestWrite 0 v) s = .next (settle s (updFunc 0 (fun f => { f with intCause := f.intCause ||| bits }) s) 0)) ∧
     (bits &&& ~~~f.intEnable &&& f.intCause ≠ 0 →
       exec (.intEnableWrite 0 v) s = .next (settle s
         (sendMsix 0 f.intVector.toNat (updFunc 0 (fun f => { f with intEnable := bits }) s)) 0)) ∧
     (bits &&& ~~~f.intEnable &&& f.intCause = 0 →
       exec (.intEnableWrite 0 v) s = .next (settle s (updFunc 0 (fun f => { f with intEnable := bits }) s) 0))) ∧
  (∀ (s : State) (fn : Fin 64) (v : Nat),
     (s.funcs[fn].maskedVec v = false → hostOk s fn (s.funcs[fn].vector v).addr.toNat 4 = true → sendMsix fn v s = { s with msgs := (fn.val, v) :: s.msgs }) ∧
     (s.funcs[fn].maskedVec v = true → (sendMsix fn v s).msgs = s.msgs ∧ v ∈ (sendMsix fn v s).funcs[fn].pba) ∧
     (barUp s fn = true → v < vectorCount fn → s.funcs[fn].fnMask = false →
       hostOk s fn (s.funcs[fn].vector v).addr.toNat 4 = true → s.funcs[fn].pba = [v] →
       exec (.msixVectorUnmask fn v) s = .next (settle s
         { updFunc fn (fun f => { f with
             msix := (v, { f.vector v with mask := false }) :: f.msix.filter (·.1 != v), pba := [] }) s with
           msgs := (fn.val, v) :: s.msgs } 0)))

/-- A VF has the INT bits [10:9], [5] and [0] only: no command sets another in it (R484). -/
def Obligations.VfInterruptBitsStayInTheMask : Prop :=
  ∀ s t : State, s.vfIntOk = true → step s = .next t → t.vfIntOk = true

/-- EN = 1 while RUNNING is 0 starts the admin queue afresh with the registers as they read: SEQ from 0, FLAGS and HEAD of 0
written into the slot, RUNNING set; EN = 1 while it drains resumes admission; EN = 0 stops admission, and RUNNING falls once the
admitted commands have completed (R338). Reads of CLK_STATUS, GLB_LINK and PWR_EVENTS, of any width that reaches their lowest
byte's register, return the bytes addressed and clear LOCK_LOSS, RETRAINS and the counts (R34, R320, R397); in D3hot they are
answered Unsupported Request and clear nothing (R301). -/
def Obligations.AdminQueueAndClearingReads : Prop :=
  (∀ (s : State) (v : Word), pfOpen s 0x1000 = true →
     let size := v.toNat / 2 ^ 8 % 32
     let a := s.admin
     (s.admin.running = false → 6 ≤ size → size ≤ 16 → s.ctx? 0 = some Ctx.zero →
       hostOk s 0 (pair a.dbLo a.dbHi) 64 = true →
       exec (.aqEnable v) s = .next (settle s
         (updQueue 0 (fun y => { y with headOut := 0 })
           (busWrite 0 (pair a.dbLo a.dbHi + 8) (leBytes 4 0 ++ leBytes 4 0)
             (updCtx 0 (fun c => { c with dbPage := pair a.dbLo a.dbHi, csp := pair a.cspLo a.cspHi, cspOn := true, dirty := true })
               { s with
                 admin := { a with en := true, running := true, sizeLog2 := size, vector := BitVec.ofNat 11 (v.toNat / 2 ^ 16) }
                 queues := { num := 0, ctx := 0, slot := 0, sizeLog2 := size, vector := v.toNat / 2 ^ 16 % 2048, priority := 7
                             ring := pair a.ringLo a.ringHi, cq := pair a.cqLo a.cqHi } :: s.queues.filter (·.num != 0) }))) 0)) ∧
     (s.admin.running = true →
       exec (.aqEnable v) s = .next (settle s
         { s with admin := { a with en := true, vector := BitVec.ofNat 11 (v.toNat / 2 ^ 16) } } 0)) ∧
     (∀ q, s.admin.running = true → s.queue? 0 = some q →
       exec (.aqDisable v) s = .next (settle s
         { s with admin := { a with
             en := false, vector := BitVec.ofNat 11 (v.toNat / 2 ^ 16), running := !q.entries.isEmpty } } 0))) ∧
  (∀ (s : State) (width off : Nat), s.link.cfgUp = true → linkUsable s = true → width ≠ 0 →
     (s.funcs[(0 : Fin 64)].d3 = false → s.mod.mstate ≠ .fault → s.sec.recovery = false →
       (off / 4 * 4 = 0x40004 → exec (.clkStatusRead width off) s = .next (settle s
         { s with mod := { s.mod with lockLoss := 0 }, reply := .word (BitVec.ofNat 32 (readBytes (clkStatus s) off width)) } 0)) ∧
       (off / 4 * 4 = 0x30014 → exec (.pwrEventsRead width off) s = .next (settle s
         { s with
           power := { s.power with wakes := 0, retries := 0 }, hk := { s.hk with throttles := 0 }
           reply := .word (BitVec.ofNat 32 (readBytes (pwrEvents s) off width)) } 0))) ∧
     (s.funcs[(0 : Fin 64)].d3 = false → off / 4 * 4 = 0x48 →
       exec (.glbLinkRead width off) s = .next (settle s
         { s with link := { s.link with retrains := 0 }, reply := .word (BitVec.ofNat 32 (readBytes (glbLink s) off width)) } 0)) ∧
     (s.funcs[(0 : Fin 64)].d3 = true →
       (off / 4 * 4 = 0x40004 → exec (.clkStatusRead width off) s = .next (settle s { s with reply := .unsupportedRequest } 0)) ∧
       (off / 4 * 4 = 0x30014 → exec (.pwrEventsRead width off) s = .next (settle s { s with reply := .unsupportedRequest } 0)) ∧
       (off / 4 * 4 = 0x48 → exec (.glbLinkRead width off) s = .next (settle s { s with reply := .unsupportedRequest } 0))))

/-- Writes of plain registers set their fields and nothing else: the address registers, GLB_FSP, INT_VECTOR, SEC and DBG
addresses; those of a running admin queue are discarded (R338, R431, R432, R481, R484). A poisoned write is discarded and logged
(R315). CLK_SSC takes depths up to 5, and the PLLs, while powered, apply it at the next modulation period (R31, R33, R34). A
GLB_PLACEMENT write sets PROFILE and RESERVE, which reserved encodings leave as they are, and lets replicas follow and pieces
move (R233, R234, R236, R238). Under SIX_NINES in READY it starts emptying the fit tile that RESERVE names, unless that tile is
the reserve already (R235, R236); a profile that gives the reserve up lets pieces follow onto it (R233). -/
def Obligations.RegisterWritesSetTheirFields : Prop :=
  (∀ (s : State) (v : BitVec 64), barUp s 0 = true → s.mod.mstate ≠ .fault →
     let w : Word := v.setWidth 32
     exec (.registerWrite 0 0 0x20008 4 v false) s =
       .next (settle s (updFunc 0 (fun f => { f with intVector := w.setWidth 11 }) s) 0) ∧
     exec (.registerWrite 0 0 0x50 4 v false) s =
       .next (settle s (updFunc 0 (fun f => { f with fspLo := w &&& 0xFFFFF001, dirty := true }) s) 0) ∧
     exec (.registerWrite 0 0 0x54 4 v false) s =
       .next (settle s (updFunc 0 (fun f => { f with fspHi := w &&& 0xFFFFF, dirty := true }) s) 0) ∧
     (s.admin.running = false →
       exec (.registerWrite 0 0 0x1008 4 v false) s = .next (settle s { s with admin := { s.admin with ringLo := w &&& 0xFFFFF000 } } 0) ∧
       exec (.registerWrite 0 0 0x1014 4 v false) s = .next (settle s { s with admin := { s.admin with cqHi := w &&& 0xFFFFF } } 0) ∧
       exec (.registerWrite 0 0 0x1018 4 v false) s = .next (settle s { s with admin := { s.admin with dbLo := w &&& 0xFFFFF000 } } 0) ∧
       exec (.registerWrite 0 0 0x1024 4 v false) s = .next (settle s { s with admin := { s.admin with cspHi := w &&& 0xFFFFF } } 0)) ∧
     (s.admin.running = true → ∀ off ∈ [0x1008, 0x100C, 0x1010, 0x1014, 0x1018, 0x101C, 0x1020, 0x1024],
       exec (.registerWrite 0 0 off 4 v false) s = .next (settle s s 0)) ∧
     exec (.registerWrite 0 0 0x50004 4 v false) s = .next (settle s { s with sec := { s.sec with hybridReq := w.getLsbD 0 } } 0) ∧
     exec (.registerWrite 0 0 0xF0004 4 v false) s = .next (settle s { s with sec := { s.sec with tokLo := w &&& 0xFFFFF000 } } 0) ∧
     (∀ off, exec (.registerWrite 0 0 off 4 v true) s =
       .next (settle s { s with link := { s.link with aer := (0, 1) :: s.link.aer } } 0)) ∧
     (w.toNat % 8 ≤ 5 → exec (.clkSscWrite w) s = .next (settle s
       { s with mod := { s.mod with sscDepth := BitVec.ofNat 3 w.toNat } } 0)) ∧
     (5 < w.toNat % 8 → exec (.clkSscWrite w) s = .next (settle s s 0))) ∧
  (∀ s : State,
     (s.mod.rails = true → s.mod.perst = false → exec .sscDepthApply s = .next (settle s
       { s with mod := { s.mod with sscActive := s.mod.sscDepth } } 0)) ∧
     (s.mod.rails = false ∨ s.mod.perst = true → exec .sscDepthApply s = .next (settle s s 0))) ∧
  (∀ (s : State) (v : Word), pfOpen s 0x40 = true →
     let p := if v.toNat % 4 = 3 then s.tailor.profile else BitVec.ofNat 2 (v.toNat % 4)
     let r := if 12 ≤ v.toNat / 16 % 16 ∧ v.toNat / 16 % 16 ≤ 14 then s.tailor.reserve else BitVec.ofNat 4 (v.toNat / 16 % 16)
     (p ≠ 1 → exec (.glbPlacementWrite v) s = .next (settle s (retarget
       { s with tailor := { s.tailor with
           profile := p, reserve := r, rebalance := true, moved := [], toEmpty := none, reserveNow := none
           freed := (s.tailor.reserveNow.map tileCores).getD [] } }) 0)) ∧
     (p = 1 → s.mod.mstate ≠ .ready → exec (.glbPlacementWrite v) s = .next (settle s (retarget
       { s with tailor := { s.tailor with
           profile := p, reserve := r, rebalance := true, moved := [], toEmpty := none, freed := [] } }) 0)) ∧
     (∀ t : Fin 12, p = 1 → r.toNat = t.val → s.mod.mstate = .ready → reserveFit s t = true → s.tailor.reserveNow ≠ some t →
       exec (.glbPlacementWrite v) s = .next (settle s (retarget
         { s with tailor := { s.tailor with
             profile := p, reserve := r, rebalance := true, moved := [], toEmpty := some t, freed := [] } }) 0)))

/-- PERST_N held for 60 ns or more is a module reset (R325, R499): every register, context, queue, pattern and work item and the
device memories are at their reset values; fuses, NOR slots, spool data (parked), the committed log and host memory stay.
PERST_N deasserted with both inputs in range and a slot to boot starts the timeline (R321, R409, R505): the slot runs, the
module calibrates, every tile threads at step 1 (R190). WAKE_N held low 100 µs in OFF starts the module as PERST_N's release
does (R388, R499); a shorter pulse does nothing. -/
def Obligations.ResetAndStartOfTheTimeline : Prop :=
  (∀ (s : State) (ns : Nat), 60 ≤ ns →
     ∃ t, exec (.perstNAssert ns) s = .next t ∧ t.mod.perst = true ∧ t.mod.mstate = .powerup ∧ t.mod.faultCause = 0 ∧
       t.admin = {} ∧ t.tailor = {} ∧ t.funcs = State.reset.funcs ∧ t.link = {} ∧ t.power = {} ∧
       t.ctxs = [Ctx.zero] ∧ t.queues = [Queue.zero] ∧ t.pats = [] ∧ t.tracks = [] ∧ t.works = [] ∧ t.reqs = [] ∧
       t.swatches = [] ∧ t.bolts = [] ∧ t.hbm = [] ∧ t.lp = [] ∧
       t.sec.fuses = s.sec.fuses ∧ t.sec.slots = s.sec.cutStage.slots ∧ t.sec.epoch = 0 ∧
       t.sec.challenge = none ∧ t.sec.debug = fusedDebug s.sec.fuses ∧
       t.vault.st = 0 ∧ t.vault.spools = s.vault.spools.map (fun x => { x with ctx := none, closing := false }) ∧
       t.mgmt.ring = s.mgmt.ring ∧ t.mgmt.accounts = s.mgmt.accounts ∧ t.host = s.host) ∧
  (∀ (s : State) (dA dB pin new : Bool) (n : Fin 2), s.mod.perst = true → s.mod.auxOn = true → s.mod.mainOn = true →
     s.mod.thermtrip = false → chooseSlot (moduleReset { s with mod := { s.mod with perst := false } }) none = some (n, new) →
     slotDigest dA dB n = true →
     ∃ t, exec (.perstNDeassert dA dB pin) s = .next t ∧ t.mod.mstate = .calibrating ∧ t.mod.perst = false ∧
       t.mod.rails = true ∧ t.sec.running = n ∧ t.sec.fallback = false ∧ t.mgmt.provision = pin ∧
       ∀ k : Fin 12, t.tiles[k].st = .threading ∧ t.tiles[k].cal.step = 1) ∧
  (∀ (s : State) (us : Nat), s.mod.perst = false → s.power.current = .off →
     (us < 100 → exec (.wakeN us) s = .next s) ∧
     (100 ≤ us → s.mod.auxOn = true → s.mod.mainOn = true → s.mod.thermtrip = false →
       ∀ (n : Fin 2) (new : Bool), chooseSlot (moduleReset s) none = some (n, new) →
       ∃ t, exec (.wakeN us) s = .next t ∧ t.mod.mstate = .calibrating ∧ t.power.current = .run ∧ t.mod.rails = true))

/-- Step 9 lets the Shuttles serve queues, with configuration and DOE answered by then (R321). Link training records rate and
width, and a change of them is counted in RETRAINS and logged (R303, R320); a directed retrain starts training and loses
nothing; a recovery on the link's own changes nothing (R304). Configuration requests to the PF get Retry Status before step 6,
80 ms in, and an answer from then on; an absent VF is answered Unsupported Request (R321, R323). An access that is answered
reads a word or a field, or writes one: the VF Device ID, TotalVFs and the PASID width are fixed, PASID Enable and the MSI-X
function mask are the function's own (R307, R309, R310, R314). D3hot stops a function's host service; at the return to D0 its
slots are read afresh (R301). -/
def Obligations.LinkTrainingConfigurationAndD3hot : Prop :=
  (∀ s : State,
     (s.mod.rails = true → s.mod.perst = false → s.mod.mstate ≠ .powerup → s.sec.recovery = false →
       exec .memoryTrainingDone s = .next (settle s
         { s with mod := { s.mod with trained := true }, link := { s.link with cfgUp := true, doeBusy := false } } 0)) ∧
     (∀ (rate width : Nat) (flit : Bool), s.mod.rails = true → s.mod.perst = false → (s.link.training = true ∨ s.link.up = false) →
       let speed := if flit then rate else min rate 5
       (s.link.speed = 0 ∨ (s.link.speed = speed ∧ s.link.width = width) →
         exec (.linkTrainingDone rate width flit) s = .next (settle s
           { s with link := { s.link with up := true, training := false, speed := speed, width := width, flit := flit } } 0)) ∧
       (s.link.speed ≠ 0 → s.link.speed ≠ speed ∨ s.link.width ≠ width → s.link.retrains < 255 →
         exec (.linkTrainingDone rate width flit) s = .next (settle s
           { s with
             link := { s.link with
               up := true, training := false, speed := speed, width := width, flit := flit, retrains := s.link.retrains + 1 }
             notes := .linkChange :: s.notes } 0))) ∧
     (linkUsable s = true → exec .linkRetrain s = .next (settle s { s with link := { s.link with training := true } } 0)) ∧
     exec .linkRecovery s = .next (settle s s 0)) ∧
  (∀ (s : State) (fn : Fin 64) (x : CfgAccess) (off ms : Nat), linkUsable s = true →
     (s.link.cfgUp = false → ms < 80 →
       exec (.configRequest 0 x ms) s = .next (settle s { s with reply := .retryStatus } 0)) ∧
     (80 ≤ ms → exec (.configRequest 0 x ms) s = .next (settle s (cfgAccess 0 x { s with link := { s.link with cfgUp := true } }) 0)) ∧
     (configWord s 0 0 >>> 16 = 0x7240#32) ∧ ((configWord s fn 0x2C).setWidth 16 = (configWord s 0 0).setWidth 16) ∧
     (fn ≠ 0 → s.funcs[fn].enabled = true →
       exec (.configRequest fn x ms) s = .next (settle s (cfgAccess fn x s) 0)) ∧
     (fn ≠ 0 → s.funcs[fn].enabled = false →
       exec (.configRequest fn x ms) s = .next (settle s { s with reply := .unsupportedRequest } 0)) ∧
     cfgAccess fn (.read off) s = { s with reply := .word (configWord s fn off) } ∧
     cfgAccess fn (.field .vfDevice) s = { s with reply := .word 0x7241 } ∧ cfgField s fn .totalVfs = 63 ∧ cfgField s fn .pasidWidth = 20 ∧
     (∀ e, cfgAccess fn (.write (.pasid e)) s = updFunc fn (fun f => { f with pasidEn := e }) s) ∧
     (∀ m, s.funcs[fn].pba = [] → s.funcs[fn].fnMask = false → m = true →
       (cfgAccess fn (.write (.msix m)) s).funcs[fn].fnMask = true) ∧
     (s.link.cfgUp = true → s.funcs[fn].enabled = true →
       exec (.d3hotEntry fn) s = .next (settle s (updFunc fn (fun f => { f with d3 := true }) s) 0) ∧
       ∀ a n, hostOk (updFunc fn (fun f => { f with d3 := true }) s) fn a n = false) ∧
     (s.funcs[fn].d3 = true → (s.queues.map (·.num)).Nodup → s.funcs[fn].pba = [] → s.works = [] →
       ∃ t, exec (.d0Return fn) s = .next t ∧ t.funcs[fn].d3 = false ∧
         ∀ n, t.queue? n = (s.queue? n).map fun q =>
           if queueFn s q = fn ∧ q.stopped = false then { q with reread := true, cqReread := q.cqReread || q.cqWait } else q))

/-- A VF FLR destroys every context of the VF and clears its own registers (R311); clearing VF Enable does so for all VFs, which
are then gone; setting it makes VFs 1 to NumVFs, 1 to 7 without ARI (R309). A PF FLR destroys every context and queue and
creates context 0 and queue 0 again, takes the VFs away, and sets PF BAR0 to its reset values but for CLK_SSC and
GLB_PLACEMENT (R311, R327, R487); a STAGE from host memory ends with ABORTED, a SUBMIT with an invalid token (R488). A hot
reset does so too, and the link trains (R311). -/
def Obligations.FunctionsResetAndAppear : Prop :=
  (∀ (s : State) (fn : Fin 64),
     (fn ≠ 0 → s.funcs[fn].enabled = true →
       let u := updFunc fn Func.cleared (destroyCtxs (·.owner == fn) s)
       exec (.vfFlr fn) s = .next (settle s { u with link := { u.link with xlats := u.link.xlats.filter (·.fn != fn) } } 0) ∧
       ∀ c ∈ (destroyCtxs (·.owner == fn) s).ctxs, c.owner ≠ fn) ∧
     (s.link.vfEnable = true → ∃ t, exec .vfEnableClear s = .next t ∧ t.link.vfEnable = false ∧ t.link.numVfs = 0 ∧
       (∀ c ∈ t.ctxs, c.owner = 0) ∧ ∀ k : Fin 64, k ≠ 0 → t.funcs[k].enabled = false) ∧
     (∀ (num : Nat) (ari : Bool), s.link.cfgUp = true → linkUsable s = true → s.link.vfEnable = false →
       exec (.vfEnableSet num ari) s = .next (settle s
         { s with
           funcs := vecMap (fun i f => if 1 ≤ i ∧ i ≤ (if ari then min num 63 else min num 7) then { enabled := true } else f) s.funcs
           link := { s.link with vfEnable := true, numVfs := num, ari := ari } } 0))) ∧
  (∀ s : State, linkUsable s = true →
     (s.link.cfgUp = true → ∃ t, exec .pfFlr s = .next t ∧ t.ctxs.map (·.num) = [0] ∧ t.queues = [Queue.zero] ∧ t.admin = {} ∧
       t.link.vfEnable = false ∧ t.link.up = s.link.up ∧ t.hk.hostCap = 2700 ∧ t.power.target = .run ∧ t.power.hold = 10 ∧
       t.sec.updLen = 0 ∧ t.mod.sscDepth = s.mod.sscDepth ∧ t.tailor.profile = s.tailor.profile ∧
       t.tailor.reserve = s.tailor.reserve ∧ t.funcs[(0 : Fin 64)].intEnable = 0 ∧ t.mod.mstate = s.mod.mstate ∧
       t.sec.fuses = s.sec.fuses ∧ (∀ src, s.sec.cmd = .stage src true → t.sec.cmd = .none ∧ t.sec.updResult = 7) ∧
       (s.sec.submit.isSome = true → t.sec.submit = none ∧ t.sec.dbgResult = 3)) ∧
     (∃ t, exec .hotReset s = .next t ∧ t.ctxs.map (·.num) = [0] ∧ t.queues = [Queue.zero] ∧ t.admin = {} ∧
       t.link.up = false ∧ t.link.training = true ∧ t.mod.sscDepth = s.mod.sscDepth ∧ t.mod.mstate = s.mod.mstate))

/-- ATS (R312, R313): a translation is cached as far as it is granted, in place of an earlier one for its page; an invalidation
stops the use of translations in its range at once and is completed once no request under it is out. DOE Discovery names its
three protocols (R316); DOE Abort takes away the unread answer, what it has in chunks and the mailbox requests that wait;
an IDE failure puts the stream Insecure, and with no RUN_PATTERN pending changes nothing else (R318). -/
def Obligations.AtsDoeAndIde : Prop :=
  (∀ (s : State) (fn : Fin 64),
     (∀ (page host : Nat) (r w : Bool), barUp s fn = true → s.funcs[fn].ats = true → s.works = [] →
       (s.link.xlats.all fun x => !(x.fn == fn && x.page == page)) = true →
       exec (.atsTranslationCompletion fn page host r w) s = .next (settle s
         (updFunc fn (fun f => { f with
           atc := if r || w then (page, host, r, w) :: f.atc.filter (·.1 != page) else f.atc.filter (·.1 != page) }) s) 0)) ∧
     (∀ base len : Nat, barUp s fn = true →
       ∃ t, exec (.atsInvalidate fn base len) s = .next t ∧
         t.funcs[fn].invs = s.funcs[fn].invs ++ [(base, len, (s.reqs.filter (FdReq.underRange fn base len)).map (·.id))] ∧
         ∀ x, x ∈ t.funcs[fn].atc ↔ x ∈ s.funcs[fn].atc ∧ (x.1 * 4096 + 4096 ≤ base ∨ base + len ≤ x.1 * 4096)) ∧
     (∀ (base len : Nat) (ids : List Nat) (rest : List (Nat × Nat × List Nat)), s.funcs[fn].invs = (base, len, ids) :: rest →
       (stillOut s ids = false →
         exec (.atsInvalidateCompletion fn) s = .next (settle s (updFunc fn (fun f => { f with invs := rest }) s) 0)) ∧
       (stillOut s ids = true → rest = [] → exec (.atsInvalidateCompletion fn) s = .next (settle s s 0)))) ∧
  (∀ s : State,
     (s.link.cfgUp = true → linkUsable s = true →
       exec (.doeDiscovery 0) s = .next (settle s { s with reply := .doe (1 + 1 * 2 ^ 24) } 0) ∧
       exec (.doeDiscovery 1) s = .next (settle s { s with reply := .doe (1 + 1 * 2 ^ 16 + 2 * 2 ^ 24) } 0) ∧
       exec (.doeDiscovery 2) s = .next (settle s { s with reply := .doe (1 + 2 * 2 ^ 16) } 0) ∧
       exec .doeAbort s = .next (settle s { s with
         reply := .none, sec := { s.sec with heldReports := s.sec.heldReports.filter (·.1), chunks := none, largeAns := none } } 0)) ∧
     (∀ (i : Ide) (rest : List Ide), s.link.ide = i :: rest → (∀ j ∈ rest, j.id ≠ i.id) →
       (∀ q ∈ s.queues, ∀ e ∈ q.entries, e.op ≠ 0x01) →
       exec (.ideStreamInsecure i.id) s = .next (settle s
         { s with link := { s.link with ide := { i with secure := false, insecure := true } :: rest } } 0)))

/-- A conversion records its reading; the second in a row above the shutdown threshold trips the module: every main rail off,
THERMTRIP_N asserted, HK_TRIP latched (R364, R376, R377, R398); while it stands tripped, the trip of a further sensor is
latched in its place. A tripped module restarts once every sensor is below its
restart value; with THERM_RESTART low it waits for PERST_N or the input (R379, R500). -/
def Obligations.TripAndThermalRestart : Prop :=
  (∀ (s : State) (n : Fin 282) (x : Int), s.mod.auxOn = true → s.mod.thermtrip = false →
     (x ≤ shutdownAt n.val ∨ (s.hk.sensors[n].beyond = false ∧ s.hk.sensors[n].tripped = false) →
       exec (.sensorConversion n x) s = .next (settle s
         { s with hk := { s.hk with
             sensors := s.hk.sensors.set n.val
               { s.hk.sensors[n] with raw := some x, beyond := decide (shutdownAt n.val < x), tripped := false } } } 0)) ∧
     (shutdownAt n.val < x → s.hk.sensors[n].beyond = true → s.hk.sensors[n].tripped = false →
       ∃ t, exec (.sensorConversion n x) s = .next t ∧ t.mod.thermtrip = true ∧ t.mod.rails = false ∧ t.mod.mstate = .powerup ∧
         t.hk.trip = BitVec.ofNat 32 (2 ^ 31 + bitAt 30 (sensorClass n.val == 6) + n.val * 2 ^ 16 + wrap 16 x) ∧
         t.power.tilesUp = 0 ∧ t.power.hubsUp = 0 ∧ t.sec.fuses = s.sec.fuses)) ∧
  (∀ (s : State) (n : Fin 282) (x : Int), s.mod.auxOn = true → s.mod.thermtrip = true → shutdownAt n.val < x →
     s.hk.sensors[n].beyond = true → s.hk.sensors[n].tripped = false →
     ∃ t, exec (.sensorConversion n x) s = .next t ∧ t.mod.thermtrip = true ∧ t.mod.rails = s.mod.rails ∧
       t.hk.trip = BitVec.ofNat 32 (2 ^ 31 + bitAt 30 (sensorClass n.val == 6) + n.val * 2 ^ 16 + wrap 16 x)) ∧
  (∀ (s : State) (dA dB : Bool), s.mod.thermtrip = true → coolEnough s.hk = true →
     (s.mod.thermRestart = false →
       ∃ t, exec (.thermalRestart dA dB) s = .next t ∧ t.mod.thermtrip = true ∧ t.mod.restartOk = true ∧ t.mod.mstate = s.mod.mstate) ∧
     (s.mod.thermRestart = true → s.mod.perst = false → s.mod.auxOn = true → s.mod.mainOn = true →
       ∀ (n : Fin 2) (new : Bool), chooseSlot (moduleReset s) none = some (n, new) → slotDigest dA dB n = true →
       ∃ t, exec (.thermalRestart dA dB) s = .next t ∧ t.mod.thermtrip = false ∧ t.mod.rails = true ∧ t.mod.mstate = .calibrating))

/-- The thermal limit L in units of 0.5 W (R371, R373): a slow round in which the worst sensor is above its threshold lowers it
by 67.5 W, once in 10 ms and to no less than 405 W, and names the sensor's class as the cause; one in which every sensor is
3 °C or more below raises it by 27 W, once in 100 ms and to no more than 1,350 W, unless a relax hold runs; the limit in
force is the least of L and the caps. -/
def Obligations.ThermalLimitFallsAndRises : Prop :=
  ∀ (h : Hk) (now n : Nat) (m : Int), worst h = some (n, m) →
    (0 < m → 810 < h.limit → (∀ f, h.lastFall = some f → 10 ≤ now - f) →
      (limitFall now h).limit = max 810 (h.limit - 135) ∧ (limitFall now h).lastFall = some now ∧
      (limitFall now h).fallClass = sensorClass n ∧ (limitFall now h).falls = h.falls + 1) ∧
    (m ≤ 0 ∨ h.limit ≤ 810 → limitFall now h = h) ∧
    (m ≤ -300 → h.relaxHold = false → h.limit < 2700 → (∀ f, h.lastChange = some f → 100 ≤ now - f) →
      limitRise now h = { h with limit := min 2700 (h.limit + 54), lastChange := some now }) ∧
    (-300 < m ∨ h.relaxHold = true → limitRise now h = h) ∧
    (capsTick h).inForce = min h.limit (min h.hostCap h.mgmtCap)

/-- The limit stays between 405 W and 1,350 W whatever the block does (R371). -/
def Obligations.ThermalLimitStaysInRange : Prop :=
  ∀ s t : State, 810 ≤ s.hk.limit ∧ s.hk.limit ≤ 2700 → step s = .next t → 810 ≤ t.hk.limit ∧ t.hk.limit ≤ 2700

/-- The rounds (R365, R367, R368, R372): a slow round checks every sensor, gives each the value used, and ticks limit, caps and
budget; a fast round takes the sensors near their thresholds and may lower the limit; a failed sensor that has passed 1,000
rounds is used again and logged; the relax hold ends. Stated where no sensor is failed or fails. A tile in tile safelight whose
sensors are all back is calibrated from step 1 (R370). A hold-up bank that is not charged in time is logged and makes the vault
read-only until the next module reset (R509). -/
def Obligations.RoundsTileSafelightAndHoldup : Prop :=
  (∀ (s : State) (now : Nat), roundsRun s = true → s.mod.rails = true → s.mod.perst = false →
     ((∀ n : Fin 282, s.hk.sensors[n].raw.isSome = true ∧ s.hk.sensors[n].status = 0 ∧
         (checkSensor s.hk [] n.val s.hk.sensors[n]).status = 0) →
       (∀ t : Fin 12, s.tiles[t].slReturn = false) →
       ∃ t, exec (.slowRound now []) s = .next t ∧ t.mod.sidebandUp = true ∧ t.link.cfgUp = true ∧
         (∀ n : Fin 282, t.hk.sensors[n].used = s.hk.sensors[n].raw ∧ t.hk.sensors[n].subst = false ∧ t.hk.sensors[n].status = 0) ∧
         t.hk.inForce = min t.hk.limit (min s.hk.hostCap s.hk.mgmtCap) ∧
         t.hk.rounds = s.hk.rounds + 1 ∧ ∀ k : Fin 12, t.tiles[k].st = s.tiles[k].st) ∧
     (s.mod.sidebandUp = true → exec (.fastRound now) s = .next (settle s { s with
       hk := limitFall now (takeValues false { s.hk with sensors := vecMap (fastMember s.hk 1) s.hk.sensors }) } 0)) ∧
     (∀ n : Fin 282, s.hk.sensors[n].passed < 1000 → exec (.sensorReturn n) s = .next (settle s s 0)) ∧
     (∀ n : Fin 282, s.hk.sensors[n].failed = true → 1000 ≤ s.hk.sensors[n].passed →
       exec (.sensorReturn n) s = .next (settle s
         { s with
           notes := .sensorReturn n.val :: s.notes
           hk := { s.hk with
             sensFaults := s.hk.sensFaults + 1
             sensors := s.hk.sensors.set n.val
               { s.hk.sensors[n] with status := 0, disagree := 0, passed := 0, subst := false, used := s.hk.sensors[n].raw } } } 0)) ∧
     exec .relaxHoldExpiry s = .next (settle s { s with hk := { s.hk with relaxHold := false } } 0)) ∧
  (∀ (s : State),
     (∀ t : Fin 12, s.tiles[t].safelight = true → s.mod.mstate = .ready →
       (∀ n, n < 282 → sensorTile n = some t.val → (s.hk.at n).failed = false) →
       ∃ u, exec (.tileSafelightEnd t) s = .next u ∧ u.tiles[t].st = .threading ∧ u.tiles[t].cal.step = 1 ∧
         u.tiles[t].safelight = false ∧ u.tiles[t].slReturn = true ∧
         u.power.tilesUp = s.power.tilesUp ||| (1#12 <<< t.val)) ∧
     exec .holdupChargeTimeout s = .next (settle s { s with
       notes := .holdupLow :: s.notes
       vault := { s.vault with holdup := false, holdupFault := true, st := if s.vault.st = 2 then 3 else s.vault.st } } 0))

/-- A monitor converter (R393, R394, R395, R398): a trigger starts its sequence, or is dropped as an overlap while one runs; GO
starts one injected conversion on an idle converter, or is dropped; a result lands with its input, and replaces an unread
one with OVERRUN; a read returns the register and clears VALID and OVERRUN; reads of the drop and plausibility counts clear
them. The reference is enabled and settles (R392). A monitor round keeps its power reading unless the two converters
disagree on their common input by more than 12 codes; the third such round in a row is a monitor fault (R391, R396), which
100 good rounds in a row clear. -/
def Obligations.MonitorConverters : Prop :=
  (∀ (s : State) (m : Fin 2) (v : Word) (code : BitVec 16), s.hk.mon[m].en = true →
     let x := s.hk.mon[m]
     (x.seqBusy = false → x.conv = none →
       exec (.mcSwTrigger m) s = .next (settle s
         (updMon m (fun x => { x with seqBusy := true, seqPos := 0, conv := some (x.entry 0, false, !s.hk.refSettled) }) s) 0) ∧
       (v.getLsbD 8 = true → exec (.mcInject m v) s = .next (settle s
         (updMon m (fun x => { x with conv := some (v.setWidth 6, true, !s.hk.refSettled) }) s) 0))) ∧
     (x.seqBusy = true → x.overlap < 0xFFFF →
       exec (.mcSwTrigger m) s = .next (settle s (updMon m (fun x => { x with overlap := x.overlap + 1 }) s) 0)) ∧
     (x.seqBusy = true → v.getLsbD 8 = true → x.injDropped < 0xFFFF →
       exec (.mcInject m v) s = .next (settle s (updMon m (fun x => { x with injDropped := x.injDropped + 1 }) s) 0)) ∧
     (∀ (input : BitVec 6) (inj uns : Bool), x.conv = some (input, inj, uns) → x.seqBusy = false →
       exec (.mcConversionDone m code) s = .next (settle s
         (updMon m (fun x => { x with
           data := code, input := input, inj := inj, notSettled := uns, overrun := x.overrun || x.valid, valid := true
           conv := none }) s) 0)) ∧
     (∀ (input : BitVec 6) (uns : Bool), x.conv = some (input, false, uns) → x.seqBusy = true → x.seqPos < x.seqLen →
       exec (.mcConversionDone m code) s = .next (settle s
         (updMon m (fun x => { x with
           data := code, input := input, inj := false, notSettled := uns, overrun := x.overrun || x.valid, valid := true
           seqPos := x.seqPos + 1, conv := some (x.entry (x.seqPos + 1), false, !s.hk.refSettled) }) s) 0)) ∧
     exec (.mcDataRead m) s = .next (settle s
       { updMon m (fun x => { x with valid := false, overrun := false }) s with
         reply := .word (BitVec.ofNat 32 (monData s.hk.mon[m])) } 0) ∧
     exec (.mcDropsRead m) s = .next (settle s
       { updMon m (fun x => { x with overlap := 0, injDropped := 0 }) s with
         reply := .word (BitVec.ofNat 32 (x.injDropped + x.overlap * 2 ^ 16)) } 0) ∧
     exec .mcPlausRead s = .next (settle s
       { s with hk := { s.hk with plausFails := 0 }, reply := .word (BitVec.ofNat 32 (s.hk.plausDiff + s.hk.plausFails * 2 ^ 16)) } 0)) ∧
  (∀ s : State,
     (s.mod.auxOn = true → ∃ t, exec .refEnable s = .next t ∧ t.hk.refEn = true ∧ t.hk.mon[0].en = true ∧ t.hk.mon[1].en = true ∧
       t.hk.mon[0].seqLen = 24 ∧ t.hk.mon[1].seqLen = 23) ∧
     (s.hk.refEn = true → exec .refSettled s = .next (settle s { s with hk := { s.hk with refSettled := true } } 0)) ∧
     (100 ≤ s.hk.goodInRow → exec .monitorFaultClear s = .next (settle s { s with hk := { s.hk with monitorFault := false } } 0)) ∧
     (∀ a b : List Nat, roundsRun s = true → s.mod.rails = true → s.hk.mon[0].en = true → s.hk.mon[1].en = true →
       s.hk.mon[0].seqBusy = false → s.hk.mon[1].seqBusy = false →
       let d := ((a.getD 24 0 : Nat) - (b.getD 23 0 : Nat) : Int).natAbs
       (12 < d → ∃ t, exec (.monitorRound a b) s = .next t ∧ t.hk.plausDiff = min d 0xFFFF ∧ t.hk.goodInRow = 0 ∧
         t.hk.monitorFault = (s.hk.monitorFault || decide (3 ≤ s.hk.failsInRow + 1)) ∧ t.mod.mstate = s.mod.mstate) ∧
       (d ≤ 12 → s.hk.refSettled = true → s.hk.mon[0].valid = false → s.hk.mon[1].valid = false →
         s.hk.mon[0].overrun = false → s.hk.mon[1].overrun = false → laserInLimits a b = true →
         ∃ t, exec (.monitorRound a b) s = .next t ∧ t.hk.goodInRow = s.hk.goodInRow + 1 ∧
           t.hk.powers = (roundPower a b :: s.hk.powers).take 1000 ∧ t.hk.laserOut = 0 ∧ t.hk.failsInRow = 0)))

/-- A write of PWR_CTRL sets HOLD and TARGET, reserved values apart (R6, R383, R397): from a settled state a different target
begins its transition; during one, or before the module has served, it is pending; while housekeeping is halted or in its own
swap window it is acted on afterwards (R490). PWR_CAP takes 405–1,350 W (R371, R397). A transition ends in the state it moved
to, and a pending target is moved to next (R386); the one to DEEP waits for the work items in progress (R273); the one to OFF
waits for write-out and for the records that remain, and ends with every main rail off and everything volatile lost (R388). -/
def Obligations.PowerTargetsCapsAndTransitions : Prop :=
  (∀ (s : State) (v : Word),
     let hold := if v.toNat / 2 ^ 8 % 256 = 0 then s.power.hold else v.toNat / 2 ^ 8 % 256
     (pfOpen s 0x30000 = true → ∀ p, pstateOf (v.toNat % 8) = some p →
       let w : State := { s with power := { s.power with hold := hold, target := p } }
       (hkAway w = true →
         exec (.powerTargetWrite v) s = .next (settle s { w with sec := { w.sec with asked := w.sec.asked ++ [.power p] } } 0)) ∧
       (hkAway w = false →
         ((s.mod.served = false ∧ s.mod.mstate ≠ .fault) ∨ s.power.moving.isSome = true →
           exec (.powerTargetWrite v) s = .next (settle s { w with power := { w.power with pending := some p } } 0)) ∧
         (s.mod.served = true ∨ s.mod.mstate = .fault → s.power.moving = none →
           (p = s.power.current → exec (.powerTargetWrite v) s = .next (settle s w 0)) ∧
           (p ≠ s.power.current → p ≠ .off →
             exec (.powerTargetWrite v) s = .next (settle s { w with power := { w.power with moving := some p } } 0)) ∧
           (p ≠ s.power.current → p = .off →
             exec (.powerTargetWrite v) s = .next (settle s (cancelForOff { w with power := { w.power with moving := some p } }) 0))))) ∧
     (pfOpen s 0x30000 = true → pstateOf (v.toNat % 8) = none →
       exec (.powerTargetWrite v) s = .next (settle s { s with power := { s.power with hold := hold } } 0)) ∧
     (pfOpen s 0x30008 = true → 81 ≤ v.toNat % 2 ^ 9 → v.toNat % 2 ^ 9 ≤ 270 →
       exec (.pwrCapWrite v) s = .next (settle s { s with hk := { s.hk with hostCap := v.toNat % 2 ^ 9 * 10 } } 0)) ∧
     (pfOpen s 0x30008 = true → v.toNat % 2 ^ 9 < 81 ∨ 270 < v.toNat % 2 ^ 9 → exec (.pwrCapWrite v) s = .next (settle s s 0))) ∧
  (∀ (s : State) (p : PState), s.power.moving = some p →
     let held := p = .deep ∧ (s.works.any fun w => !itemEnded s w.q w.seq) = true
     (held → exec .powerTransitionDone s = .next (settle s s 0)) ∧
     (p ≠ .off → ¬ held → s.power.pending = none →
       ∃ t, exec .powerTransitionDone s = .next t ∧ t.power.current = p ∧ t.power.moving = none ∧ t.power.pending = none) ∧
     (∀ q, p ≠ .off → ¬ held → s.power.pending = some q → q ≠ p →
       ∃ t, exec .powerTransitionDone s = .next t ∧ t.power.current = p ∧ t.power.moving = some q ∧ t.power.pending = none) ∧
     (p = .off →
       (s.works.any Work.inWriteOut = true ∨ recordsDue s = true → exec .powerTransitionDone s = .next (settle s s 0)) ∧
       (s.works.any Work.inWriteOut = false → recordsDue s = false →
         ∃ t, exec .powerTransitionDone s = .next t ∧ t.power.current = .off ∧ t.mod.rails = false ∧ t.queues = [Queue.zero] ∧
           t.power.tilesUp = 0 ∧ t.hbm = [] ∧ t.sec.fuses = s.sec.fuses)))

/-- A domain at rest wakes on demand and the wake is counted (R384); an idle domain takes the resting state again when its hold
expires, a busy one drains, and each retry is counted (R383, R385). Stated for LPDDR4X and an HBM3E stack. The inputs
(R504–R507): losing the 48 V input, or an overvoltage, takes every main rail off as a trip does, without THERMTRIP_N; losing
AUX also loses HK_TRIP; an input that comes into range raises the rails, and with PERST_N released the timeline runs. -/
def Obligations.DomainsAndInputs : Prop :=
  (∀ (s : State) (h : Fin 4), domainsUp s = true →
     (s.power.lpUp = false → s.power.wakes < 255 →
       exec (.domainDemandWake .lpddr true) s = .next (settle s
         { s with power := { s.power with
             lpUp := true, draining := s.power.draining.filter (· != .lpddr), wakes := s.power.wakes + 1 } } 0)) ∧
     (restingDown s = true → s.power.current = .sleep →
       (s.power.lpUp = true → .lpddr ∉ s.power.retrying →
         (domainBusy s .lpddr = false → exec (.domainHoldExpiry .lpddr) s = .next (settle s
           { s with power := { s.power with
               lpUp := false, draining := s.power.draining.filter (· != .lpddr)
               retrying := s.power.retrying.filter (· != .lpddr) } } 0)) ∧
         (domainBusy s .lpddr = true → .lpddr ∉ s.power.draining → exec (.domainHoldExpiry .lpddr) s = .next (settle s
           { s with power := { s.power with
               draining := s.power.draining ++ [.lpddr], retrying := s.power.retrying ++ [.lpddr] } } 0))) ∧
       (.hbm h ∈ s.power.draining → .hbm h ∈ s.power.retrying → domainBusy s (.hbm h) = false → s.power.retries < 255 →
         exec (.drainRetry (.hbm h)) s = .next (settle s
           { s with power := { s.power with
               retries := s.power.retries + 1, hbmUp := s.power.hbmUp &&& ~~~(1#4 <<< h.val)
               draining := s.power.draining.filter (· != .hbm h)
               retrying := s.power.retrying.filter (· != .hbm h) } } 0)))) ∧
  (∀ s : State,
     let cut := fun (t : State) => t.mod.mainOn = false ∧ t.mod.rails = false ∧ t.mod.thermtrip = s.mod.thermtrip ∧
       t.hk.trip = s.hk.trip ∧ t.power.tilesUp = 0 ∧ t.queues = [Queue.zero] ∧ t.lp = []
     let waits := fun (t : State) => t.mod.mainOn = true ∧ t.mod.rails = true ∧ t.mod.mstate = .powerup
     let starts := fun (n : Fin 2) (t : State) =>
       t.mod.mainOn = true ∧ t.mod.rails = true ∧ t.mod.mstate = .calibrating ∧ t.sec.running = n
     (s.mod.mainOn = true → (∃ t, exec .input48vLoss s = .next t ∧ cut t) ∧ ∃ t, exec .input48vOvervoltage s = .next t ∧ cut t) ∧
     (s.mod.auxOn = true → ∃ t, exec .auxLoss s = .next t ∧ t.mod.auxOn = false ∧ t.mod.rails = false ∧ t.hk.trip = 0 ∧
       t.mod.thermtrip = false ∧ t.mgmt.eid = 0) ∧
     (s.mod.mainOn = false → s.mod.auxOn = true → s.mod.thermtrip = false → s.mod.rails = false →
       (s.mod.perst = true → (∃ t, exec .input48vValid s = .next t ∧ waits t) ∧ ∃ t, exec .input48vRecovery s = .next t ∧ waits t) ∧
       (s.mod.perst = false → ∀ (n : Fin 2) (new : Bool), chooseSlot (moduleReset s) none = some (n, new) →
         (∃ t, exec .input48vValid s = .next t ∧ starts n t) ∧ ∃ t, exec .input48vRecovery s = .next t ∧ starts n t)) ∧
     (∀ a : BitVec 2, s.mod.auxOn = false → s.mod.mainOn = true → s.mod.thermtrip = false → s.mod.rails = false → s.mod.perst = true →
       ∃ t, exec (.auxValid a) s = .next t ∧ t.mod.auxOn = true ∧ t.mgmt.smbAddr = a ∧ t.mod.rails = true))

/-- Reads of a tile's sensors, their last conversions, are taken and its heaters follow, each at the current that its table
gives for its own estimate (R153, R154); a core whose estimate jumps by more than 0.1 K fogs its LOCKED tile (R162): FOGGED,
counted in FOG_COUNT, every core that is not RETIRED DARK. The way back from fog (R163, R164): a slope that has settled lets
probes run; a round in which every core passes locks the tile; one that fails waits 1 ms, and the third sends the tile to
THREADING at step 1. A core that holds no weights passes; an analog row value passes within 3 LSB of its true sum, an exact pass
where every decision is the true level and none doubtful. A tile FOGGED for 20 ms loses its pieces (R163, R238): afterwards no
replica of any piece stands on it. -/
def Obligations.SensorsHeatersFogAndProbes : Prop :=
  (∀ (s : State) (t : Fin 12) (temps : List Int), tilePowered s t = true →
     let run := vecMap (fun _ => Dith.advance (Config.controlCycles s.free)) s.tiles[t].dith
     let now := tileReads s t temps
     let drive := fun (p : Nat × Ring) => driveRing p.2 (ringTemp now (p.1 / 4288) (p.1 / 64 % 67) (p.1 % 64))
     (jumped s.tiles[t].temps now = false → s.tiles[t].heated = false →
       exec (.tileSensorRead t temps) s =
         .next (settle s (draw (updTile t (fun x => { x with temps := now, selvHit := 0, dith := run }) s)) 0)) ∧
     (jumped s.tiles[t].temps now = false → s.tiles[t].heated = true → (∀ p ∈ s.tiles[t].rings, (drive p).2 = false) →
       exec (.tileSensorRead t temps) s = .next (settle s (draw (updTile t (fun x => { x with
         temps := now, selvHit := 0, dith := run, rings := x.rings.map fun p => (p.1, (drive p).1) }) s)) 0)) ∧
     (s.tiles[t].heated = false → jumped s.tiles[t].temps now = true → s.tiles[t].st = .locked →
       ∃ u, exec (.tileSensorRead t temps) s = .next (settle s u 0) ∧ u.tiles[t].st = .fogged ∧ u.tiles[t].fogCause = some .thermal ∧
         u.tiles[t].fogCount = s.tiles[t].fogCount + 1 ∧ u.tiles[t].temps = now ∧
         ∀ c : Fin 4, u.tiles[t].cores[c].st = .dark ∨ u.tiles[t].cores[c].st = .retired)) ∧
  (∀ (s : State) (t : Fin 12), s.tiles[t].st = .fogged →
     (s.tiles[t].fogCause = some .thermal → exec (.fogSlopeSettled t) s = .next (settle s (updTile t (fun x => { x with mayProbe := true }) s) 0)) ∧
     exec (.probeRetryWait t) s = .next (settle s (updTile t (fun x => { x with waitRetry := false }) s) 0) ∧
     (s.tiles[t].mayProbe = true → s.tiles[t].waitRetry = false → pllGood s t = true → allServed s.tiles[t] = true →
       ∀ (probes : List ProbePass) (beyond : Bool),
       (probesPass s.tiles[t] probes = true → s.tiles[t].pend = [] → (∀ c : Fin 4, s.tiles[t].cores[c].faulty = []) →
         ∃ u, exec (.probeRound t probes beyond) s = .next u ∧ u.tiles[t].st = .locked ∧ u.tiles[t].fogCause = none ∧
           u.tiles[t].probeFails = 0) ∧
       (probesPass s.tiles[t] probes = false →
         (s.tiles[t].probeFails < 2 → exec (.probeRound t probes beyond) s = .next (settle s
           (updTile t (fun x => let y := countProbes probes x
             { y with probeFails := y.probeFails + 1, waitRetry := true }) s) 0)) ∧
         (2 ≤ s.tiles[t].probeFails → ∃ u, exec (.probeRound t probes beyond) s = .next (settle s u 0) ∧
           u.tiles[t].st = .threading ∧ u.tiles[t].cal.step = 1)))) ∧
  (∀ (c : Core) (b : Block) (p : ProbePass), c.block = some b →
     (b.analog = true → probeOk c p = true → ∀ r, r < b.groups →
       (rowValue (c.row (physRow c r)) (p.samples.getD (2 * physRow c r) 0).toNat (p.samples.getD (2 * physRow c r + 1) 0).toNat
         - (analogTruth p.input (b.codes.getD r []) : Int)).natAbs ≤ 2977) ∧
     (b.analog = false → (probeOk c p = true ↔ ∀ d ∈ decisions c b p.input p.samples, d.2.1 = false ∧ d.2.2 = false))) ∧
  (∀ (s : State) (t : Fin 12), s.tiles[t].st = .fogged →
     ∃ u, exec (.fogReplacement t) s = .next (settle s u 0) ∧ u.tiles[t].st = .fogged ∧ ∀ p ∈ u.pats, p.onTile t.val = false)

/-- A heater reading off by more than 2 % and 10 µA makes the heater suspect; the second such reading counts in HTR_MISMATCH and
takes the row out of service at the core's next fix point (R99, R159). Before the first write a reading above 10 µA makes the
ring unthreadable (R159). A heater's DAC code fits 14 bits, its range goes HIGH above 1.9 mA and LOW below 1.7 mA, each time at
the equivalent code, and between them stays (R156, R158). A core's fix point puts the basting row in the place of one faulty
row, with a single-row load, and retires a core that loses two (R50, R51, R73, R97, R202). -/
def Obligations.RowsLeaveService : Prop :=
  (∀ (s : State) (t : Fin 12) (rd : HeaterRead),
     let x := s.tiles[t]
     let r := x.ring (ringKey rd.core.val rd.row.val rd.ch.val)
     let rest := x.suspect.filter (· != (rd.core, rd.row, rd.ch))
     (tilePowered s t = true → rd.unstable = false → x.heated = true → mismatch r rd.nanoamps = true → (rd.core, rd.row, rd.ch) ∉ x.suspect →
       exec (.heaterScan t [rd]) s = .next (settle s (updTile t (fun x => { x with suspect := x.suspect ++ [(rd.core, rd.row, rd.ch)] }) s) 0) ∧
       exec (.heaterReread t rd) s = .next (settle s (updTile t (fun x => { x with suspect := x.suspect ++ [(rd.core, rd.row, rd.ch)] }) s) 0)) ∧
     (tilePowered s t = true → rd.unstable = false → x.heated = false → 10000 < rd.nanoamps →
       exec (.heaterScan t [rd]) s = .next (settle s (updTile t (Tile.calQuarantine [(rd.core, rd.row)]) s) 0)) ∧
     ((rd.core, rd.row, rd.ch) ∈ x.suspect →
       (mismatch r rd.nanoamps = true →
         exec (.heaterMismatchConfirm t rd) s = .next (settle s (holdForRows (coreNum t rd.core) [rd.row]
           (updTile t (fun x => { x with htrMismatch := x.htrMismatch + 1, suspect := rest }) s)) 0)) ∧
       (mismatch r rd.nanoamps = false →
         exec (.heaterMismatchConfirm t rd) s = .next (settle s (updTile t (fun x => { x with suspect := rest }) s) 0)))) ∧
  (∀ (r : Ring) (e : Int), (driveRing r e).1.code ≤ 16383 ∧
     (15200000 < heaterCurrent r e → (driveRing r e).1.high = true) ∧
     (heaterCurrent r e < 13600000 → (driveRing r e).1.high = false) ∧
     (13600000 ≤ heaterCurrent r e → heaterCurrent r e ≤ 15200000 → (driveRing r e).1.high = r.high) ∧
     (r.high = false → 15200000 < heaterCurrent r e →
       (driveRing r e).1.code = (heaterCode (heaterCurrent r e) 1953125 + 2) / 4) ∧
     (r.high = true → heaterCurrent r e < 13600000 → (driveRing r e).1.code = 4 * heaterCode (heaterCurrent r e) 7812500) ∧
     ((driveRing r e).2 = true ↔ 64000000 < heaterCurrent r e) ∧
     (driveRing r e).1.table = r.table ∧ (driveRing r e).1.dq = r.dq ∧ (driveRing r e).1.eta = r.eta) ∧
  (∀ (s : State) (k : Fin 48), (s.core k).st ≠ .retired → (s.core k).slotBad = false → (s.core k).took = none →
     (∀ r : Fin 67, r ≠ 66 → (s.core k).faulty = [r] → (s.core k).rows[r].quar = false → (s.core k).baste = none →
       (s.core k).rows[(66 : Fin 67)].quar = false → (s.core k).walk = none → s.tiles[coreTile k].st = .locked →
       (s.core k).gateShut = false → (s.core k).barred = 0 →
       ∃ u, exec (.coreFixPoint k) s = .next (settle s u 0) ∧ (u.core k).baste = some (r, true) ∧ (u.core k).rows[r].quar = true ∧
         (u.core k).st = .loading ∧ (u.core k).faulty = [] ∧ (u.core k).wloads = (s.core k).wloads + 1 ∧
         (u.core k).replays = (s.core k).replays + (if (s.core k).replayDue then 1 else 0)) ∧
     (∀ a b : Fin 67, a ≠ b → (s.core k).faulty = [a, b] → (s.core k).rows[a].quar = false → (s.core k).rows[b].quar = false →
       ∃ u, exec (.coreFixPoint k) s = .next (settle s u 0) ∧ (u.core k).st = .retired ∧ ∀ p ∈ u.pats, p.onCore k = false))

/-- A laser that loses output, or half its power, or is not held on its frequency is FAILED (R141, R143, R147): its LOCKED tile
fogs, and its group's free spare is tuned to its channel; where the spare has failed the channel goes dark (R148, R149). A tuned
spare waits for its tile's fix point (R144, R145); the fix point, or 50 ms at most, makes the swap: the spare operates at its
set point, the working laser is FADED, LS_SWAPS counts (R144, R185). The power loop (R142): a monitor current below its set
point asks for one bias step up, above it for one step down; the step is taken at the tile's next fix point, and at bias 680
the laser is declared fading (R143). After 10 ms the tile controller makes a fix point of its own (R204). -/
def Obligations.LasersAreSwappedAndLevelled : Prop :=
  (∀ (s : State) (t : Fin 12) (ch : Fin 64), s.tiles[t].st = .locked → s.tiles[t].rli = false → s.tiles[t].dark.getLsbD ch.val = false →
     s.tiles[t].lasers[workingOf ch].st = .operating → s.tiles[t].lasers[workingOf ch].serving = true →
     s.tiles[t].lasers[spareOf (groupOf ch)].serving = false →
     let tunes := fun (u : State) => u.tiles[t].st = .fogged ∧ u.tiles[t].fogCause = some .laser ∧
       u.tiles[t].lasers[workingOf ch].st = .failed ∧ u.tiles[t].lasers[spareOf (groupOf ch)].st = .tuning ∧
       u.tiles[t].lasers[spareOf (groupOf ch)].chan = ch.val
     let goesDark := fun (u : State) => u.tiles[t].st = .fogged ∧ u.tiles[t].dark = s.tiles[t].dark ||| (1#64 <<< ch.val) ∧
       ((∀ d : Fin 64, d ≠ ch → channelServed s.tiles[t] d = true) → u.tiles[t].mayProbe = true)
     (s.tiles[t].lasers[spareOf (groupOf ch)].st = .warmHold →
       (∃ u, exec (.laserFail t (workingOf ch)) s = .next u ∧ tunes u) ∧
       ∃ u, exec (.laserFrequencyHoldFail t (workingOf ch)) s = .next u ∧ tunes u) ∧
     (s.tiles[t].lasers[spareOf (groupOf ch)].st = .failed →
       (∃ u, exec (.laserFail t (workingOf ch)) s = .next u ∧ goesDark u) ∧
       ∃ u, exec (.laserFrequencyHoldFail t (workingOf ch)) s = .next u ∧ goesDark u)) ∧
  (∀ (s : State) (t : Fin 12) (k : Fin 8) (ch : Fin 64), s.tiles[t].st = .locked →
     (s.tiles[t].lasers[spareOf k].st = .tuning → s.tiles[t].swapping = [] → s.tiles[t].pend = [] → laserChan s.tiles[t] (spareOf k) = ch →
       ∃ u, exec (.swapReady t k) s = .next (settle s u 0) ∧ u.tiles[t].swapping = [(k, ch)] ∧ u.tiles[t].pend = [.swap k] ∧
         u.tiles[t].lasers = s.tiles[t].lasers) ∧
     (s.tiles[t].swapping = [(k, ch)] → s.tiles[t].pend = [.swap k] → s.tiles[t].lasers[workingOf ch].st = .fading →
       s.tiles[t].isDim = false → s.tiles[t].lasers[spareOf k].set < 680 → (∀ c : Fin 4, s.tiles[t].cores[c].faulty = []) →
       let swapped := fun (u : State) => u.tiles[t].lasers[spareOf k].st = .operating ∧
         u.tiles[t].lasers[spareOf k].serving = true ∧
         u.tiles[t].lasers[spareOf k].bias = s.tiles[t].lasers[spareOf k].set ∧ u.tiles[t].lasers[workingOf ch].st = .faded ∧
         u.tiles[t].swaps = s.tiles[t].swaps + 1 ∧ u.tiles[t].pend = [] ∧ u.tiles[t].swapping = []
       (∃ u, exec (.tileFixPoint t) s = .next (settle s u 0) ∧ swapped u) ∧
       ∃ u, exec (.swapFixPointTimeout t) s = .next (settle s u 0) ∧ swapped u)) ∧
  (∀ (s : State) (t : Fin 12) (r : LaserRead), s.tiles[t].lasers[r.laser].st = .operating →
     (r.driverOk = false ∨ r.ppm < 500000 → exec (.laserPowerLoop t [r]) s = exec (.laserFail t r.laser) s) ∧
     (r.driverOk = true → 500000 ≤ r.ppm → s.tiles[t].lasers[r.laser].bias < 680 →
       (r.ppm < 999000 → exec (.laserPowerLoop t [r]) s = .next (settle s (updTile t (Tile.await (.bias r.laser true)) s) 0)) ∧
       (1001000 < r.ppm → 0 < s.tiles[t].lasers[r.laser].bias →
         exec (.laserPowerLoop t [r]) s = .next (settle s (updTile t (Tile.await (.bias r.laser false)) s) 0)) ∧
       (999000 ≤ r.ppm → r.ppm ≤ 1001000 → exec (.laserPowerLoop t [r]) s = .next (settle s s 0)))) ∧
  (∀ (s : State) (t : Fin 12) (l : Fin 72), (∀ c : Fin 4, s.tiles[t].cores[c].faulty = []) →
     (s.tiles[t].pend = [.bias l true] → s.tiles[t].lasers[l].st = .operating → s.tiles[t].lasers[l].bias < 680 →
       s.tiles[t].dark.getLsbD (laserChan s.tiles[t] l).val = false →
       ∃ u, exec (.tileFixPoint t) s = .next (settle s u 0) ∧ u.tiles[t].pend = [] ∧
         u.tiles[t].lasers[l].bias = s.tiles[t].lasers[l].bias + 1 ∧ u.tiles[t].lasers[l].set = s.tiles[t].lasers[l].bias + 1 ∧
         u.tiles[t].lasers[l].st = if s.tiles[t].lasers[l].bias = 679 then .fading else .operating) ∧
     (s.tiles[t].pend = [.seed] → ∃ u, exec (.fixPointLimitExpiry t) s = .next (settle s u 0) ∧
       u.tiles[t].cal.madeFp = s.tiles[t].cal.madeFp + 1 ∧ u.tiles[t].pend = []))

/-- Threading gives a ring the order and the point of the peak that its sweep assigned to it, and ends in step 3; a ring without
such a peak has its row quarantined; on a chiplet that is not sound the tile is out of service (R151, R152, R190). A
contact-sheet map goes to the bank of its number's parity, the generation counts it, and it is held against the tile's sensors
(R167, R168, R367). An open fibre returns PT0 to its own lasers (R178): FOGGED with its probes free to run, EN 0, STATUS 3, the
return path closed. A root PLL that loses lock is counted and fogs the LOCKED tiles its die serves (R34, R35); its relock lets
their probes run (R163); a loss past its limit puts the module in FAULT for the IOD and a hub die, and QUARANTINES a converter
die's tile (R469). -/
def Obligations.ThreadingFibreAndRootPlls : Prop :=
  (∀ (s : State) (t : Fin 12),
     (s.tiles[t].st = .threading → s.tiles[t].cal.step = 2 →
       (∀ (r : RingThread) (p : DropPeak), (∃ c : Fin 4, s.tiles[t].cores[c].st ≠ .retired) →
         assignPeak s.tiles[t].temps r (s.tiles[t].ring (ringKey r.core.val r.row.val r.ch.val)) = some p →
         ∃ u, exec (.threadingDone t [r] true) s = .next (settle s u 0) ∧ u.tiles[t].st = .threading ∧ u.tiles[t].cal.step = 3 ∧
           (u.tiles[t].ring (ringKey r.core.val r.row.val r.ch.val)).order = some (p.place / 64) ∧
           (u.tiles[t].ring (ringKey r.core.val r.row.val r.ch.val)).point = p.current ∧
           (u.tiles[t].ring (ringKey r.core.val r.row.val r.ch.val)).dq = 0) ∧
       (∀ r : RingThread, (∃ c : Fin 4, c ≠ r.core ∧ s.tiles[t].cores[c].st ≠ .retired) →
         assignPeak s.tiles[t].temps r (s.tiles[t].ring (ringKey r.core.val r.row.val r.ch.val)) = none →
         ∃ u, exec (.threadingDone t [r] true) s = .next (settle s u 0) ∧ u.tiles[t].st = .threading ∧ u.tiles[t].cal.step = 3 ∧
           u.tiles[t].cores[r.core].rows[r.row].quar = true) ∧
       (∀ rings : List RingThread, ∃ u, exec (.threadingDone t rings false) s = .next u ∧ u.tiles[t].outOfService = true ∧
         (s.mod.mstate ≠ .calibrating → u.tiles[t].st = .quarantined))) ∧
     (∀ temps : List Int, s.tiles[t].st = .locked ∨ s.tiles[t].st = .fogged →
       let m := (List.range 17152).filterMap (sheetEntry s.tiles[t] temps)
       ((s.tiles[t].csGen + 1).getLsbD 0 = true → exec (.contactSheetMap t temps) s = .next (settle s
         (judgeSheet t (updTile t (fun x => { x with bank1 := m, csGen := x.csGen + 1 }) s)) 0)) ∧
       ((s.tiles[t].csGen + 1).getLsbD 0 = false → exec (.contactSheetMap t temps) s = .next (settle s
         (judgeSheet t (updTile t (fun x => { x with bank0 := m, csGen := x.csGen + 1 }) s)) 0)))) ∧
  (∀ s : State, s.tiles[(0 : Fin 12)].rli = true → s.tiles[(0 : Fin 12)].st = .locked →
     ∃ u, exec .openFibre s = .next u ∧ u.tiles[(0 : Fin 12)].rli = false ∧ u.tiles[(0 : Fin 12)].st = .fogged ∧
       u.tiles[(0 : Fin 12)].mayProbe = true ∧ u.mod.rliEn = false ∧ u.mod.rliStatus = 3 ∧ u.mod.rliReturn = false) ∧
  (∀ (s : State) (d : Die) (t : Fin 12),
     (d ∉ s.mod.pllLost → s.mod.rails = true → s.mod.lockLoss < 255 → s.tiles[t].st = .locked → t ∈ dieTiles d →
       ∃ u, exec (.rootPllLockLoss d) s = .next u ∧ u.mod.pllLost = d :: s.mod.pllLost ∧ u.mod.lockLoss = s.mod.lockLoss + 1 ∧
         u.tiles[t].st = .fogged ∧ u.tiles[t].fogCause = some .pll) ∧
     (s.mod.pllLost = [d] → s.tiles[t].st = .fogged → s.tiles[t].fogCause = some .pll → t ∈ dieTiles d →
       ∃ u, exec (.rootPllRelock d) s = .next u ∧ u.mod.pllLost = [] ∧ u.tiles[t].mayProbe = true) ∧
     (d ∈ s.mod.pllLost → s.mod.mstate ≠ .fault →
       (d = .iod → ∃ u, exec (.pllLossPersist d) s = .next u ∧ u.mod.mstate = .fault ∧ u.mod.faultCause = 4 ∧ u.mod.faultInst = 0) ∧
       (∀ h, d = .hub h → ∃ u, exec (.pllLossPersist d) s = .next u ∧ u.mod.mstate = .fault ∧ u.mod.faultCause = 5 ∧
         u.mod.faultInst = h.val) ∧
       (d = .converter t → s.tiles[t].st = .fogged → ∃ u, exec (.pllLossPersist d) s = .next u ∧ u.tiles[t].st = .quarantined)))

/-- A seam port delivers a flit that passes its checks once, in order; a flit out of order is not delivered; one that fails a
check is not delivered, and its sender replays it and those after it; a tag that fails on four consecutive attempts takes the
link DOWN with an integrity event (R169, R170). The light reaches the far end of through-paths (R174). The oldest flit without
acknowledgement is replayed, and after its eighth replay in succession the port is to retrain (R170). A lane with loss of
signal, or above the error ratio, marks its group for dropping at the next retrain, and a needed drop at 8 lanes takes both ends
DOWN (R171); after 100 µs both tiles make a fix point and the link goes on without the groups that either end has marked, or
that fail the training (R172). A switch reconfiguration takes effect at once where no flit on its paths is unacknowledged and no
retrain waits, and otherwise waits (R174, R205); a path to a port without a partner is not set. -/
def Obligations.SeamsAndSwitch : Prop :=
  (∀ (s : State) (t u : Fin 12) (p q : Fin 4) (f : Flit) (y : Seam), t ≠ u → farEnd s 3 t p = some (u, q) →
     s.tiles[t].seams[p].st = .active → s.tiles[t].seams[p].halted = false → s.tiles[t].through p = none →
     s.tiles[u].seams[q].halted = false → Seam.sent f s.tiles[u].seams[q] = some y →
     (f.fecOk = true → f.crcOk = true → f.tagOk = true →
       ∃ w, exec (.seamFlitReceive t p f) s = .next w ∧ w.tiles[u].seams[q] = y ∧
         (f.seqNo = s.tiles[t].seams[p].rxSeq →
           w.tiles[t].seams[p].rx = { seqNo := f.seqNo, kind := f.kind, cls := f.cls, payload := f.payload } :: s.tiles[t].seams[p].rx ∧
           w.tiles[t].seams[p].rxSeq = s.tiles[t].seams[p].rxSeq + 1) ∧
         (f.seqNo ≠ s.tiles[t].seams[p].rxSeq → w.tiles[t].seams[p].rx = s.tiles[t].seams[p].rx ∧
           w.tiles[t].seams[p].rxSeq = s.tiles[t].seams[p].rxSeq)) ∧
     (f.fecOk = false ∨ f.crcOk = false →
       ∃ w, exec (.seamFlitReceive t p f) s = .next w ∧ w.tiles[t].seams[p].rx = s.tiles[t].seams[p].rx ∧
         w.tiles[t].seams[p].rxSeq = s.tiles[t].seams[p].rxSeq ∧
         w.tiles[u].seams[q].replay = y.replay + BitVec.ofNat 32 (y.unacked.filter (fromSeq f.seqNo)).length) ∧
     (f.fecOk = true → f.crcOk = true → f.tagOk = false → s.tiles[t].seams[p].tagSeq = f.seqNo → s.tiles[t].seams[p].tagFails = 3 →
       ∀ (v : Fin 12) (r : Fin 4), partner t p = some (v, r) →
       ∃ w, exec (.seamFlitReceive t p f) s = .next w ∧ w.tiles[t].seams[p].st = .down ∧ w.tiles[v].seams[r].st = .down ∧
         .seamIntegrity t.val p.val ∈ w.notes)) ∧
  (∀ (s : State) (t : Fin 12) (p : Fin 4) (f : FlitRec) (l : List FlitRec), s.tiles[t].seams[p].st = .active →
     s.tiles[t].seams[p].unacked = f :: l → (∀ g ∈ l, g.seqNo ≠ f.seqNo ∧ g.tries < 8) →
     let again := updTile t (Tile.updSeam p (fun m => { m with replay := m.replay + 1, unacked := { f with tries := f.tries + 1 } :: l })) s
     (f.tries < 7 → exec (.seamAckTimeout t p) s = .next (settle s again 0)) ∧
     (7 ≤ f.tries → exec (.seamAckTimeout t p) s = .next (settle s (requestRetrain t p again) 0))) ∧
  (∀ (s : State) (t u : Fin 12) (p q : Fin 4) (lane : Fin 16), partner t p = some (u, q) →
     s.tiles[t].seams[p].st = .active →
     (s.tiles[t].seams[p].groups.getLsbD (lane.val / 4) = true → (marked s t p).getLsbD (lane.val / 4) = false →
       (2 < groupCount (s.tiles[t].seams[p].groups &&& ~~~marked s t p) →
         exec (.seamLaneLos t p lane) s = .next (settle s (requestRetrain t p (updTile t (Tile.updSeam p (fun m =>
           { m with drop := m.drop ||| (1#4 <<< (lane.val / 4)), halted := true })) s)) 0)) ∧
       (groupCount (s.tiles[t].seams[p].groups &&& ~~~marked s t p) ≤ 2 →
         ∃ w, exec (.seamLaneLos t p lane) s = .next w ∧ w.tiles[t].seams[p].st = .down ∧ w.tiles[u].seams[q].st = .down) ∧
       (lane.val = 0 → 2 < groupCount (s.tiles[t].seams[p].groups &&& ~~~marked s t p) →
         exec (.seamErrorWindow t p [(1, 100)]) s = .next (settle s (requestRetrain t p (updTile t (Tile.updSeam p (fun m =>
           { m with drop := m.drop ||| 1#4 })) s)) 0))) ∧
     (s.tiles[u].seams[q].groups = s.tiles[t].seams[p].groups → s.tiles[u].seams[q].st = .active →
       s.tiles[t].pend = [.retrain p] → s.tiles[u].pend = [.retrain q] →
       (∀ c : Fin 4, s.tiles[t].cores[c].faulty = [] ∧ s.tiles[u].cores[c].faulty = []) →
       let want := s.tiles[t].seams[p].groups &&& ~~~(s.tiles[t].seams[p].drop ||| s.tiles[u].seams[q].drop)
       ∃ w, exec (.seamRetrainTimeout t p) s = .next (settle s w 0) ∧ w.tiles[t].pend = [] ∧ w.tiles[u].pend = [] ∧
         w.tiles[t].cal.madeFp = s.tiles[t].cal.madeFp + 1 ∧ w.tiles[u].cal.madeFp = s.tiles[u].cal.madeFp + 1 ∧
         w.tiles[t].seams[p].groups &&& ~~~want = 0 ∧ w.tiles[u].seams[q].groups = w.tiles[t].seams[p].groups ∧
         w.tiles[t].seams[p].drop = 0 ∧ w.tiles[t].seams[p].halted = false ∧
         let kept := trainGroups 4 s.free want
         if 2 ≤ groupCount kept then w.tiles[t].seams[p].groups = kept ∧ w.tiles[t].seams[p].st = .active
         else w.tiles[t].seams[p].st = .down)) ∧
  (∀ (s : State) (t : Fin 12) (paths : List (Fin 6 × Fin 6)),
     (pathsOk s t paths = true →
       let old := s.tiles[t].pend.filter (·.order != 5)
       (pathBusy s t (paths ++ s.tiles[t].paths) = false → (∀ c ∈ s.tiles[t].pend, c.order ≠ 4) →
         exec (.switchReconfiguration t paths) s = .next (settle s
           (updTile t (fun x => { x with paths := paths, pathsWant := none, pend := old }) s) 0)) ∧
       (pathBusy s t (paths ++ s.tiles[t].paths) = true →
         exec (.switchReconfiguration t paths) s = .next (settle s
           (updTile t (fun x => { x with pathsWant := some paths, pend := old ++ [.reconfigure paths] }) s) 0))) ∧
     (∀ (a b : Fin 6) (p : Fin 4), (a, b) ∈ paths → endPort a = some p → unpartnered t.val p.val = true →
       exec (.switchReconfiguration t paths) s = .next (settle s s 0)))

/-- The ten ports without a partner stay UNPARTNERED whatever the block does (R18, R186). -/
def Obligations.UnpartneredPortsStayShut : Prop :=
  ∀ s t : State, s.portsOk = true → step s = .next t → t.portsOk = true

/-- LOAD_PATTERN reads the file and the spool list, checks them in order, and either ends with the status of the first check
that fails (R229), or places the pattern, and completes with OK and INFO its handle once its pieces are placed and its resident
blocks written (R231); before READY it is held with its checks made, and is placed later (R322). UNLOAD_PATTERN takes the
pattern, its cores, cache, frames and trackers away and completes with OK (R231, R138). RUN_PATTERN starts a work item of a
loaded pattern, with its number, the exponents fixed for it and its whole input to fetch (R343, R130, R298); an address above
2⁵² gives ACCESS_FAULT (R260), regions that are too small DESC_INVALID (R343), an analog pattern in SAFELIGHT MODE_REJECTED
(R41, R466), a handle that is not runnable PATTERN_INVALID. -/
def Obligations.PatternsAndWorkItems : Prop :=
  (∀ (s : State) (q seq : Nat) (hs : List Cell) (rsp : Rsp) (x : Queue) (c : Ctx) (e : Entry),
     (let s1 := seeHost hs s
      Turn s1 0x02 q seq x c e → (∀ p ∈ s.pats, p.byQueue = q → p.bySeq = seq → p.runnable = true) → e.st ≠ .begun →
       (vaultRefuses s1 = true → (desc16 e.desc 32 ≠ 0 ∨ descByte e.desc 34 ≠ 0) →
         exec (.loadPattern q seq hs rsp) s = .next (settle s (finish q seq .notPermitted 0 s1) 0)) ∧
       (vaultRefuses s1 = false → (desc16 e.desc 32 = 0 → hostWaits s1 c (desc64 e.desc 16) (desc64 e.desc 24) = false) →
         (descByte e.desc 34 ≠ 0 → hostWaits s1 c (desc64 e.desc 40) (2 * descByte e.desc 34) = false) →
         let met := noteFile c e.desc rsp s1
         (∀ st i, readFile s1 c e.desc rsp = .error (st, i) →
           exec (.loadPattern q seq hs rsp) s = .next (settle s (finish q seq st i (if st == .dataUncorrectable then met else s1)) 0)) ∧
         (∀ f st i, readFile s1 c e.desc rsp = .ok f → spoolList met c e.desc = .error (st, i) →
           exec (.loadPattern q seq hs rsp) s = .next (settle s (finish q seq st i met) 0)) ∧
         (∀ f ids, readFile s1 c e.desc rsp = .ok f → spoolList met c e.desc = .ok ids →
           (∀ st i, loadCheck met c e.desc f ids = some (st, i) →
             exec (.loadPattern q seq hs rsp) s = .next (settle s (finish q seq st i met) 0)) ∧
           (loadCheck met c e.desc f ids = none → let s2 := admitPattern q seq c e.desc f ids met
             (beforeReady s = true → exec (.loadPattern q seq hs rsp) s = .next (settle s (hold q seq s2) 0)) ∧
             (beforeReady s = false → ∀ p ∈ s2.pats, p.byQueue = q → p.bySeq = seq → p.runnable = false →
               let s3 := begin_ q seq (placePattern p.ctx p.handle s2)
               p.file = f ∧ exec (.loadPattern q seq hs rsp) s = .next (settle s (loadFollow s3) 0) ∧
               (∀ y ∈ s3.pats, y.byQueue = q → y.bySeq = seq → y.runnable = false → loadComplete s3 y = true →
                 ∃ r, ((loadFollow s3).queue? q).bind (·.entry? seq) = some r ∧ r.st = .finished ∧ r.status = .ok ∧
                   r.info = y.handle)))))) ∧
     (let s1 := seeHost hs s
      Turn s1 0x02 q seq x c e → beforeReady s = false → e.st ≠ .begun → ∀ p,
       s.pats.find? (fun p => p.byQueue == q && p.bySeq == seq && !p.runnable) = some p →
       exec (.loadPattern q seq hs rsp) s = .next (settle s (loadFollow (begin_ q seq (placePattern p.ctx p.handle s1))) 0)) ∧
     (Turn s 0x03 q seq x c e →
       (∀ p, s.pat? c.num e.handle = some p → p.runnable = true →
         exec (.unloadPattern q seq) s = .next (settle s (finish q seq .ok 0
           (let s2 := tidyCores (dropPattern c.num e.handle s)
            { s2 with tailor := { s2.tailor with
               freed := (List.finRange 48).filter p.onCore, moved := [], rebalance := false } })) 0)) ∧
       ((∀ p, s.pat? c.num e.handle = some p → p.runnable = false) →
         exec (.unloadPattern q seq) s = .next (settle s (finish q seq .patternInvalid 0 s) 0)))) ∧
  (∀ (s : State) (q seq : Nat) (hs : List Cell) (x : Queue) (c : Ctx) (e : Entry), let s1 := seeHost hs s
     Turn s1 0x01 q seq x c e → e.st ≠ .begun →
     ((∀ p, s1.pat? c.num e.handle = some p → p.runnable = false) →
       exec (.runPattern q seq hs) s = .next (settle s (finish q seq .patternInvalid 0 s1) 0)) ∧
     (∀ p, s1.pat? c.num e.handle = some p → p.runnable = true →
       (2 ^ 52 ≤ desc64 e.desc 24 →
         exec (.runPattern q seq hs) s = .next (settle s (finish q seq .accessFault (desc64 e.desc 24) s1) 0)) ∧
       (desc64 e.desc 24 < 2 ^ 52 → 2 ^ 52 ≤ desc64 e.desc 40 →
         exec (.runPattern q seq hs) s = .next (settle s (finish q seq .accessFault (desc64 e.desc 40) s1) 0)) ∧
       (desc64 e.desc 24 < 2 ^ 52 → desc64 e.desc 40 < 2 ^ 52 →
         (desc64 e.desc 32 < inputSize p.file ∨ desc64 e.desc 48 < outputSize p.file →
           exec (.runPattern q seq hs) s = .next (settle s (finish q seq .descInvalid 0 s1) 0)) ∧
         (inputSize p.file ≤ desc64 e.desc 32 → outputSize p.file ≤ desc64 e.desc 48 →
           (s.mod.mstate = .safelight → patAnalog p.file = true →
             exec (.runPattern q seq hs) s = .next (settle s (finish q seq .modeRejected 0 s1) 0)) ∧
           ((s.mod.mstate = .safelight → patAnalog p.file = false) → let t := trackerOf s p.file e.handle q
             let k := workNumber t x e.handle seq
             exec (.runPattern q seq hs) s = .next (settle s (requestExperts (pump (bufFollow (draw (begin_ q seq { s1 with
               works := s1.works ++ [{ q := q, seq := seq, ctx := c.num, pat := e.handle, k := k
                                       exps := t.slots.map (slotExp t.frozen k), toFetch := inputChunks p.file
                                       ahead := aheadTaken s.free (aheadChunks p.file (desc64 e.desc 32)) }] }))))) 0))))))

/-- A COPY or FILL to DVAs moves 2 MiB segments in order, staging each in full before it writes, and completes with OK and INFO
the number of whole segments (R294, R344, R350); a segment that faults, or whose source read failed, ends it with its status,
and no byte of that segment is written; ranges of a COPY that overlap give DESC_INVALID. One of at most 2 MiB writes exactly the
bytes it read, or its value repeated. A COPY or FILL into a spool begins one transaction: its bytes wait for the commit record,
and the space that it replaces is reserved (R276, R278); one behind another write of the spool waits for it (R277). Writes of a
context to its spool are refused while they are held for temperature (TEMP_HOLD, R280). -/
def Obligations.CopyFillAndSpoolWrites : Prop :=
  (∀ (s : State) (q seq : Nat) (hs : List Cell) (x : Queue) (c : Ctx) (e : Entry), let s1 := seeHost hs s
     let src := desc64 e.desc 16
     let dst := desc64 e.desc 24
     let len := desc64 e.desc 32
     Turn s1 0x04 q seq x c e → e.st ≠ .begun → desc16 e.desc 40 = 0 → desc16 e.desc 42 = 0 → 0 < len → len ≤ 2 ^ 21 →
     dst + len ≤ src ∨ src + len ≤ dst → rangeFault s1 c src len false = none → rangeFault s1 c dst len true = none →
     hostWaits s1 c src len = false → hostWaits s1 c dst len = false → badDva s1 c src len = none →
     exec (.copy q seq hs none) s = .next (settle s
       (finish q seq .ok (len / segBytes) (storeDva c dst true (dvaReadN s1 c src len) s1)) 0)) ∧
  (∀ (s : State) (q seq : Nat) (x : Queue) (c : Ctx) (e : Entry),
     let dst := desc64 e.desc 16
     let len := desc64 e.desc 24
     Turn s 0x05 q seq x c e → e.st ≠ .begun → desc16 e.desc 40 = 0 → 0 < len → len ≤ 2 ^ 21 →
     rangeFault s c dst len true = none → hostWaits s c dst len = false →
     exec (.fill q seq) s = .next (settle s
       (finish q seq .ok (len / segBytes) (storeDva c dst true (fillBytes (desc64 e.desc 32) len) s)) 0)) ∧
  (∀ (s : State) (q seq : Nat) (hs : List Cell) (bad : Option (Nat × Rsp)) (x : Queue) (c : Ctx) (e : Entry),
     (let s1 := seeHost hs s
      let src := desc64 e.desc 16
      let dst := desc64 e.desc 24
      let len := desc64 e.desc 32
      let one := fun (fromDva : Bool) (off : Nat) (bad : Option (Nat × Rsp)) (k : Nat) =>
        segError s1 c fromDva src dst off (min segBytes (len - off)) bad k
      Turn s1 0x04 q seq x c e → e.st ≠ .begun →
       (desc16 e.desc 40 = desc16 e.desc 42 → src < dst + len → dst < src + len →
         exec (.copy q seq hs bad) s = .next (settle s (finish q seq .descInvalid 0 s1) 0)) ∧
       (desc16 e.desc 42 = 0 → hostWaits s1 c dst len = false →
         (desc16 e.desc 40 = 0 → (dst + len ≤ src ∨ src + len ≤ dst) → hostWaits s1 c src len = false →
           let met := readMeets s1 c src len bad
           (∀ st i, 0 < len → one true 0 met 0 = some (st, i) →
             exec (.copy q seq hs bad) s = .next (settle s (finish q seq st i (noteSegment c true src 0 (min segBytes len)
               (if (one true 0 none 0).isNone then met else none) s1)) 0)) ∧
           ((∀ k, k * segBytes < len → one true (k * segBytes) met k = none) →
             ∃ u, exec (.copy q seq hs bad) s = .next (settle s (finish q seq .ok (len / segBytes) u) 0) ∧
               { u with host := s1.host, hbm := s.hbm, lp := s.lp, posted := s.posted, bad := s.bad
                        hbmCorr := s.hbmCorr, lpCorr := s.lpCorr } = s1)) ∧
         (∀ y : Spool, desc16 e.desc 40 ≠ 0 → srcSpool s1 c (desc16 e.desc 40) src len = .ok y →
           let met := vaultBad s1 (desc16 e.desc 40) src len bad
           (∀ st i, 0 < len → one false 0 met 0 = some (st, i) →
             exec (.copy q seq hs bad) s = .next (settle s (finish q seq st i (vaultMet (desc16 e.desc 40) src met s1)) 0)) ∧
           ((∀ k, k * segBytes < len → one false (k * segBytes) met k = none) →
             ∃ u, exec (.copy q seq hs bad) s = .next (settle s (finish q seq .ok (len / segBytes) u) 0) ∧
               { u with host := s1.host, hbm := s.hbm, lp := s.lp, posted := s.posted, bad := s.bad, vault := s.vault } = s1 ∧
               (0 < len → len ≤ segBytes → met = none → u = storeDva c dst true (memReadN y.data src len) s1))))) ∧
     (let dst := desc64 e.desc 16
      let len := desc64 e.desc 24
      Turn s 0x05 q seq x c e → e.st ≠ .begun → desc16 e.desc 40 = 0 →
       (2 ^ 52 ≤ dst → exec (.fill q seq) s = .next (settle s (finish q seq .accessFault dst s) 0)) ∧
       (dst < 2 ^ 52 → hostWaits s c dst len = false →
         (∀ k, k * segBytes < len → segError s c false 0 dst (k * segBytes) (min segBytes (len - k * segBytes)) none k = none) →
         ∃ u, exec (.fill q seq) s = .next (settle s (finish q seq .ok (len / segBytes) u) 0) ∧
           { u with host := s.host, hbm := s.hbm, lp := s.lp, posted := s.posted, bad := s.bad } = s))) ∧
  (∀ (s : State) (q seq : Nat) (x : Queue) (c : Ctx) (e : Entry) (y : Spool) (id off : Nat) (bs : List Byte) (hs : List Cell),
     let s1 := seeHost hs s
     vaultRefuses s = false → s.spool? id = some y → y.ctx = some c.num → y.closing = false → off % 4096 = 0 → bs.length % 4096 = 0 →
     off + bs.length ≤ y.size * 2 ^ 26 → e.st ≠ .begun →
     let inside := min y.length (off + bs.length) - min y.length off
     let w : Xact := { q := q, seq := seq, spool := id, off := off, len := bs.length, data := memWriteN [] off bs
                       space := 0, copies := 0, started := false }
     let begun := fun (z : State) => begin_ q seq { z with vault := { z.vault with
       writes := z.vault.writes ++ [{ w with started := true, space := inside }], xact := z.vault.xact - inside } }
     let waits := fun (z : State) => begin_ q seq { z with vault := { z.vault with writes := z.vault.writes ++ [w] } }
     (Turn s 0x05 q seq x c e → id = desc16 e.desc 40 → id ≠ 0 → off = desc64 e.desc 16 →
       bs = fillBytes (desc64 e.desc 32) (desc64 e.desc 24) →
       (s.vault.writeHold = true → exec (.fill q seq) s = .next (settle s (finish q seq .tempHold 0 s) 0)) ∧
       (s.vault.writeHold = false → s.vault.st ≠ 3 → s.vault.holdup = true →
         ((∀ v ∈ s.vault.writes, v.spool ≠ id) → inside ≤ s.vault.xact → exec (.fill q seq) s = .next (settle s (begun s) 0)) ∧
         (∀ v ∈ s.vault.writes, v.spool = id → exec (.fill q seq) s = .next (settle s (waits s) 0)))) ∧
     (Turn s1 0x04 q seq x c e → id = desc16 e.desc 42 → id ≠ 0 → off = desc64 e.desc 24 →
       ((desc16 e.desc 40 = 0 ∧ hostWaits s1 c (desc64 e.desc 16) (desc64 e.desc 32) = false ∧
           badDva s1 c (desc64 e.desc 16) (desc64 e.desc 32) = none ∧
           srcDva s1 c (desc64 e.desc 16) (desc64 e.desc 32) none = .ok bs) ∨
         (desc16 e.desc 40 ≠ 0 ∧ (desc16 e.desc 40 = id →
             desc64 e.desc 16 + desc64 e.desc 32 ≤ off ∨ off + desc64 e.desc 32 ≤ desc64 e.desc 16) ∧ ∃ z : Spool,
           srcSpool s1 c (desc16 e.desc 40) (desc64 e.desc 16) (desc64 e.desc 32) = .ok z ∧
           badCw s1 (desc16 e.desc 40) (desc64 e.desc 16) (desc64 e.desc 32) = none ∧
           bs = memReadN z.data (desc64 e.desc 16) (desc64 e.desc 32))) →
       (s.vault.writeHold = true → exec (.copy q seq hs none) s = .next (settle s (finish q seq .tempHold 0 s1) 0)) ∧
       (s.vault.writeHold = false → s.vault.st ≠ 3 → s.vault.holdup = true →
         ((∀ v ∈ s.vault.writes, v.spool ≠ id) → inside ≤ s.vault.xact →
           exec (.copy q seq hs none) s = .next (settle s (begun s1) 0)) ∧
         (∀ v ∈ s.vault.writes, v.spool = id → exec (.copy q seq hs none) s = .next (settle s (waits s1) 0)))))

/-- SCALE_FREEZE 1 freezes each slot of the pattern's tracker at the exponent in force, and 0 thaws it with each slot's exponent
for its first D items and an empty window; one that matches the mode changes nothing (R135). SCALE_SET gives the listed
slots their exponents and empties every window; a slot that is not declared, or a value outside its range, gives
PATTERN_INVALID (R136). EXPERT_HINT prefetch queues the listed experts that are not cached or queued, and completes with OK
and INFO pins made and refused (R255, R350). The request at the head of an expert queue is served into the hot tier where
room can be had; one that the vault holds for temperature, or whose read fails, ends the work items that wait for it (R254,
R280). -/
def Obligations.TrackersAndExperts : Prop :=
  (∀ (s : State) (q seq : Nat) (x : Queue) (c : Ctx) (e : Entry) (p : Pattern),
     s.pat? c.num e.handle = some p → p.runnable = true → let t := trackerOf s p.file e.handle q
     (Turn s 0x09 q seq x c e →
       ((descByte e.desc 18 % 2 = 1 ↔ t.frozen = true) →
         exec (.scaleFreeze q seq) s = .next (settle s (finish q seq .ok 0 (putTracker t s)) 0)) ∧
       (descByte e.desc 18 % 2 = 1 → t.frozen = false →
         exec (.scaleFreeze q seq) s = .next (settle s (finish q seq .ok 0 (putTracker
           { t with frozen := true, slots := t.slots.map fun y => { exps := [y.exps.getD t.count (y.exps.getLastD 0)] } } s)) 0)) ∧
       (descByte e.desc 18 % 2 = 0 → t.frozen = true →
         exec (.scaleFreeze q seq) s = .next (settle s (finish q seq .ok 0 (putTracker
           { t with
             frozen := false, count := 0
             slots := t.slots.mapIdx fun i y =>
               { exps := List.replicate (trackD (trackWord p.file i)) (y.exps.headD 0) } } s)) 0))) ∧
     (Turn s 0x0A q seq x c e →
       (scaleSetOk p.file e.desc = false → exec (.scaleSet q seq) s = .next (settle s (finish q seq .patternInvalid 0 s) 0)) ∧
       (scaleSetOk p.file e.desc = true → t.frozen = false →
         exec (.scaleSet q seq) s = .next (settle s (finish q seq .ok 0 (putTracker
           { t with
             count := 0
             slots := t.slots.mapIdx fun i y =>
               { exps := List.replicate (trackD (trackWord p.file i)) (if e.desc.getLsbD (160 + i)
                   then signedOf 8 (descByte e.desc (24 + i)) else y.exps.getD t.count (y.exps.getLastD 0)) } } s)) 0)) ∧
       (scaleSetOk p.file e.desc = true → t.frozen = true →
         exec (.scaleSet q seq) s = .next (settle s (finish q seq .ok 0 (putTracker
           { t with
             count := 0
             slots := t.slots.mapIdx fun i y =>
               { exps := [if e.desc.getLsbD (160 + i) then signedOf 8 (descByte e.desc (24 + i)) else y.exps.headD 0] } } s)) 0)))) ∧
  ((∀ (s : State) (q seq : Nat) (hs : List Cell) (x : Queue) (c : Ctx) (e : Entry) (p : Pattern), let s1 := seeHost hs s
     Turn s1 0x06 q seq x c e → s.pat? c.num e.handle = some p → p.runnable = true →
     hostWaits s1 c (desc64 e.desc 24) (4 * desc32 e.desc 20) = false →
     (∀ a, rangeFault s1 c (desc64 e.desc 24) (4 * desc32 e.desc 20) false = some a →
       exec (.expertHint q seq hs) s = .next (settle s (finish q seq .accessFault a s1) 0)) ∧
     (rangeFault s1 c (desc64 e.desc 24) (4 * desc32 e.desc 20) false = none → desc32 e.desc 20 = 1 → ∀ r,
       expertRec p.file (desc16 e.desc 32) (leNat (dvaReadN s1 c (desc64 e.desc 24) 4)) = some r →
       expertHot p r = false → (∀ f ∈ p.fetches, f.expert ≠ r) →
       (descByte e.desc 18 = 0 →
         exec (.expertHint q seq hs) s = .next (settle s (finish q seq .ok 0 (fetchFollow (updPat c.num e.handle (fun _ => { p with
           fetches := p.fetches ++ [{ expert := r, prefetch := true, pin := false, waiters := [] }] }) s1))) 0)) ∧
       (descByte e.desc 18 = 1 → isPinned p r = false →
         (4 * (pinnedBytes p + expertLen p.file r) ≤ 3 * (p.hot * 2 ^ 26) →
           exec (.expertHint q seq hs) s = .next (settle s (finish q seq .ok 1 (fetchFollow (updPat c.num e.handle (fun _ => { p with
             fetches := p.fetches ++ [{ expert := r, prefetch := true, pin := true, waiters := [] }] }) s1))) 0)) ∧
         (3 * (p.hot * 2 ^ 26) < 4 * (pinnedBytes p + expertLen p.file r) →
           exec (.expertHint q seq hs) s = .next (settle s (finish q seq .ok (2 ^ 32) (fetchFollow (updPat c.num e.handle (fun _ =>
             { p with fetches := p.fetches ++ [{ expert := r, prefetch := true, pin := false, waiters := [] }] }) s1))) 0))))) ∧
   (∀ (s : State) (h n : Nat) (rsp : Rsp) (p : Pattern) (r : ExpertReq) (rest : List ExpertReq),
     s.pats.find? (·.handle == h) = some p → p.fetches = r :: rest → r.expert = n →
     let warm := p.cache.any fun y => y.expert == n && !y.hot
     let kept := p.cache.filter (·.expert != n)
     (warm = false → vaultRefuses s = true →
       exec (.expertFetchDone h n rsp) s = .next (settle s (fetchFollow (failFetch p r .notPermitted 0 s)) 0)) ∧
     (warm = false → vaultRefuses s = false → vaultPending s = false → s.vault.readHold = true →
       exec (.expertFetchDone h n rsp) s = .next (settle s (fetchFollow (failFetch p r .tempHold 0 s)) 0)) ∧
     let id := p.spools.getD (expertSpool p.file n) 0
     let met := if warm then some (0, rsp) else vaultBad s id (expertFrom p.file n) (expertLen p.file n) (some (0, rsp))
     let s2 := if warm then (if rsp == .corrected then countCorrected 2 s else s) else vaultMet id (expertFrom p.file n) met s
     (warm = true ∨ (vaultRefuses s = false ∧ vaultPending s = false ∧ s.vault.readHold = false) →
       (readFails met = true →
         exec (.expertFetchDone h n rsp) s = .next (settle s (fetchFollow (failFetch p r .dataUncorrectable 0 s2)) 0)) ∧
       (readFails met = false → tierBytes { p with cache := kept } true + expertLen p.file n ≤ p.hot * 2 ^ 26 →
         exec (.expertFetchDone h n rsp) s = .next (settle s (fetchFollow (updPat p.ctx h (fun _ => { p with
           cache := kept ++ [{ expert := n, hot := true, pinned := r.pin, lastUse := (r.waiters.map (·.2)).foldl max 0, data := r.data }]
           fetches := p.fetches.filter (·.expert != n) }) s2)) 0)))))

/-- A feed-dog response frees its pin: a demand response writes its bytes into the work item's input, and one that came back
wrong ends the item; a run-ahead response is kept until something consumes it, and no error of it counts; a cancelled or late one
is counted as discarded (R291, R297–R299, R315). A host read that times out ends its
item with ACCESS_FAULT and INFO the DVA, and is logged by AER (R315). WRITE_OUT of a finished work item writes the next 4
KiB of its outputs (R292); outputs that do not translate end it with ACCESS_FAULT before anything is written (R265); the
last chunk completes it with OK, INFO2 the saturated elements (R126); a staged chunk that is lost makes the item run again
from its inputs with REPLAYED, or, where that fails, faults its context (R293, R462). Under ATS it asks first for the
translations that its outputs want (R312). -/
def Obligations.FeedDogsAndWriteOut : Prop :=
  (∀ (s : State) (id : Nat) (r : FdReq), s.reqs.find? (·.id == id) = some r →
     (∀ (hs : List Cell) (rsp : Rsp), let s1 := { seeHost hs s with reqs := s.reqs.filter (·.id != id) }
       ((r.cancelled || r.timedOut) = true →
         exec (.feedDogResponse id hs rsp) s = .next (settle s (requestExperts (pump
           (updCtx r.ctx (fun c => { c with discarded := c.discarded + 1 }) (timedOutAt r.fn r.target rsp s1)))) 0)) ∧
       (r.cancelled = false → r.timedOut = false →
         (r.demand = true → rsp = .ok → memBad s1 r.target r.addr r.len = false → ∀ c, s.ctx? r.ctx = some c →
           exec (.feedDogResponse id hs rsp) s = .next (settle s (requestExperts (pump (startRunning r.q r.seq
             (updWork r.q r.seq (fun w => { w with input := memWriteN w.input r.off (dvaReadN s1 c r.dva r.len) }) s1)))) 0)) ∧
         (r.demand = false →
           (rsp = .ok → memBad s1 r.target r.addr r.len = false → ∀ c, s.ctx? r.ctx = some c →
             exec (.feedDogResponse id hs rsp) s = .next (settle s (requestExperts (pump (updWork r.q r.seq (fun w => { w with
               unused := w.unused + 1
               got := if w.toFetch.any (·.1 == r.off) then (r.off, dvaReadN s1 c r.dva r.len) :: w.got else w.got }) s1))) 0)) ∧
           (rsp = .poisoned ∨ rsp = .unsupported ∨ rsp = .abort →
             exec (.feedDogResponse id hs rsp) s = .next (settle s (requestExperts (pump s1)) 0))) ∧
         (r.demand = true → rsp = .poisoned →
           exec (.feedDogResponse id hs rsp) s = .next (settle s (requestExperts (pump
             (errWork r.q r.seq .dataUncorrectable 0 s1))) 0)) ∧
         (r.demand = true → rsp = .uncorrectable →
           exec (.feedDogResponse id hs rsp) s = .next (settle s (requestExperts (pump
             (errWork r.q r.seq .dataUncorrectable 0 (noteRead r.target r.addr rsp s1)))) 0)) ∧
         (r.demand = true → rspStatus rsp = .accessFault →
           exec (.feedDogResponse id hs rsp) s = .next (settle s (requestExperts (pump
             (errWork r.q r.seq .accessFault r.dva (timedOutAt r.fn r.target rsp s1)))) 0)))) ∧
     (r.target = 0 → r.timedOut = false → r.cancelled = false → r.demand = true →
       exec (.completionTimeout id) s = .next (settle s (pump (errWork r.q r.seq .accessFault r.dva { s with
         reqs := updWhere (·.id == id) (fun x => { x with timedOut := true }) s.reqs
         link := { s.link with aer := (r.fn.val, 0) :: s.link.aer } })) 0))) ∧
  (∀ (s : State) (q seq : Nat) (w : Work) (y : Queue) (x : Pattern) (c : Ctx) (e : Entry) (rerunOk : Bool),
     s.work? q seq = some w → s.queue? q = some y → s.pat? w.ctx w.pat = some x → s.ctx? w.ctx = some c → y.entry? seq = some e →
     e.st = .begun → w.stage = .running → w.rerun = false → workDone x.file w = true → w.toFetch = [] →
     (∀ r ∈ s.reqs, r.q = q → r.seq = seq → r.demand = true → r.cancelled = true) → shuttleRuns s q = true →
     let base := desc64 e.desc 40
     (∀ a, outFault s c x.file base = some a →
       exec (.writeOut q seq true rerunOk) s = .next (settle s (failWork q seq .accessFault a s) 0)) ∧
     (outFault s c x.file base = none → outWanted s c x.file base = none → (outChunks x.file).length ≤ w.written →
       exec (.writeOut q seq true rerunOk) s = .next (settle s
         (finishFlags q seq .ok 0 w.sat { w.flags with
           saturated := 0 < w.sat, degraded := w.flags.degraded || s.mod.mstate == .safelight }
         (updWork q seq (fun _ => { w with stage := .writeOut }) s)) 0)) ∧
     (outFault s c x.file base = none → ∀ st off pos n, (outChunks x.file)[w.written]? = some (st, off, pos, n) →
       hostWaits s c (base + off) n = false → outWanted s c x.file base = none →
       let out := { w with stage := .writeOut }
       let z := updWork q seq (fun _ => out) s
       (rangeFault s c (base + off) n true = none → w.written + 1 < (outChunks x.file).length →
         exec (.writeOut q seq true rerunOk) s = .next (settle s
           (updWork q seq (fun _ => { out with written := w.written + 1 })
             (storeDva c (base + off) true (((streamData x.file out st).drop pos).take n) z)) 0)) ∧
       (rangeFault s c (base + off) n true = none → w.written + 1 = (outChunks x.file).length →
         exec (.writeOut q seq true rerunOk) s = .next (settle s
           (finishFlags q seq .ok 0 w.sat { w.flags with
             saturated := 0 < w.sat, degraded := w.flags.degraded || s.mod.mstate == .safelight }
           (updWork q seq (fun _ => { out with written := w.written + 1 })
             (storeDva c (base + off) true (((streamData x.file out st).drop pos).take n) z))) 0)) ∧
       exec (.writeOut q seq false true) s = .next (settle s (pump (updWork q seq (fun _ => { w with
         stage := .fetching, input := [], accs := [], passes := [], dealt := [], elems := [], vuOut := [], vuDone := [], obs := []
         sat := 0, ranAhead := false, got := [], toFetch := inputChunks x.file, rerun := true
         flags := { w.flags with replayed := true } }) (failCredit out st z))) 0) ∧
       exec (.writeOut q seq false false) s = .next (settle s (errWork q seq .contextFaulted 0 (failCredit out st z)) 0)) ∧
     (outFault s c x.file base = none → ∀ dva page, outWanted s c x.file base = some (dva, page) →
       exec (.writeOut q seq true rerunOk) s = .next (settle s
         (askPage { fn := c.owner, page := page, q := q, seq := seq, dva := dva, demand := true, write := true } s) 0)))

/-- WEIGHT_LOAD reads a block of a piece placed on the core, writes it and compares the sums the core forms with the stored
ones; a load that agrees, the second time at the latest, opens the gate unless its tile keeps it closed (R57, R59, R61). A
second mismatch keeps the gate closed, and every work item that needs the block ends with INTEGRITY_FAIL (R59, R242). A PASS
whose operands are there and whose samples decode without a doubtful level and with both parities right commits its sums and
counts one pass (R62, R92–R94, R101); an analog pass commits unchecked (R68); operands that the tray lost end the work item
with DATA_UNCORRECTABLE (R99). The vector units finish a piece on the fallback with the sums of its elements computed
directly, and the work item carries DEGRADED (R104, R239); a VU_ONLY piece runs its program there (R225); weights whose sums
disagree twice end every work item that needs the block with INTEGRITY_FAIL, and data that stays uncorrectable ends the item
(R59, R104, R108, R291). -/
def Obligations.LoadsPassesAndFallback : Prop :=
  (∀ (s : State) (core : Fin 48) (h p set pass : Nat) (x : Pattern) (own : Option Work) (bs : List Byte) (f1 f2 : List Cell),
     s.pats.find? (·.handle == h) = some x → mayLoad s x core = true → hostsSet x p set pass core = true →
     own = (if pieceDynamic x.file p = true ∨ pieceExpert x.file p = true then loadFor s x p set pass else none) →
     batchOpen s x p own = true → pass < nPasses x.file p → set < nSets x.file p →
     let expert := own.bind fun w => neededExpert x w p set pass
     blockSource x own expert p set pass = some bs →
     let loaded := fun (b : List Byte) (n : Word) => touchExpert x own expert (updCore core (fun c => { c with
       block := some { blockOf x p set pass b with
         item := if pieceDynamic x.file p then own.map fun w => (w.q, w.seq) else none, expert := expert }
       wloads := c.wloads + n, gateShut := false, ringWritten := true
       st := if c.st = .dark then .dark else if c.barred = 0 then .loading else .held }) s)
     let rest := fun (z : State) => loadFollow (if pieceResident x.file p then markWritten x p set pass (batchClose x p set pass z)
       else batchClose x p set pass z)
     (loadMatches x p set pass (flipBytes f1 bs) = true →
       exec (.weightLoad core h p set pass [f1, f2]) s = .next (settle s (rest (loaded (flipBytes f1 bs) 1)) 0)) ∧
     (loadMatches x p set pass (flipBytes f1 bs) = false → loadMatches x p set pass (flipBytes f2 bs) = true →
       exec (.weightLoad core h p set pass [f1, f2]) s = .next (settle s (rest (loaded (flipBytes f2 bs) 2)) 0)) ∧
     (loadMatches x p set pass (flipBytes f1 bs) = false → loadMatches x p set pass (flipBytes f2 bs) = false →
       exec (.weightLoad core h p set pass [f1, f2]) s = .next (settle s (failBlock x own expert p set pass
         (updCore core (fun c => { c with
           block := none, wloads := c.wloads + 2, gateShut := true, st := if c.st = .dark then .dark else .held }) s)) 0))) ∧
  (∀ (s : State) (x : Pattern) (w : Work) (own : Option Work) (e : Option Nat) (p set pass : Nat),
     let fail := fun (s : State) (u : Work) => errWork u.q u.seq .integrityFail 0 s
     (pieceDynamic x.file p = true → failBlock x (some w) e p set pass s = fail s w) ∧
     (pieceDynamic x.file p = false →
       failBlock x own e p set pass s = (s.works.filter fun u => needsBlock x u e p set pass).foldl fail s)) ∧
  (∀ (s : State) (core : Fin 48) (q seq p set pass vec : Nat) (w : Work) (b : Block) (x : Pattern) (smp : List Byte)
     (rest : List (List Byte)) (words : Option (List Word)),
     s.work? q seq = some w → (s.core core).block = some b → s.pat? w.ctx w.pat = some x →
     passReady s x w b core p set pass vec = true →
     let num := pieceNum x.file p
     let xs := pieceInput x.file w p
     let counted := fun (issue : Core → Core) => updCore core (fun c =>
       issue { c with passes := c.passes + 1, adcClip := c.adcClip + BitVec.ofNat 32 (clips smp) }) s
     (exec (.pass core q seq p set pass vec (smp :: rest) words false) s =
       .next (settle s (errWork q seq .dataUncorrectable 0 s) 0)) ∧
     (b.analog = true → exec (.pass core q seq p set pass vec (smp :: rest) words true) s =
       .next (settle s (passCommit x w p set pass vec (fun v jl h => if h = 0 then
           analogY (s.core core) b (numZx num) ((passElems x.file p xs v pass).foldl (· + ·) 0) smp jl else 0) words
         (counted Core.issue)) 0)) ∧
     (b.analog = false → ∀ ds, ds = decisions (s.core core) b (operandBytes x.file p xs vec pass) smp →
       parityOk ds = true → doubtful ds = false →
       exec (.pass core q seq p set pass vec (smp :: rest) words true) s =
         .next (settle s (passCommit x w p set pass vec (fun v jl h => recombine (numAFmt num) (numZx num) b ds
           (halfSum (fun ch => (passElems x.file p xs v pass).getD ch 0) h) (if fmtBits4 (numAFmt num) then v % 2 else 0) jl h)
           words (counted (Core.feed (operandBytes x.file p xs vec pass)))) 0))) ∧
  (∀ (s : State) (q seq p : Nat) (w : Work) (x : Pattern), s.work? q seq = some w → s.pat? w.ctx w.pat = some x →
     p < nPieces x.file → onVector x p = true → pieceReady x.file w p = true → pieceDone x.file w p = false →
     granted s x.file w p = true → shuttleRuns s q = true → (vuExperts x w p).isEmpty = false →
     let own := if pieceDynamic x.file p || pieceExpert x.file p then some w else none
     exec (.digitalFallbackCompute q seq p .uncorrectable) s = .next (settle s (errWork q seq .dataUncorrectable 0 s) 0) ∧
     (pieceWeights x.file p = true →
       (∀ set pass, exec (.digitalFallbackCompute q seq p (.sigma set pass)) s =
         .next (settle s (failBlock x own ((vuExperts x w p).headD none) p set pass s) 0)) ∧
       (∀ e set pass, badBlock x w p = some (e, set, pass) →
         exec (.digitalFallbackCompute q seq p .ok) s = .next (settle s (failBlock x own e p set pass s) 0))) ∧
     ((pieceWeights x.file p = true → badBlock x w p = none) →
       (∀ w', directPiece x p w = .ok w' →
         exec (.digitalFallbackCompute q seq p .ok) s = .next (settle s (requestExperts (updWork q seq (fun _ =>
           if pieceVuOnly x.file p = false then { w' with flags := { w'.flags with degraded := true } }
           else if pieceWeights x.file p = true ∧ elemsDone x.file w' p = false then w'
           else { runProgram x.file p w' with vuDone := p :: w'.vuDone })
           ((vuExperts x w p).foldl (fun s e => touchExpert x (some w) e s) s))) 0)) ∧
       (∀ st l, directPiece x p w = .error (st, l) →
         exec (.digitalFallbackCompute q seq p .ok) s = .next (settle s
           (errWork q seq st 0 (l.foldl (fun s n => note n s) s)) 0))))

/-- Four attempts of an exact pass that all fail (a parity wrong, or a doubtful level) count three replays, hold the core with
the rows its diagnosis finds, each with the checks that failed, and count a selvedge failure for each attempt with a wrong
parity (R93–R96); an attempt that passes ends them, and the counters tell how many came before it. -/
def Obligations.FourFailedAttemptsHoldTheCore : Prop :=
  ∀ (b : Block) (bytes : List Nat) (a1 a2 a3 a4 : List Byte) (rest : List (List Byte)) (c : Core),
    let ds := decisions c b bytes
    let good := fun a => parityOk (ds a) && !doubtful (ds a)
    let bad := fun a => if parityOk (ds a) then (0 : Word) else 1
    let cl := fun a => BitVec.ofNat 32 (clips a)
    (good a1 = false → good a2 = false → good a3 = false → good a4 = false →
      exactAttempts b bytes 4 (a1 :: a2 :: a3 :: a4 :: rest) c = ({ c with
        replays := c.replays + 3, selvFail := c.selvFail + (bad a1 + bad a2 + bad a3 + bad a4)
        adcClip := c.adcClip + (cl a1 + cl a2 + cl a3 + cl a4), faulty := faultyRows c (ds a4), st := .held
        checks := c.checks ++ (faultyRows c (ds a4)).map fun r => (r, failedChecks (check64 (ds a4)), failedChecks (check65 (ds a4)))
        }, none)) ∧
    (good a1 = false → good a2 = false → good a3 = true →
      exactAttempts b bytes 4 (a1 :: a2 :: a3 :: rest) c = ({ c with
        replays := c.replays + 2, selvFail := c.selvFail + (bad a1 + bad a2), passes := c.passes + 1
        adcClip := c.adcClip + (cl a1 + cl a2 + cl a3) }, some (ds a3)))

/-- An exact pass computes its sums exactly: where every decided level is the number of ones that the operand slice and the
weight row share in the half (R79, R87), recombination gives Σ (x − z_x) × w over that half (R101, R103). -/
def Obligations.ExactPassesComputeTheDirectSum : Prop :=
  ∀ (f : List Byte) (p pass vec v jl h : Nat) (xs : List Int) (x : Pattern) (set : Nat) (bs : List Byte)
    (ds : List (Nat × Bool × Bool)), x.file = f →
    let num := pieceNum f p
    let four := fmtBits4 (numAFmt num)
    let b := blockOf x p set pass bs
    let bytes := operandBytes f p xs vec pass
    numAnalog num = false → numAFmt num < 4 → numWFmt num < 3 → v ∈ vecsOf f p vec → h < 2 → jl < setRows f p set →
    setRows f p set * b.wb ≤ 64 →
    (∀ i, i ≤ 1 → ∀ e ∈ passElems f p xs (if four then 2 * (if pairedVecs f p then vec else vec / 2) + i else vec) pass,
      (numAFmt num = 0 → 0 ≤ e ∧ e < 256) ∧ (numAFmt num = 1 → -128 ≤ e ∧ e < 128) ∧
      (numAFmt num = 2 → 0 ≤ e ∧ e < 16) ∧ (numAFmt num = 3 → -8 ≤ e ∧ e < 8)) →
    (∀ ch, ch < 64 → pieceRed f p ≤ 64 * pass + ch → blockWeight b jl ch = 0) →
    (∀ r k, r < 64 → k < 8 → levelAt ds r h k = popHalf (sliceOf bytes k &&& b.row r) h) →
    recombine (numAFmt num) (numZx num) b ds (halfSum (fun ch => (passElems f p xs v pass).getD ch 0) h)
        (if four then v % 2 else 0) jl h = directSum f p xs b pass v jl h

/-- Stripes narrow and widen by one step, taken between stripes (R257); an expired batch window makes the chunk due that queries
wait for (R258); a revision moves the duty of a LOCKED tile by at most 0.40 W, and never beyond what the budget leaves it (R245,
R246). A snag of two streams that have waited on each other for longer than 50 µs, in whichever order the detectors look at
them, diverts the one of lower PRIORITY that has an escape buffer, counts one snag for the context and is logged (R249). A piece
moves make-before-break: its new cores take it, and the old ones stay while they hold work (R237, R238). A quantum that ends
makes the next resident with waiting work current and counts a switch for its context; where the state saved was lost, the work
items with sums in it end (R291, R358, R359). A Tailor heartbeat that is missing for 2 ms lets the standby take over, at the
next fix point of each LOCKED tile; then the former one is reset (R27). -/
def Obligations.StripesSnagsAndResidents : Prop :=
  (∀ (s : State) (h p : Nat) (t : Fin 12) (want : Nat),
     let stripe := fun (f : Nat → Nat → Nat) (x : Pattern) =>
       { x with stripeWant := some (f (x.stripeWant.getD x.stripe) ((stripes x.file).length - 1)) }
     exec (.stripeNarrow h) s = .next (settle s
       { s with pats := updWhere (·.handle == h) (stripe fun now last => min (now + 1) last) s.pats } 0) ∧
     exec (.stripeWiden h) s = .next (settle s { s with pats := updWhere (·.handle == h) (stripe fun now _ => now - 1) s.pats } 0) ∧
     (∀ x n, s.pats = [x] → x.stripeWant = some n →
       ((∀ w ∈ s.works, w.ctx = x.ctx → w.pat = x.handle → w.stage ≠ .running) →
         (stripeFollow s).pats = [{ x with stripe := n, stripeWant := none }]) ∧
       ((∃ w ∈ s.works, w.ctx = x.ctx ∧ w.pat = x.handle ∧ w.stage = .running) → (stripeFollow s).pats = [x])) ∧
     (∀ x, s.pats = [x] → x.handle = h → pieceBatches x.file p = true → x.batchDue.contains p = false →
       ((waitsAt s x p).isEmpty = false →
         exec (.batchWindowExpiry h p) s = .next (settle s { s with pats := [{ x with batchDue := x.batchDue ++ [p] }] } 0)) ∧
       ((waitsAt s x p).isEmpty = true → exec (.batchWindowExpiry h p) s = .next (settle s s 0))) ∧
     (s.tiles[t].st ≠ .locked →
       exec (.dutyRevision t want) s = .next (settle s (updTile t (fun x => { x with dutyWant := min want 10000 }) s) 0)) ∧
     (s.tiles[t].st = .locked → ∃ u, exec (.dutyRevision t want) s = .next (settle s u 0) ∧ u.tiles[t].dutyWant = min want 10000 ∧
       ((tileCores t).map fun c => (u.core c).drive).sum ≤ tileRoom s t ∧
       ((tileCores t).map fun c => (u.core c).drive - (s.core c).drive).sum ≤ 480 ∧
       ∀ c ∈ tileCores t, (u.core c).drive ≤ max (s.core c).drive (coreFull s c * min want 10000 / 10000))) ∧
  (∀ (s : State) (first : List (Nat × Nat)), let aged := s.edges.map fun e => { e with scans := e.scans + 1 }
     ((∀ e ∈ s.edges, e.scans < 10) → exec (.snagScan first) s = .next (settle s { s with edges := aged } 0)) ∧
     (∀ (x : Pattern) (a b m n i : Nat), s.pats = [x] → a ≠ b → 10 ≤ m → 10 ≤ n →
       s.edges = [⟨(x.handle, a), (x.handle, b), m⟩, ⟨(x.handle, b), (x.handle, a), n⟩] →
       divertOf s [(x.handle, b), (x.handle, a)] = some (x.handle, i) → x.diverted = [] →
       exec (.snagScan first) s = .next (settle s (note (.snag x.handle i)
         (updCtx x.ctx (fun c => { c with snags := c.snags + 1 })
           { s with edges := aged, pats := [{ x with diverted := [i] }] })) 0))) ∧
  (∀ (s : State),
     (∀ (x : Pattern) (h p : Nat) (from_ to_ : List (Fin 48)) (pl : Place), s.pats.find? (·.handle == h) = some x →
       s.mod.mstate = .ready → pl ∈ x.places → pl.piece = p → pl.cores = from_ → pl.from_ = [] → moveShape s x p from_ to_ = true →
       (∀ c ∈ to_, mayPlace s x.ctx x.file p c = true ∨ c ∈ from_) → moveCause s x pl to_ = true →
       exec (.pieceMove h p from_ to_) s = .next (settle s (tidyCores
         (updPat x.ctx h (fun y => { y with places := y.places.map fun r =>
             if r.piece = p ∧ r.cores = from_ ∧ r.from_ = [] then
               { r with cores := to_, from_ := from_, opened := false, oldN := 0, newN := 0 } else r })
           { s with tailor := { s.tailor with moved := (h, p) :: s.tailor.moved } })) 0)) ∧
     (∀ (x : Pattern) (pl : Place), holdsWork s x pl.piece pl.from_ = true → (pl.settled s x).from_ = pl.from_) ∧
     (∀ (core : Fin 48) (r old : Nat × Nat),
       (s.core core).st = .idle ∨ (s.core core).st = .running ∨ (s.core core).st = .loading →
       nextResident s core = some r →
       let next := updCore core (fun c => { c with current := some r, block := none, operands := [], st := c.gateSt }) s
       ((s.core core).current = some old →
         exec (.quantumEnd core true) s = .next (settle s (updCtx r.1 (fun x => { x with switches := x.switches + 1 }) next) 0) ∧
         exec (.quantumEnd core false) s =
           .next (settle s (loseSaved old core (updCtx r.1 (fun x => { x with switches := x.switches + 1 }) next)) 0)) ∧
       ((s.core core).current = none → ∀ saved : Bool, exec (.quantumEnd core saved) s = .next (settle s next 0))) ∧
     (s.tailor.standbyUp = true →
       exec .tailorHeartbeatTimeout s = .next (settle s (note .tailorTakeover
         { mapTiles (fun _ t => if t.st = .locked then t.await .takeover else t) s with
           tailor := { s.tailor with standbyUp := false, takeover := true } }) 0)) ∧
     (s.tailor.takeover = true →
       ((∀ t : Fin 12, s.tiles[t].st = .locked → .takeover ∉ s.tiles[t].pend) →
         (takeoverFollow s).tailor = { s.tailor with onHd2 := !s.tailor.onHd2, takeover := false } ∧
         (takeoverFollow s).mod.resets.running = (.tailor, activeTailor s) :: s.mod.resets.running) ∧
       (∀ t : Fin 12, s.tiles[t].st = .locked → .takeover ∈ s.tiles[t].pend → takeoverFollow s = s)))

/-- CALIBRATE begins one run over its tiles and options, merged with a run in progress, and completes with OK and INFO the tiles
it skipped once no action of it runs (R211, R213); in SAFELIGHT it completes at once with INFO its tile mask (R466). ACCEL
on one tile that can walk makes the tile's 67 slots due on each such core (R212). SELF_TEST puts the lowest free LOCKED tile
of its mask under test, each core of it in a sweep (R214, R215), one run at a time; the end of a tile's test retires the cores
that failed, four of them quarantine the tile, and the command completes with INFO the tested and the failed tiles once every
tile is tested (R214, R350); a stop releases the tile and passes it over, and a RETHREAD that waited for it starts; the deadline
ends the command with NOT_RUN (R215). -/
def Obligations.CalibrateAndSelfTest : Prop :=
  (∀ (s : State) (q seq : Nat) (x : Queue) (c : Ctx) (e : Entry), Turn s 0x0B q seq x c e →
     let tiles := BitVec.ofNat 12 (desc16 e.desc 16)
     let opts := BitVec.ofNat 3 (descByte e.desc 18)
     (e.st = .begun → exec (.calibrate q seq) s = .next (settle s
       (calibrateEnd ((List.finRange 12).foldl (fun s t => calibrateCheck t s) s)) 0)) ∧
     (e.st ≠ .begun → s.mod.mstate = .safelight →
       exec (.calibrate q seq) s = .next (settle s (finish q seq .ok tiles.toNat s) 0)) ∧
     (e.st ≠ .begun → s.mod.mstate ≠ .safelight →
       (∀ k, s.calib = some k → exec (.calibrate q seq) s = .next (settle s
         (calibrateEnd ((List.finRange 12).foldl (fun s t => calibrateCheck t s)
           (((calibPairs (k.tiles ||| tiles) (k.opts ||| opts)).filter fun p => !(calibPairs k.tiles k.opts).contains p).foldl
             startOption (begin_ q seq { s with
               calib := some { k with by_ := k.by_ ++ [(q, seq)], tiles := k.tiles ||| tiles, opts := k.opts ||| opts } })))) 0)) ∧
       (s.calib = none →
         exec (.calibrate q seq) s = .next (settle s (calibrateEnd ((List.finRange 12).foldl (fun s t => calibrateCheck t s)
           ((calibPairs tiles opts).foldl startOption (begin_ q seq { s with
             calib := some { by_ := [(q, seq)], tiles := tiles, opts := opts, skipped := 0, busy := 0 } })))) 0) ∧
         (tiles = 0 ∨ opts = 0 → ∃ t, exec (.calibrate q seq) s = .next (settle s t 0) ∧ t.calib = none ∧
           t.queues = (finish q seq .ok 0 (begin_ q seq s)).queues) ∧
         (∀ t : Fin 12, tiles = 1#12 <<< t.val → opts = 1 → s.tiles[t].st = .locked →
           ∀ k : Fin 4, s.tiles[t].cores[k].canWalk = true →
           ∃ u, exec (.calibrate q seq) s = .next (settle s u 0) ∧ (u.tiles[t].cores[k]).accelLeft = 67 ∧
             u.tiles[t].cal.accel = true ∧
             u.calib = some { by_ := [(q, seq)], tiles := tiles, opts := 1, skipped := 0, busy := tiles })))) ∧
  (∀ (s : State) (q seq : Nat) (x : Queue) (c : Ctx) (e : Entry), Turn s 0x0C q seq x c e → e.st ≠ .begun →
     let mask := BitVec.ofNat 12 (desc16 e.desc 16)
     let b := begin_ q seq { s with selfTest := some { q := q, seq := seq, tiles := mask } }
     (s.mod.mstate = .safelight → exec (.selfTest q seq) s = .next (settle s (finish q seq .ok 0 s) 0)) ∧
     (s.mod.mstate ≠ .safelight → s.selfTest ≠ none → exec (.selfTest q seq) s = .next (settle s s 0)) ∧
     (s.mod.mstate ≠ .safelight → s.selfTest = none →
       (mask = 0 → exec (.selfTest q seq) s = .next (settle s (finish q seq .ok 0 { b with selfTest := none }) 0)) ∧
       (mask ≠ 0 → exec (.selfTest q seq) s = .next (settle s b 0)) ∧
       (s.pats = [] → (∀ t : Fin 12, s.tiles[t].testing = false) → ∀ t : Fin 12,
         (List.finRange 12).find? (fun t => mask.getLsbD t.val && s.tiles[t].st == .locked && s.tiles[t].rest == .run) = some t →
         ∃ u, exec (.selfTest q seq) s = .next u ∧ u.tiles[t].testing = true ∧ u.tiles[t].cal.step = 9 ∧
           ∀ k : Fin 4, s.tiles[t].cores[k].st ≠ .retired → u.tiles[t].cores[k].sweep = true))) ∧
  (∀ (s : State) (x : SelfTest) (t : Fin 12), s.selfTest = some x → s.tiles[t].testing = true →
     let left := fun (r : Nat) (z : State) => ditherFollow t (updTile t (fun y =>
       { mapCores (fun c => if c.st == .retired then c else { c with sweep := false }) y with
         testing := false, cal := { y.cal with step := 0, stResult := r } }) z)
     let passedOver := { s with selfTest := some { x with passed := x.passed ||| (1#12 <<< t.val) } }
     (s.calib = none →
       (∀ failed : BitVec 4, failed ≠ 0xF → failed ≠ 0 →
         let z := left 2 (updTile t (fun y =>
             { y with cores := vecMap (fun c k => if failed.getLsbD c then { k with st := .retired, block := none, sweep := false } else k) y.cores })
           (note (.selfTestFail t.val failed.toNat) { s with selfTest := some { x with
             tested := x.tested ||| (1#12 <<< t.val), failed := x.failed ||| (1#12 <<< t.val) } }))
         (x.tiles &&& ~~~(x.tested ||| (1#12 <<< t.val)) = 0 →
           exec (.selfTestTileDone t failed) s = .next (settle s (finish x.q x.seq .ok
             ((x.tested ||| (1#12 <<< t.val)).toNat + (x.failed ||| (1#12 <<< t.val)).toNat * 2 ^ 16) { z with selfTest := none }) 0)) ∧
         (x.tiles &&& ~~~(x.tested ||| (1#12 <<< t.val)) ≠ 0 →
           exec (.selfTestTileDone t failed) s = .next (settle s z 0))) ∧
       (let z := left 1 { s with selfTest := some { x with tested := x.tested ||| (1#12 <<< t.val) } }
        (x.tiles &&& ~~~(x.tested ||| (1#12 <<< t.val)) = 0 →
          exec (.selfTestTileDone t 0) s = .next (settle s (finish x.q x.seq .ok
            ((x.tested ||| (1#12 <<< t.val)).toNat + x.failed.toNat * 2 ^ 16) { z with selfTest := none }) 0)) ∧
        (x.tiles &&& ~~~(x.tested ||| (1#12 <<< t.val)) ≠ 0 →
          exec (.selfTestTileDone t 0) s = .next (settle s z 0))) ∧
       (∃ u, exec (.selfTestTileDone t 0xF) s = .next (settle s u 0) ∧ u.tiles[t].st = .quarantined ∧
         u.tiles[t].cal.stResult = 3 ∧ u.tiles[t].testing = false) ∧
       exec (.selfTestStop t) s = .next (settle s (left 4 passedOver) 0) ∧
       ((∀ u : Fin 12, u ≠ t → s.tiles[u].testing = false) →
         exec .selfTestDeadline s = .next (settle s (finish x.q x.seq .notRun (x.tested.toNat + x.failed.toNat * 2 ^ 16)
           { left 4 s with selfTest := none }) 0))) ∧
     (∀ k, s.calib = some k → k.waiting.getLsbD t.val = true → s.tiles[t].rest = .run →
       exec (.selfTestStop t) s = .next (settle s (startCalib t { left 4 passedOver with
         calib := some { k with waiting := k.waiting &&& ~~~(1#12 <<< t.val) } }) 0)))

/-- Power-up calibration takes a THREADING tile from step to step (R190): step 1, with a sound chiplet, loads the sets and
characterises the lasers; step 2 stands until threading is done; step 3 sets the span trims, and steps 4 and 6 run the
converter trims and the measurements; rows and channels beyond range are lost (R191). A run whose rows all agree is adopted,
otherwise a third one follows (R197). A tile without a sound chiplet, or with every core retired, leaves service. Step 8 locks
it: the sets are refreshed and committed, the ports trained; rows whose probes fail are lost, and the probes are repeated once
(R191); without its root clock it has no probes (R35). At 6.0 s a CALIBRATING module with 11 tiles LOCKED enters READY,
otherwise SAFELIGHT with the tile-loss cause; at 12.0 s a tile still THREADING leaves service (R192). -/
def Obligations.CalibrationStepsAndDeadlines : Prop :=
  (∀ (s : State) (t : Fin 12) (r : CalResults), s.tiles[t].st = .threading →
     let goTo := fun (n : Nat) (z : State) => ditherFollow t (updTile t (fun y => { y with cal := { y.cal with step := n } }) z)
     let onTo := fun (n : Nat) (z : State) => if z.tiles[t].allRetired then calibQuarantine t z else goTo n z
     let is := fun n => s.tiles[t].cal.step = n
     let gives := fun (b : State) => exec (.powerupCalibrationStep t r) s = .next (settle s b (exitBit s b))
     let spans := draw (updTile t (fun x => { Tile.calQuarantine r.badRows (mapCores (fun c => { c with
       modWritten := true, ringWritten := true, rows := vecMap (fun _ w => { w with spanAt := some s.free }) c.rows }) x) with
         modAt := some s.free }) s)
     let run := reseed t (draw (updTile t (fun x => storeRun r.runs (Tile.calQuarantine r.badRows
       (mapCores (fun c => { c with rows := vecMap (fun _ w => { w with convAt := some s.free }) c.rows }) x))) s))
     let adopted := fun (n third : Nat) (z : State) => updTile t (fun x => { adoptRuns x with
       cal := { (adoptRuns x).cal with runs := n, third := (adoptRuns x).cal.third + BitVec.ofNat 32 third } }) z
     (is 1 → r.rulerOk = false → gives (calibQuarantine t s)) ∧
     (is 1 → r.rulerOk = true → gives (goTo 2 (characterise t r.badLasers
       (updTile t (fun x => { loadSets (otherSlot s) r.vaultSetsOk r.mirrorSetsOk x with heated := true }) s)))) ∧
     (is 2 → gives s) ∧
     (is 3 → gives (onTo 4 (r.badChannels.foldl (fun z ch => if z.tiles[t].dark.getLsbD ch.val then z else applyDark t ch z) spans))) ∧
     (is 4 → gives (onTo 5 run)) ∧
     (is 5 → gives (onTo 6 s)) ∧
     (is 6 →
       let z := updTile t (fun y => { y with cal := { y.cal with meanTemp := 16 * r.meanTemp } }) run
       (undecided z.tiles[t] = [] → gives (onTo 8 (adopted 2 0 z))) ∧
       (undecided z.tiles[t] ≠ [] → gives (onTo 7 z))) ∧
     (is 7 → gives (onTo 8 (adopted 3 (undecided s.tiles[t]).length run))) ∧
     (is 8 → pllGood s t = false → gives s) ∧
     (is 8 → pllGood s t = true →
       let x := s.tiles[t].calLose r.badRows
       let lost := updTile t (fun _ => x) s
       (x.allRetired = true → gives (calibQuarantine t lost)) ∧
       (x.allRetired = false → r.badRows ≠ [] → s.tiles[t].cal.probed = false →
         gives (updTile t (fun y => { y with cal := { y.cal with probed := true } }) lost)) ∧
       (x.allRetired = false → (r.badRows = [] ∨ s.tiles[t].cal.probed = true) → gives (
         let s1 := updTile t (fun _ =>
           let y := (foldSets (nearestSet x.cal.meanTemp) x).summary
           { y with
             cal := { y.cal with nearest := nearestSet x.cal.meanTemp }
             rings := y.rings.map fun g => (g.1, { g.2 with dq := 0 }) }) s
         let s2 := lockTile t (trainDown t (commitSets t s1))
         calibTileEnd t (careChannels t (if t = 0 && s2.tiles[t].rli then { s2 with mod := { s2.mod with rliStatus := 2 } } else s2)))))) ∧
  (∀ (s : State),
     (s.mod.mstate = .calibrating → 11 ≤ tilesLocked s →
       exec .calibrationDeadline s = .next (settle s (nextMove (enterReady s)) 0)) ∧
     (s.mod.mstate = .calibrating → tilesLocked s < 11 → ∃ t, exec .calibrationDeadline s = .next t ∧
       t.mod.mstate = .safelight ∧ t.mod.slCause = s.mod.slCause ||| 2 ∧ ∀ u : Fin 12, t.tiles[u].st = .dark) ∧
     (s.mod.mstate ≠ .calibrating → exec .calibrationDeadline s = .next (settle s s 0)) ∧
     (∀ t : Fin 12, s.tiles[t].st = .threading → s.mod.mstate ≠ .calibrating →
       exec (.tileCalibrationDeadline t) s = .next (settle s (calibQuarantine t s) 0)) ∧
     (∀ t : Fin 12, s.tiles[t].st ≠ .threading →
       exec (.tileCalibrationDeadline t) s = .next (settle s s 0)))

/-- A recalibration slot ends and the next one opens at the tile's fix point (R204–R206): the row of the old slot returns with
the entry it holds, and the walk's next row goes, with the basting row in its place; a row found bad in its slot stays
quarantined, and the walk stops (R209). Heater centring adopts a ring's ΔQ within 10 GHz, measures a larger one again, and fails
the row where the two differ (R208). Two agreeing measurements of the row in its slot that meet the limits give its entry at
once, row 66's own at the next fix point (R78, R207); a third one is taken where two disagree, and a row that fails is
quarantined by calibration (R197, R209). Each measurement counts the issue cycles it claimed, a free number, and reseeds the
tile's symbol generator (R188, R207; the model's choice, assumptions 87 and 89). A row under RESTORE that passes returns at a
fix point (R211). A core that cannot walk is vacated and swept (R209); its sweep ends with the figures of the rows that passed
and with the failing rows quarantined by calibration (R209, R220), and a retired core under RESTORE returns with at most one row
quarantined (R211). Hourly a LOCKED tile's entries are folded into the set nearest to its temperature and committed to the
vault: the set generation rises where it takes writes, otherwise the commit is retried (R199–R201); in a debug state nothing is
committed (R427). The NOR mirror follows a commit into the inactive slot's copy once the module has been READY, between 0 and 85
°C, while nothing is staged (R201, R404). -/
def Obligations.RecalibrationSweepsAndSets : Prop :=
  (∀ (s : State) (core : Fin 48) (made : Bool), let t := coreTile core
     s.tiles[t].st = .locked → s.tiles[t].rest = .run → s.sec.window ≠ some t.val → s.tiles[t].pend = [] →
     (∀ k : Fin 4, s.tiles[t].cores[k].faulty = []) →
     ((s.core core).canWalk = true → (s.core core).walk = none → (s.core core).baste = none → (s.core core).walkNext ≠ 66 → ∃ u,
       exec (.recalSlot ⟨core, made⟩) s = .next (settle s u 0) ∧ (u.core core).walk = some (s.core core).walkNext ∧
       (u.core core).baste = some ((s.core core).walkNext, false) ∧ (u.core core).walkNext = (s.core core).walkNext + 1 ∧
       (u.core core).wloads = (s.core core).wloads + 1 ∧ (u.core core).centring = true ∧
       u.tiles[t].cal.madeFp = s.tiles[t].cal.madeFp + (if made then 1 else 0)) ∧
     (∀ r : Fin 67, (s.core core).st ≠ .retired → (s.core core).sweep = false → (s.core core).walk = some r →
       ((s.core core).slotBad = false → (s.core core).took = none → (s.core core).walkNext ≠ r → ∃ u,
         exec (.recalSlot ⟨core, made⟩) s = .next (settle s u 0) ∧
         (u.core core).row r.val = { (s.core core).row r.val with meas := [] } ∧
         (u.core core).accelLeft = (s.core core).accelLeft - 1) ∧
       ((s.core core).slotBad = true → ∃ u, exec (.recalSlot ⟨core, made⟩) s = .next (settle s u 0) ∧
         ((u.core core).row r.val).quar = true ∧ (u.core core).walk = none ∧
         (r ≠ 66 → (u.core core).baste = some (r, true))))) ∧
  (∀ (s : State) (core : Fin 48) (r : Fin 67), s.tiles[coreTile core].st = .locked →
     let t := coreTile core
     let spoils := fun (z : State) => updTile t (fun x => { x with cal := { x.cal with quar := x.cal.quar + 1 } })
       (updCore core (fun c => { c with slotBad := true }) z)
     ((s.core core).sweep = true ∨ ((s.core core).walk = some r ∧ (s.core core).centring = true) →
       ∀ rings, exec (.heaterCentringDone core ⟨r, rings⟩) s = .next (settle s
         (ditherFollow t (updCore core (fun c => { c with centring := false }) (rings.foldl (centreRing core r) s))) 0)) ∧
     (∀ ring : RingCentre,
       let k := ringKey (coreSlot core).val r.val ring.ch.val
       let put := updTile t (Tile.updRing k (fun g => { g with dq := ring.dq })) s
       let g := s.tiles[t].ring k
       (g.eta * (ring.dq - g.dq).natAbs ≤ 1000000000 → centreRing core r s ring = put) ∧
       (1000000000 < g.eta * (ring.dq - g.dq).natAbs → ∀ v, ring.again = some v →
         (g.eta * (v - ring.dq).natAbs ≤ 100000000 → centreRing core r s ring = note (.heaterCentring core.val r.val) put) ∧
         (100000000 < g.eta * (v - ring.dq).natAbs → (s.core core).sweep = false → (s.core core).slotBad = false →
           centreRing core r s ring = spoils s))) ∧
     (∀ (m : RowMeas) (db : List (Fin 64 × Nat)), (s.core core).walk = some r → (s.core core).slotBad = false →
       let z := noteMargins core r db (reseed t (countClaims t s))
       let put := fun (l : List RowMeas) => updCore core (Core.updRow r (fun x => { x with meas := l })) z
       let adopts := fun (a b : Adopted) (e : Nat) (y : State) => updCore core (fun c =>
         if r = 66 then { Core.updRow r (fun x => { x with meas := [] }) c with took := some ((c.row 66).figures a b e) }
         else Core.updRow r (Row.adopt a b e) c) y
       let third := fun (y : State) => updTile t (fun x => { x with cal := { x.cal with third := x.cal.third + 1 } }) y
       let ms := ((z.core core).row r.val).meas
       let gives := fun (b : State) => exec (.calMeasurementDone core r m db) s = .next (settle s b 0)
       (ms = [] → gives (put [m])) ∧
       (∀ m1, ms = [m1] →
         (halvesAgree m1.a m.a = false ∨ halvesAgree m1.b m.b = false → gives (put [m1, m])) ∧
         (halvesAgree m1.a m.a = true → halvesAgree m1.b m.b = true →
           let a := adoptHalf m1.a m.a
           let b := adoptHalf m1.b m.b
           let e := max m1.resid m.resid
           ((judgeRow a b e).isSome = true → gives (adopts a b e (put [m1, m]))) ∧
           (judgeRow a b e = none → (z.core core).sweep = false → (z.core core).slotBad = false →
             gives (spoils (adopts a b e (put [m1, m])))))) ∧
       (∀ m1 m2, ms = [m1, m2] →
         (pickPair RowMeas.a m1 m2 m = none ∨ pickPair RowMeas.b m1 m2 m = none →
           (z.core core).sweep = false → (z.core core).slotBad = false → gives (spoils (third (put [m1, m2, m])))) ∧
         (∀ x y u w, pickPair RowMeas.a m1 m2 m = some (x, y) → pickPair RowMeas.b m1 m2 m = some (u, w) →
           let a := adoptHalf x.a y.a
           let b := adoptHalf u.b w.b
           let e := max (max x.resid y.resid) (max u.resid w.resid)
           ((judgeRow a b e).isSome = true → gives (adopts a b e (third (put [m1, m2, m])))) ∧
           (judgeRow a b e = none → (z.core core).sweep = false → (z.core core).slotBad = false →
             gives (spoils (adopts a b e (third (put [m1, m2, m])))))))) ∧
     (∀ (m m1 : RowMeas) (v : Half × Half × Nat × Nat), (s.core core).walk ≠ some r → ((s.core core).row r.val).restoreDue = true →
       ((s.core core).row r.val).quar = true → (s.core core).st ≠ .retired → ((s.core core).row r.val).meas = [m1] →
       halvesAgree m1.a m.a = true → halvesAgree m1.b m.b = true →
       judgeRow (adoptHalf m1.a m.a) (adoptHalf m1.b m.b) (max m1.resid m.resid) = some v → ∃ u,
       exec (.calMeasurementDone core r m []) s = .next (settle s u 0) ∧ .restoreRow (coreSlot core) r ∈ u.tiles[t].pend ∧
       ((u.core core).row r.val).restoreDue = false ∧ ((u.core core).row r.val).a = v.1 ∧ ((u.core core).row r.val).b = v.2.1)) ∧
  (∀ (s : State) (core : Fin 48), s.tiles[coreTile core].st = .locked →
     let t := coreTile core
     ((s.core core).st ≠ .retired → (s.core core).sweep = false → (s.core core).canWalk = false → ∃ u,
       exec (.coreSweepRequest core) s = .next (settle s u 0) ∧ (u.core core).sweep = true ∧ (u.core core).block = none ∧
       (u.core core).walk = none ∧ u.tiles[t].cal.step = 0xA) ∧
     ((s.core core).sweep = true → ∀ rows : List (Fin 67 × RowMeas × RowMeas),
       ((s.core core).st ≠ .retired → exec (.coreSweepDone core rows) s = .next (settle s (fillCores (calibrateCheck t (ditherFollow t
         (updTile t (fun x => { x.summary with cal := { x.summary.cal with
           step := if x.st == .threading || x.testing || x.cores.toList.any (·.sweep) then x.cal.step else 0 } })
           (sweepService core rows (reseed t s)))))) 0)) ∧
       ((s.core core).st = .retired → (sweepFails (s.core core).sweepBad rows).length ≤ 1 → ∃ u,
         exec (.coreSweepDone core rows) s = .next (settle s u 0) ∧ (u.core core).st ≠ .retired ∧ (u.core core).sweep = false) ∧
       ((s.core core).st = .retired → 1 < (sweepFails (s.core core).sweepBad rows).length → ∃ u,
         exec (.coreSweepDone core rows) s = .next (settle s u 0) ∧ (u.core core).st = .retired ∧ (u.core core).sweep = false))) ∧
  (∀ (s : State) (t : Fin 12),
     let n := nearestSet ((s.tiles[t].temps.take 16).foldl (· + ·) 0)
     let stored := fun (x : Tile) => { x with cal := { x.cal with
       setGen := x.cal.setGen + 1, vaultCopy := x.setCopy (x.cal.setGen + 1), mirrorDue := true, retryDue := false } }
     let owes := fun (x : Tile) => { x with cal := { x.cal with retryDue := true } }
     (s.tiles[t].st = .locked →
       (s.sec.debug = 0 → vaultWritable s = true →
         exec (.setCommit t) s = .next (settle s (updTile t (fun x => stored (foldSets n x)) s) 0)) ∧
       (s.sec.debug = 0 → vaultWritable s = false →
         exec (.setCommit t) s = .next (settle s (updTile t (fun x => owes (foldSets n x)) s) 0)) ∧
       (s.sec.debug ≠ 0 → exec (.setCommit t) s = .next (settle s (updTile t (foldSets n) s) 0))) ∧
     (s.sec.debug = 0 → s.tiles[t].cal.retryDue = true → vaultWritable s = true →
       exec (.setCommitRetry t) s = .next (settle s (updTile t stored s) 0)) ∧
     (∀ temp : Int, s.sec.debug = 0 → s.tiles[t].cal.mirrorDue = true → s.mod.wasReady = true → isStaging s = false →
       (0 ≤ temp → temp ≤ 8500 → exec (.mirrorWrite t temp) s = .next (settle s (updTile t (fun x =>
         { x with cal := { x.cal with
           mirrors := x.cal.mirrors.set (otherSlot s).val x.cal.vaultCopy, mirrorDue := false } }) s) 0)) ∧
       (temp < 0 ∨ 8500 < temp → exec (.mirrorWrite t temp) s = .next (settle s s 0))))

/-- SAFELIGHT is entered from READY and CALIBRATING by its four causes: the command, RESULT OK (R464, R471), a laser-supply
fault, two lost tiles (R464), and a cooling fault (R374). Every tile is DARK then (R465); an ENTER in SAFELIGHT only adds its
cause (R467), in FAULT it is ignored (R489), and while housekeeping is halted or in its own swap window it waits (R461, R490).
EXIT is refused while a cooling-fault or laser-supply cause stands, and changes nothing outside SAFELIGHT (R467); otherwise the
exit raises every tile rail and calibrates every tile from step 1 (R468). It ends in READY with at least 11 tiles LOCKED, and
otherwise with the tile-loss cause, the tiles DARK and their rails off (R468). A cause that clears by itself starts the exit
when none is left (R467). -/
def Obligations.SafelightIsEnteredAndLeft : Prop :=
  (∀ (s : State),
     let entered := fun (cause : BitVec 4) (result : Nat) (t : State) => t.mod.mstate = .safelight ∧
       t.mod.slCause = s.mod.slCause ||| cause ∧ t.mod.slResult = result ∧ ∀ u : Fin 12, t.tiles[u].st = .dark
     (s.mod.mstate = .ready ∨ s.mod.mstate = .calibrating →
       (pfOpen s 0x58 = true → hkAway s = false → ∃ t, exec .safelightEnter s = .next t ∧ entered 8 1 t) ∧
       (∃ t, exec .laserSupplyFault s = .next t ∧ entered 4 s.mod.slResult t) ∧
       (2 ≤ lostCount s → ∃ t, exec .tileLoss s = .next t ∧ entered 2 s.mod.slResult t) ∧
       (∀ w, worst s.hk = some w → 0 < w.2 → s.hk.limit = 810 → s.hk.coolingFault = false →
         ∃ t, exec .coolingFault s = .next t ∧ entered 1 s.mod.slResult t)) ∧
     (s.mod.mstate = .safelight → s.mod.slExit = false → pfOpen s 0x58 = true → hkAway s = false →
       exec .safelightEnter s = .next (settle s { s with
         mod := { s.mod with slCause := s.mod.slCause ||| 8, slResult := 2 } } intSafelight)) ∧
     (pfOpen s 0x58 = true → s.mod.mstate = .fault → hkAway s = false → exec .safelightEnter s = .next (settle s s 0)) ∧
     (pfOpen s 0x58 = true → hkAway s = true →
       exec .safelightEnter s = .next (settle s { s with sec := { s.sec with asked := s.sec.asked ++ [.enter] } } 0) ∧
       exec .safelightExit s = .next (settle s { s with sec := { s.sec with asked := s.sec.asked ++ [.leave] } } 0))) ∧
  (∀ (s : State),
     let exits := fun (t : State) => t.mod.slExit = true ∧ t.power.tilesUp = 0xFFF ∧
       ∀ u : Fin 12, t.tiles[u].st = .threading ∧ t.tiles[u].cal.step = 1
     (pfOpen s 0x58 = true → hkAway s = false → s.mod.mstate = .ready →
       exec .safelightExit s = .next (settle s { s with mod := { s.mod with slResult := 2 } } intSafelight)) ∧
     (s.mod.mstate = .safelight → s.mod.slExit = false →
       (pfOpen s 0x58 = true → hkAway s = false → (s.mod.slCause.getLsbD 0 || s.mod.slCause.getLsbD 2) = true →
         exec .safelightExit s = .next (settle s { s with mod := { s.mod with slResult := 3 } } intSafelight)) ∧
       (pfOpen s 0x58 = true → hkAway s = false → s.mod.slCause.getLsbD 0 = false → s.mod.slCause.getLsbD 2 = false →
         ∃ t, exec .safelightExit s = .next t ∧ exits t) ∧
       (s.hk.coolingFault = true → coolingGone s.hk = true → s.mod.slCause = 1 →
         ∃ t, exec .coolingCauseClear s = .next t ∧ exits t) ∧
       (s.hk.laserSupplyOk = false → s.mod.slCause = 4 → ∃ t, exec .laserSupplyCauseClear s = .next t ∧ exits t)) ∧
     (s.mod.mstate = .safelight → s.mod.slExit = true →
       (11 ≤ tilesLocked s → ∃ t, exec .safelightExitDone s = .next t ∧ t.mod.mstate = .ready ∧ t.mod.slCause = 0 ∧
         t.mod.slResult = 1 ∧ t.mod.slExit = false) ∧
       (tilesLocked s < 11 → ∃ t, exec .safelightExitDone s = .next t ∧ t.mod.mstate = .safelight ∧
         t.mod.slCause = s.mod.slCause ||| 2 ∧ t.mod.slResult = 4 ∧ t.mod.slExit = false ∧ t.power.tilesUp = 0 ∧
         ∀ u : Fin 12, t.tiles[u].st = .dark)))

/-- Thimble's watchdog, and an uncorrectable error in its private memory, put the module into FAULT with cause 1 (R469): tiles
DARK, and every command in Shuttle memory ended but NOP and QUERY_STATUS (R470). A second cause does not replace the first. A
component that misses its heartbeats is partially reset (R461): it is recorded, and a tile goes DARK. Its fourth reset within
the hour escalates: FAULT for a Shuttle, a failed vault, a tile out of service (R463). A hub die's tiles stay as they are, and
its HBM3E is out of reach while it is reset; a management reset ends its sessions (R446, R461). A private memory error outside
Thimble does the same (R461). Its end brings the component back. -/
def Obligations.FaultAndPartialResets : Prop :=
  (∀ (s : State) (i now : Nat), s.mod.rails = true → s.mod.perst = false →
     let dead := fun (t : State) => t.mod.mstate = .fault ∧ t.mod.faultCause = 1 ∧ t.mod.faultInst = 0 ∧
       (∀ u : Fin 12, t.tiles[u].st = .dark) ∧
       ∀ q ∈ t.queues, ∀ e ∈ q.entries, e.st = .finished ∨ e.op = 0x00 ∨ e.op = 0x0D
     (s.mod.mstate ≠ .fault → (∃ t, exec .thimbleWatchdog s = .next t ∧ dead t) ∧
       ∃ t, exec (.privateMemoryUncorrectable .thimble i now) s = .next t ∧ dead t) ∧
     (s.mod.mstate = .fault → exec .thimbleWatchdog s = .next (settle s s 0))) ∧
  (∀ (s : State) (i now : Nat), booted s = true → s.mod.rails = true → s.mod.perst = false →
     let run := fun (p : Proc) => { s.mod.resets with
       history := (p, i, now) :: s.mod.resets.history, running := (p, i) :: s.mod.resets.running }
     let idle := fun (p : Proc) => s.mod.resets.running.contains (p, i) = false
     (∀ p, p ≠ .thimble → exec (.privateMemoryUncorrectable p i now) s = exec (.processorHeartbeatMiss p i now) s) ∧
     (i < 4 → s.power.hubsUp.getLsbD i = true → idle .shuttle →
       (recentResets s .shuttle i now < 3 →
         exec (.processorHeartbeatMiss .shuttle i now) s = .next (settle s { s with mod := { s.mod with resets := run .shuttle } } 0)) ∧
       (3 ≤ recentResets s .shuttle i now → s.mod.mstate ≠ .fault → ∃ t, exec (.processorHeartbeatMiss .shuttle i now) s = .next t ∧
         t.mod.mstate = .fault ∧ t.mod.faultCause = 3 ∧ t.mod.faultInst = i)) ∧
     (i = 0 → idle .housekeeping → recentResets s .housekeeping i now < 3 →
       exec (.processorHeartbeatMiss .housekeeping i now) s = .next (settle s { s with
         mod := { s.mod with resets := run .housekeeping }
         hk := { s.hk with halted := true } } 0)) ∧
     (i = 0 → idle .vault → 3 ≤ recentResets s .vault i now → ∃ t, exec (.processorHeartbeatMiss .vault i now) s = .next t ∧ t.vault.st = 4) ∧
     (∀ u : Fin 12, u.val = i → s.power.tilesUp.getLsbD i = true → idle .tile → s.tiles[u].st = .locked →
       (recentResets s .tile i now < 3 → ∃ t, exec (.processorHeartbeatMiss .tile i now) s = .next t ∧ t.tiles[u].st = .dark ∧
         (.tile, i) ∈ t.mod.resets.running) ∧
       (3 ≤ recentResets s .tile i now → ∃ t, exec (.processorHeartbeatMiss .tile i now) s = .next t ∧ t.tiles[u].st = .quarantined)) ∧
     (i < 4 → s.power.hubsUp.getLsbD i = true → idle .hubDie → recentResets s .hubDie i now < 3 → ∃ t, exec (.processorHeartbeatMiss .hubDie i now) s = .next t ∧
       (.hubDie, i) ∈ t.mod.resets.running ∧ t.power.hbmUp.getLsbD i = false ∧ ∀ u : Fin 12, t.tiles[u].st = s.tiles[u].st) ∧
     (i < 4 → (.hubDie, i) ∈ s.mod.resets.running → ∃ t, exec (.partialResetDone .hubDie i) s = .next t ∧
       t.power.hbmUp.getLsbD i = true) ∧
     (i = 0 → idle .management → recentResets s .management i now < 3 → ∃ t, exec (.processorHeartbeatMiss .management i now) s = .next t ∧
       t.mgmt.sessions = [] ∧ (.management, 0) ∈ t.mod.resets.running) ∧
     ((.shuttle, i) ∈ s.mod.resets.running →
       exec (.partialResetDone .shuttle i) s = .next (settle s (refill { s with
         mod := { s.mod with resets := { s.mod.resets with running := s.mod.resets.running.filter (· != (.shuttle, i)) } } }) 0)))

/-- The first copy of a commit record commits the spool's oldest write (data, length and generation at once), and the command
completes with OK and INFO the generation after both copies; its transaction space returns once no read holds the pages it
superseded (R277, R278). A mount discards the writes without a commit record and counts them (R279), and puts the vault online
(R284). The vault's temperature closes its windows: below 0 °C or above 75 °C its writes, and writes without a commit record end
with TEMP_HOLD; above 85 °C its reads (R280, R281); they open again at 2–73 °C and 83 °C (R280). Scrubs and scans of the memory
tiers: space of deleted spools returns, and the end of a scrub is logged (R361, R362); corrected and uncorrectable pages are
counted (R289); the second uncorrectable error of an LPDDR4X unit within 24 h is repaired and logged, and its data reads as bad
(R290, R291). A die-to-die flit with a good tag is delivered in order; four tag failures in a row take the link down (R286). -/
def Obligations.VaultCommitsScrubsAndDieLinks : Prop :=
  (∀ (s : State),
     (∀ (id : Nat) (w : Xact) (y : Spool), s.vault.st = 2 ∨ s.mod.rails = false → s.vault.writes = [w] → w.spool = id →
       w.started = true → s.vault.spools = [y] → y.id = id → s.vault.owed = [] →
       let held := readersOf s id
       let y' := fun n => countCopies n { y with
         data := overWrite y.data w.data w.off w.len, length := max y.length (w.off + w.len), gen := y.gen + 1
         record := some (recordOf w y), prev := some { record := y.record, length := y.length, gen := y.gen, data := y.data } }
       let good := s.bad.filter fun b => match b with
         | .cw i k => !(i == id && w.off ≤ 4096 * k && 4096 * k < w.off + w.len)
         | _ => true
       (w.copies = 0 →
         exec (.commitRecordProgrammed id 1) s = .next (settle s { s with
           bad := good
           vault := { s.vault with
             spools := [y' 1], commits := s.vault.commits + 1, writes := [{ w with copies := 1, readers := held }] } } 0) ∧
         (held = [] → exec (.commitRecordProgrammed id 2) s = .next (settle s (finish w.q w.seq .ok (y.gen + 1) { s with
           bad := good
           vault := { s.vault with
             spools := [y' 2], commits := s.vault.commits + 1, writes := [], xact := s.vault.xact + w.space } }) 0)) ∧
         (held ≠ [] → exec (.commitRecordProgrammed id 2) s = .next (settle s (finish w.q w.seq .ok (y.gen + 1) { s with
           bad := good
           vault := { s.vault with
             spools := [y' 2], commits := s.vault.commits + 1, writes := [], owed := [(w.space, held)] } }) 0))) ∧
       (w.copies = 1 → w.readers = [] →
         exec (.commitRecordProgrammed id 1) s = .next (settle s (finish w.q w.seq .ok y.gen { s with
           vault := { s.vault with
             spools := [countCopies 1 y], writes := [], xact := s.vault.xact + w.space } }) 0))) ∧
     (∀ (spare : Nat) (reads : MountReads), vaultRefuses s = false → s.vault.st < 2 → s.mod.rails = true →
       s.mod.resets.running.contains (.vault, 0) = false → s.vault.holdupFault = false → 0 < spare → spare ≤ 100 →
       let lost := (s.vault.writes.filter (·.copies == 0)).length + (s.vault.spools.filter (recordLost reads.bad)).length
       ∃ t, exec (.vaultMount spare reads) s = .next t ∧ t.vault = { s.vault with
         st := 2, spools := s.vault.spools.map (mountSpool reads.bad), free := 393216 - reservedUnits s - s.vault.scrubUnits
         xact := 2 ^ 40, spare := spare, owed := [], replayed := decide (0 < lost)
         discard := s.vault.discard + BitVec.ofNat 32 lost
         writes := (s.vault.writes.filter fun w => w.copies != 0 && stillAsked s w).map fun w => { w with space := 0 } } ∧
         t.mgmt.credential = reads.credentialOk)) ∧
  (∀ (bad : List (Nat × Nat)) (y : Spool) (r : CommitRec) (p : Committed), y.record = some r → y.prev = some p →
     ((∃ k, k < r.copies ∧ (y.id, k) ∉ bad) → mountSpool bad y = y) ∧
     ((∀ k, k < r.copies → (y.id, k) ∈ bad) →
       (mountSpool bad y).data = p.data ∧ (mountSpool bad y).length = p.length ∧ (mountSpool bad y).gen = p.gen)) ∧
  (∀ (s : State) (lo hi : Int),
     (0 ≤ lo → hi ≤ 7500 → exec (.vaultTemperatureRead lo hi) s = .next (settle s { s with
       vault := { s.vault with tempMin := some lo, tempMax := some hi } } 0)) ∧
     (lo < 0 ∨ 7500 < hi → (∀ w ∈ s.vault.writes, w.copies ≠ 0) →
       exec (.vaultTemperatureRead lo hi) s = .next (settle s { s with
         vault := { s.vault with
           tempMin := some lo, tempMax := some hi, writeHold := true
           readHold := s.vault.readHold || decide (8500 < hi) } } 0)) ∧
     (∀ w, lo < 0 ∨ 7500 < hi → s.vault.writes = [w] → w.copies = 0 → ∃ t,
       exec (.vaultTemperatureRead lo hi) s = .next t ∧ t.vault.writes = [] ∧ t.vault.xact = s.vault.xact + w.space ∧
       ∀ q ∈ t.queues, q.num = w.q → ∀ e ∈ q.entries, e.seq = w.seq → e.st = .finished ∧ e.status = .tempHold) ∧
     (s.vault.tempMin = some lo → s.vault.tempMax = some hi →
       exec .vaultHoldRelease s = .next (settle s { s with
         vault := { s.vault with
           writeHold := if 200 ≤ lo ∧ hi ≤ 7300 then false else s.vault.writeHold
           readHold := if hi ≤ 8300 then false else s.vault.readHold } } 0))) ∧
  (∀ (s : State),
     (∀ (n : Nat) (x : SpoolScrub), s.vault.st = 2 → s.vault.writeHold = false → s.vault.scrubbing = [x] →
       (n < x.left → exec (.spoolScrub n) s = .next (settle s { s with
         vault := { s.vault with
           scrubbing := [{ x with left := x.left - n }], free := s.vault.free + (if x.back then n else 0) } } 0)) ∧
       (x.left ≤ n → exec (.spoolScrub n) s = .next (settle s (note (.scrubEnd 3 x.spool) { s with
         vault := { s.vault with scrubbing := [], free := s.vault.free + (if x.back then x.left else 0) } }) 0))) ∧
     (∀ p x, s.vault.st = 2 ∨ s.vault.st = 3 → s.vault.readHold = false →
       (x ≤ 75 → exec (.vaultBackgroundScan p x .corrected) s = .next (settle s { s with
         vault := { s.vault with corr := s.vault.corr + 1 } } 0)) ∧
       (75 < x → s.vault.writeHold = false → let left := s.vault.spare - Config.spareLost s.free
         exec (.vaultBackgroundScan p x .corrected) s = .next (settle s { s with
           free := s.free + 1
           vault := { s.vault with
             corr := s.vault.corr + 1, spare := left, st := if left = 0 ∧ s.vault.st = 2 then 3 else s.vault.st } } 0)) ∧
       exec (.vaultBackgroundScan p x .uncorrectable) s = .next (settle s { s with
         vault := { s.vault with uncorr := s.vault.uncorr + 1 } } 0)) ∧
     (∀ (a : Nat) (r : Repair), s.power.lpUp = true →
       exec (.lpddr4xPatrolScrub a .corrected) s = .next (settle s { s with lpCorr := s.lpCorr + 1 } 0) ∧
       (s.repairs.find? (fun r => r.tier == 2 && r.addr == 256 * a) = some r → r.tier = 2 → r.addr = 256 * a → r.errs = 1 →
         r.soft = false →
         let again := Config.withinDay s.free
         let z := { s with
           free := s.free + 1
           repairs := { r with errs := if again then 2 else 1, soft := again }
             :: s.repairs.filter (fun r => !(r.tier == 2 && r.addr == 256 * a))
           bad := if s.bad.contains (.mem 2 (256 * a)) then s.bad else .mem 2 (256 * a) :: s.bad }
         exec (.lpddr4xPatrolScrub a .uncorrectable) s =
           .next (settle s (if again then note (.repair 2 (256 * a) false) z else z) 0))) ∧
     (∀ (link : Nat) (f : Flit) (next : BitVec 16) (fails : Nat), s.d2d.find? (·.1 == link) = some (link, next, fails, false) →
       f.fecOk = true → f.crcOk = true → let put := fun x => { s with d2d := x :: s.d2d.filter (·.1 != link) }
       (f.tagOk = true → f.seqNo = next →
         exec (.d2dFlitReceive link f) s = .next (settle s (put (link, next + 1, 0, false)) 0)) ∧
       (f.tagOk = false → fails < 3 →
         exec (.d2dFlitReceive link f) s = .next (settle s (put (link, next, fails + 1, false)) 0)) ∧
       (f.tagOk = false → 3 ≤ fails →
         exec (.d2dFlitReceive link f) s = .next (settle s (note (.d2dIntegrity link) (put (link, next, 4, true))) 0))))

/-- An event report folds into an open entry of the same event, or becomes the newest entry with the next SEQ (R448, R449,
R451), and tells its processor's cycle count (R36); a Critical one is committed at once where the vault takes writes (R448); a
commit moves the numbered entries to the vault ring and the anchor past the highest (R448, R449); without the vault numbering
starts at 0 without an anchor 5 s after MGMT_UP (R449). -/
def Obligations.EventsAreLoggedAndCommitted : Prop :=
  ∀ (s : State),
    (∀ (e : Event) (now : Nat), let told := { s.mod with
        cycles := (e.source.toNat, e.inst.toNat, e.localCount) ::
          s.mod.cycles.filter fun x => !(x.1 == e.source.toNat && x.2.1 == e.inst.toNat) }
      e.severity ≠ 3 → (s.mgmt.log.filter committable).length < 1023 → s.mgmt.log.length < 16384 →
      s.mgmt.dropped = 0 → s.mgmt.conns = [] →
      (s.mgmt.log.any (folds e now) = false →
        exec (.eventReport e now) s = .next (settle s { s with
          mod := told
          mgmt := { s.mgmt with
            log := { seq := s.mgmt.nextSeq, e := e, rep := 0, at_ := now, committed := false
                     unanchored := s.mgmt.nextSeq.isSome && s.mgmt.unanchored, restart := e.source == 0 } :: s.mgmt.log
            nextSeq := s.mgmt.nextSeq.map (· + 1) } } 0)) ∧
      (∀ (x : LogEntry) (rest : List LogEntry), s.mgmt.log = x :: rest → folds e now x = true →
        exec (.eventReport e now) s = .next (settle s { s with
          mod := told
          mgmt := { s.mgmt with
            log := { x with rep := satInc x.rep 0xFFFF } :: rest } } 0))) ∧
    (∀ (e : Event) (now n : Nat), e.severity = 3 → vaultWritable s = true → s.mgmt.log.length < 16384 → s.mgmt.dropped = 0 →
      s.mgmt.nextSeq = some n → s.mgmt.unanchored = false → ∃ t, exec (.eventReport e now) s = .next t ∧
      ∃ x ∈ t.mgmt.log, x.seq = some n ∧ x.e = e ∧ x.committed = true) ∧
    (vaultWritable s = true → ∃ t, exec .logCommit s = .next t ∧ (∀ x ∈ t.mgmt.log, committable x = false) ∧
      (∀ x ∈ s.mgmt.log, committable x = true → ∀ n, x.seq = some n → n < t.mgmt.anchor) ∧ s.mgmt.anchor ≤ t.mgmt.anchor ∧
      t.mgmt.ring = (((s.mgmt.log.filter committable).map fun (x : LogEntry) => { x with committed := true }) ++ s.mgmt.ring).take 1048576) ∧
    (vaultWritable s = false → exec .logCommit s = .next (settle s s 0)) ∧
    (s.mgmt.up = true → s.vault.st ≠ 2 → s.vault.st ≠ 3 → s.mgmt.nextSeq = none → s.mgmt.conns = [] →
      exec .logUnanchoredTimeout s = .next (settle s { s with
        mgmt := { s.mgmt with
          log := s.mgmt.log.mapIdx fun i (x : LogEntry) => { x with seq := some (s.mgmt.log.length - 1 - i), unanchored := true }
          nextSeq := some s.mgmt.log.length, unanchored := true } } 0))

/-- STAGE checks its source and manifest and erases the inactive slot (R411), which waits while NOR is outside 0–85 °C (R281),
or answers SOURCE_FAULT, REJECTED or NOT_ALLOWED; its end leaves the slot with the manifest, or invalid with RESULT DIGEST
(R411). ACTIVATE needs a STAGED slot (R412); its preload ends with DIGEST where an image does not match, with REJECTED where a
handover is not accepted, and otherwise the swaps begin (R412). A command that comes while another runs gets BUSY (R432). ABORT
ends a running STAGE, and an ACTIVATE before its first swap, with RESULT ABORTED; later it has the ACTIVATE roll back; with
nothing to stop it answers NOT_ALLOWED (R411, R414). COMMIT raises SVN to the running manifest's and blows its REVOKE bits but
that of its own key (R415), with the IOD between 0 and 85 °C, otherwise it answers TEMP (R401). A swap window opens on the next
domain that is not powered down (R413): a tile closes its gates. Its close counts the domain as swapped, the formerly active
Tailor's with a takeover (R412); a domain that does not start reverses the swaps (R414); after the last one the new slot is the
boot slot with the next activation record, which too may have to wait (R281), and ACTIVATE ends with OK (R412). What
housekeeping was asked in its own window is done at its end (R490). Once the first domain is back on the old image, a reversed
ACTIVATE ends with ROLLED_BACK or ABORTED (R414). -/
def Obligations.UpdatesAndSwapWindows : Prop :=
  (∀ (s : State),
     let answered := fun (r : UpdResult) =>
       (.next (settle s { s with sec := { s.sec with updResult := r.code } } intUpdate) : Out)
     let ended := fun (r : UpdResult) (z : State) => settle s { z with sec := { z.sec with
       cmd := .none, updState := idleState z, swapped := 0, rolling := false, aborting := false, updResult := r.code } } intUpdate
     (∀ src : BundleRead, pfOpen s 0x50014 = true → s.sec.window = none →
       (s.sec.cmd ≠ .none → exec (.stage src) s = answered .busy ∧ exec .activate s = answered .busy ∧
         exec .commit s = answered .busy) ∧
       (s.sec.cmd = .none → s.sec.updLen = 0 → exec (.stage src) s = answered .notAllowed) ∧
       (s.sec.cmd = .none → s.sec.updLen ≠ 0 → src.fault = true → exec (.stage src) s = answered .sourceFault) ∧
       (s.sec.cmd = .none → s.sec.updLen ≠ 0 → src.fault = false →
         (manifestAccepted src.manifest s = false → exec (.stage src) s = answered .rejected) ∧
         (manifestAccepted src.manifest s = true → ∃ t, exec (.stage src) s = .next t ∧ t.sec.cmd = .stage src true ∧
           t.sec.updState = 1 ∧ t.sec.fuses = s.sec.fuses ∧
           t.sec.slots = (if Config.norWaits s.free then s.sec.slots else s.sec.slots.set (stageSlot s).val {}) ∧
           t.sec.norDue = (Config.norWaits s.free || s.sec.norDue))) ∧
       (s.sec.cmd = .none → s.sec.recovery = false →
         (otherCode s = 1 → ∃ t, exec .activate s = .next t ∧ t.sec.cmd = .activate ∧ t.sec.updState = 3 ∧ t.sec.swapped = 0 ∧
           t.sec.slots = s.sec.slots ∧ t.sec.running = s.sec.running) ∧
         (otherCode s ≠ 1 → exec .activate s = answered .notAllowed))) ∧
     (∀ src host, s.sec.cmd = .stage src host →
       exec (.stageDone true) s = .next (ended .ok { s with
         sec := { s.sec with
           slots := s.sec.slots.set (stageSlot s).val { manifest := some src.manifest }, norDue := false } }) ∧
       (s.sec.norDue = false → exec (.stageDone false) s = .next (ended .digest s)) ∧
       (s.sec.norDue = true → exec (.stageDone false) s = .next (ended .digest { s with
         sec := { s.sec with slots := s.sec.slots.set (stageSlot s).val {}, norDue := false } }))) ∧
     (∀ old new, s.sec.cmd = .activate → s.sec.updState = 3 → manifestOf s s.sec.running = some old →
       manifestOf s (otherSlot s) = some new →
       exec (.preloadDone false) s = .next (ended .digest s) ∧
       (handoverOk old new = false → exec (.preloadDone true) s = .next (ended .rejected s)) ∧
       (handoverOk old new = true → exec (.preloadDone true) s =
         .next (settle s { s with sec := { s.sec with updState := 4 } } 0)))) ∧
  (∀ (s : State), pfOpen s 0x50014 = true → s.sec.window = none →
     let answered := fun (r : UpdResult) (z : State) => settle s { z with sec := { z.sec with updResult := r.code } } intUpdate
     let stopped := { s with sec := { s.sec with cmd := .none, updState := idleState s, swapped := 0, rolling := false, aborting := false } }
     (∀ src host, s.sec.cmd = .stage src host →
       (s.sec.norDue = false → exec .abort s = .next (answered .aborted stopped)) ∧
       (s.sec.norDue = true → let cut := { s with sec := { s.sec with slots := s.sec.slots.set (stageSlot s).val {}, norDue := false } }
         exec .abort s = .next (answered .aborted { cut with
           sec := { cut.sec with cmd := .none, updState := idleState cut, swapped := 0, rolling := false, aborting := false } }))) ∧
     (s.sec.cmd = .activate → s.sec.swapped = 0 → exec .abort s = .next (answered .aborted stopped)) ∧
     (s.sec.cmd = .activate → s.sec.swapped ≠ 0 → exec .abort s = .next (settle s { s with
       sec := { s.sec with
         updState := 5, rolling := true, aborting := true } } 0)) ∧
     (s.sec.cmd = .none → s.sec.rolling = false → exec .abort s = .next (answered .notAllowed s)) ∧
     (∀ m, s.sec.cmd = .none → manifestOf s s.sec.running = some m → s.sec.recovery = false →
       (iodCool s = false → exec .commit s = .next (answered .temp s)) ∧
       (iodCool s = true → exec .commit s = .next (answered .ok { s with sec := { s.sec with fuses := { s.sec.fuses with
         svn := max s.sec.fuses.svn m.svn
         revoke := s.sec.fuses.revoke ||| (m.revokeMask &&& ~~~(1#4 <<< m.keySlot.val)) } } })))) ∧
  (∀ (s : State), s.sec.cmd = .activate → s.sec.rolling = false →
     (∀ d, s.sec.updState = 4 → s.sec.window = none → nextDomain s s.sec.swapped = some d → 12 ≤ d → d ≠ 20 →
       exec .swapWindowOpen s = .next (settle s { s with sec := { s.sec with swapped := d, window := some d } } 0)) ∧
     (∀ t : Fin 12, s.sec.updState = 4 → s.sec.window = none → nextDomain s s.sec.swapped = some t.val → ∃ u,
       exec .swapWindowOpen s = .next u ∧ u.sec.window = some t.val ∧
       ∀ k : Fin 4, (u.tiles[t].cores[k]).st ≠ .idle ∧ (u.tiles[t].cores[k]).st ≠ .running) ∧
     (∀ d, s.sec.window = some d → s.sec.deferred = [] → s.sec.heldReports = [] → 12 ≤ d → s.sec.asked = [] →
       (d ≠ 17 → d < 21 → exec (.swapWindowClose true) s = .next (settle s { s with
         sec := { s.sec with window := none, swapped := d + 1 } } 0)) ∧
       (d = 17 → exec (.swapWindowClose true) s = .next (settle s { s with
         tailor := { s.tailor with onHd2 := !s.tailor.onHd2 }
         sec := { s.sec with window := none, swapped := 18 } } 0)) ∧
       (s.sec.swapped ≠ 0 → exec (.swapWindowClose false) s = .next (settle s { s with
         sec := { s.sec with window := none, updState := 5, rolling := true } } 0)) ∧
       (d = 21 → ∃ t, exec (.swapWindowClose true) s = .next t ∧
         if Config.norWaits s.free then
           t = settle s { s with
             free := s.free + 1
             sec := { s.sec with window := none, swapped := 22 } } 0
         else t.sec.running = otherSlot s ∧ t.sec.cmd = .none ∧
         t.sec.updResult = UpdResult.ok.code ∧
         (t.sec.slots[otherSlot s]).activation = some (((s.sec.slots[s.sec.running]).activation).getD 0 + 1) ∧
         (t.sec.slots[otherSlot s]).manifest = (s.sec.slots[otherSlot s]).manifest)) ∧
     (∀ a, s.sec.window = some 19 → s.hk.halted = false → s.sec.deferred = [] → s.sec.heldReports = [] → s.sec.asked = [a] → ∃ w,
       exec (.swapWindowClose true) s = .next (settle s
         (updSec (fun x => { x with swapped := 20 }) (serveAsked { s with sec := { s.sec with window := none, asked := [] } } a)) w))) ∧
  (∀ (s : State), s.sec.cmd = .activate → s.sec.rolling = true → s.sec.deferred = [] → s.sec.heldReports = [] → s.sec.asked = [] →
     (s.sec.window = some 0 → ∃ t, exec (.swapWindowClose true) s = .next t ∧ t.sec.cmd = .none ∧ t.sec.window = none ∧
       t.sec.updResult = (if s.sec.aborting then UpdResult.aborted.code else UpdResult.rolledBack.code) ∧ t.sec.running = s.sec.running) ∧
     (∀ d, s.sec.window = some d → 12 ≤ d → d ≠ 17 → exec (.swapWindowClose true) s = .next (settle s { s with
       sec := { s.sec with window := none, swapped := d } } 0)))

/-- NEW_CHAL puts a new challenge in force; SUBMIT reads a token for it and clears it, and answers without one NO_CHALLENGE, and
BUSY while an update command runs (R426, R432). A token that does not hold for this module and challenge is refused and changes
nothing else (R426). A valid one for VENDOR_DEBUG enters it unless it is disabled (R427): every context but 0 is gone, and
memory no longer reads. FAILURE_ANALYSIS blows its copies and the secrets (R428), and both blows need the IOD between 0 and 85
°C (R401). -/
def Obligations.DebugTokensChangeTheState : Prop :=
  ∀ (s : State),
    (pfOpen s 0xF000C = true → s.sec.window = none →
      (∃ ch, exec .newChal s = .next (settle s { s with
        sec := { s.sec with challenge := some ch }
        free := s.free + 1 } 0)) ∧
      (∀ ch, s.sec.cmd = .none → s.sec.challenge = some ch →
        exec .submit s = .next (settle s { s with sec := { s.sec with challenge := none, submit := some ch } } 0)) ∧
      (s.sec.cmd ≠ .none → exec .submit s = .next (settle s { s with
        sec := { s.sec with dbgResult := 6, challenge := none, submit := none } } intDebug)) ∧
      (s.sec.cmd = .none → s.sec.challenge = none → exec .submit s = .next (settle s { s with
        sec := { s.sec with dbgResult := 2, challenge := none, submit := none } } intDebug))) ∧
    (∀ (ch : BitVec 256) (k : TokenRead), s.sec.submit = some ch →
      (tokenValid s ch k = false → exec (.debugTokenVerify k) s = .next (settle s { s with
        sec := { s.sec with dbgResult := 3, challenge := none, submit := none } } intDebug)) ∧
      (tokenValid s ch k = true →
        (k.request = 1 → s.sec.fuses.vdDisable = true → exec (.debugTokenVerify k) s = .next (settle s { s with
          sec := { s.sec with dbgResult := 4, challenge := none, submit := none } } intDebug)) ∧
        (k.request = 1 → s.sec.fuses.vdDisable = false → s.sec.debug ≠ 2 → ∃ t, exec (.debugTokenVerify k) s = .next t ∧
          t.sec.debug = 1 ∧ t.sec.dbgResult = 1 ∧ t.ctxs.map (·.num) = [0] ∧ t.hbm = [] ∧ t.lp = [] ∧ t.vault.st = 0 ∧
          t.sec.sessions = [] ∧ t.sec.fuses = s.sec.fuses) ∧
        (k.request ≠ 1 → iodCool s = false → exec (.debugTokenVerify k) s = .next (settle s { s with
          sec := { s.sec with dbgResult := 5, challenge := none, submit := none } } intDebug)) ∧
        (k.request = 2 → iodCool s = true → ∃ t, exec (.debugTokenVerify k) s = .next t ∧ t.sec.debug = 2 ∧
          t.sec.fuses = { s.sec.fuses with
            fa := 7, deviceSecret := BitVec.allOnes 256, edSeed := BitVec.allOnes 256, mldsaSeed := BitVec.allOnes 256 } ∧ t.ctxs.map (·.num) = [0] ∧ t.hbm = [] ∧ t.lp = []) ∧
        (k.request = 3 → iodCool s = true → exec (.debugTokenVerify k) s = .next (settle s { s with
          sec := { s.sec with
            dbgResult := 1, challenge := none, submit := none, fuses := { s.sec.fuses with vdDisable := true } } } intDebug))))

/-- SPDM starts with GET_VERSION, answered 1.3, which starts negotiation again; GET_CAPABILITIES and NEGOTIATE_ALGORITHMS need
it, and the requests for digests, certificate and signatures need the negotiation (R420). Signatures are refused in
FAILURE_ANALYSIS (R428); a large request goes in chunks, in order (R420); any other request gets UnsupportedRequest (R420).
GET_MEASUREMENTS gives a component's running digest, the state block 0x30, the attestation report under the nonce as block 0x80
(R416, R421), which waits for a swap window to close (R418) and comes in chunks where it is larger than 16 KiB (R316, R420), the
endorsement 0x81 and all blocks 0xFF, and refuses other indices. KEY_EXCHANGE opens one of two sessions; with a KEM secret
pending, which HYBRID_REQ demands, it consumes it and runs on the hybrid secret, and tells the digest of key and ciphertext
(R422–R424); FINISH establishes it, END_SESSION ends it (R420, R424). Within a session the IDE keys of a stream are programmed,
in flit mode, for the Link stream and at most four Selective ones (R317, R424); K_SET_GO makes the stream Secure and lets its
held traffic go on (R318); K_SET_STOP takes the key away (R424). Outside a session they are refused. -/
def Obligations.SpdmAnswersMeasuresAndKeys : Prop :=
  (∀ (s : State), s.doeOpen = true →
     let told := fun (code : Nat) (v : BitVec 256) => settle s { s with reply := .spdm code v, free := s.free + 1 } 0
     let refused := fun (code : Nat) => settle s { s with reply := .spdmError code } 0
     (exec .getVersion s = .next (settle s { s with
       reply := .spdm 0x04 0x1300
       sec := { s.sec with versioned := true, negotiated := false } } 0)) ∧
     exec .spdmUnsupported s = .next (refused 7) ∧
     (s.sec.versioned = false → exec .getCapabilities s = .next (refused 4) ∧
       ∀ b, exec (.negotiateAlgorithms b) s = .next (refused 4)) ∧
     (s.sec.versioned = true → exec .getCapabilities s = .next (settle s { s with reply := .spdm 0x61 0x202F6 } 0) ∧
       exec (.negotiateAlgorithms false) s = .next (refused 1) ∧
       ∃ v, exec (.negotiateAlgorithms true) s = .next (settle s { s with
         reply := .spdm 0x63 v
         sec := { s.sec with negotiated := true }
         free := s.free + 1 } 0)) ∧
     (∀ (off len : Nat) (h : SummaryHash) (nonce : BitVec 256),
       (s.sec.negotiated = false → exec .getDigests s = .next (refused 4) ∧ exec (.getCertificate 0 off len) s = .next (refused 4) ∧
         exec (.challenge 0 h nonce) s = .next (refused 4)) ∧
       (s.sec.versioned = true → s.sec.negotiated = true →
         (∃ v, exec .getDigests s = .next (told 0x01 v)) ∧ (∃ v, exec (.getCertificate 0 off len) s = .next (told 0x02 v)) ∧
         (∀ slot, slot ≠ 0 → exec (.getCertificate slot off len) s = .next (refused 1)) ∧
         (s.sec.debug = 2 → exec (.challenge 0 h nonce) s = .next (refused 7)) ∧
         (s.sec.debug ≠ 2 → h ≠ .other → ∃ v, exec (.challenge 0 h nonce) s = .next (told 0x03 v)))) ∧
     (∀ (id n k : Nat) (bs b : List Byte),
       exec (.chunkSend id 0 false bs) s = .next (settle s { s with
         reply := .spdm 0x05 0
         sec := { s.sec with chunks := some (id, 1, bs) } } 0) ∧
       (s.sec.chunks = some (id, n, b) → 0 < n → exec (.chunkSend id n true bs) s = .next (settle s { s with
         reply := .spdm 0x05 (BitVec.ofNat 256 n)
         sec := { s.sec with chunks := none } } 0)) ∧
       (∀ left, s.sec.largeAns = some (id, k, left) → exec (.chunkGet id k) s = .next (settle s { s with
         reply := .spdmBytes 0x06 (left.take 16384)
         sec := { s.sec with largeAns := if left.length ≤ 16384 then none else some (id, k + 1, left.drop 16384) } } 0)))) ∧
  (∀ (s : State) (nonce : BitVec 256), s.doeOpen = true → s.sec.versioned = true → s.sec.negotiated = true →
     (∀ signed : Bool,
       (signed = true → s.sec.debug = 2 → ∀ i, exec (.getMeasurements i signed nonce) s =
         .next (settle s { s with reply := .spdmError 7 } 0)) ∧
       ((signed = false ∨ s.sec.debug ≠ 2) →
         let gives := fun (i : Nat) (l : List Byte) =>
           exec (.getMeasurements i signed nonce) s = .next (settle s { s with reply := .spdmBytes 0x60 l } 0)
         (∀ i, 1 ≤ i → i ≤ 34 → gives i (compBlock s i) ∧ (compBlock s i).length = 64) ∧
         gives 0x30 (leBytes 8 s.sec.fuses.svn ++ (leBytes 1 s.sec.fuses.revoke.toNat ++ (leBytes 1 s.sec.debug
           ++ (leBytes 1 (slotsByte s) ++ List.replicate 5 0)))) ∧
         gives 0x81 (endorsement s) ∧
         gives 0xFF (((List.range 34).flatMap fun i => compBlock s (i + 1)) ++ block30 s) ∧
         (∀ i, i = 0 ∨ (34 < i ∧ i ≠ 0x30 ∧ i ≠ 0x80 ∧ i ≠ 0x81 ∧ i ≠ 0xFF) →
           exec (.getMeasurements i signed nonce) s = .next (settle s { s with reply := .spdmError 1 } 0)) ∧
         (s.sec.window = none → reportSize s ≤ 16384 → exec (.getMeasurements 0x80 signed nonce) s =
           .next (settle s { s with reply := .report false (report s nonce).bytes } 0)) ∧
         (s.sec.window = none → 16384 < reportSize s → exec (.getMeasurements 0x80 signed nonce) s =
           .next (settle s { s with
             reply := .spdmError 0xF
             sec := { s.sec with largeAns := some (s.sec.generation % 256, 0, (report s nonce).bytes) } } 0)) ∧
         (s.sec.window.isSome = true → exec (.getMeasurements 0x80 signed nonce) s =
           .next (settle s { s with sec := { s.sec with heldReports := s.sec.heldReports ++ [(false, nonce)] } } 0)))) ∧
     (s.sec.debug = 2 → ∀ m, exec (.keyExchange m) s = .next (settle s { s with reply := .spdmError 7 } 0)) ∧
     (exec (.keyExchange true) s = .next (settle s { s with reply := .spdmError 7 } 0)) ∧
     (s.sec.debug ≠ 2 →
       let opens := fun (secret oq : List Byte) => ∃ v, exec (.keyExchange false) s = .next (settle s { s with
         reply := .keyExchanged (newSession s) oq v
         sec := { s.sec with
           sessions := s.sec.sessions ++ [(newSession s, false)], secrets := s.sec.secrets ++ [(newSession s, secret)], kem := none }
         free := s.free + 1 } 0)
       (2 ≤ s.sec.sessions.length → exec (.keyExchange false) s = .next (settle s { s with reply := .spdmError 0xA } 0)) ∧
       (s.sec.sessions.length < 2 →
         (s.sec.hybridReq = true → kemPending s = false →
           exec (.keyExchange false) s = .next (settle s { s with reply := .spdmError 1 } 0)) ∧
         (s.sec.hybridReq = false → kemPending s = false → opens (ecdhSecret s.free) []) ∧
         (∀ key ct, s.sec.kem = some (key, some ct) →
           opens (hybridSecret (kemSecret s.free) (ecdhSecret s.free)) (sha384 (key ++ ct))))) ∧
     (∃ key, key.length = 1184 ∧ exec .kemGet s = .next (settle s { s with
       reply := .spdmBytes 0x7E key
       sec := { s.sec with kem := some (key, none) }
       free := s.free + 1 } 0)) ∧
     (∀ key ct, s.sec.kem = some (key, none) → exec (.kemCt ct) s = .next (settle s { s with
       reply := .spdmBytes 0x7E []
       sec := { s.sec with kem := some (key, some ct) } } 0)) ∧
     (∀ id, s.sec.sessions = [(id, false)] → (∃ v, exec (.finish id true) s = .next (settle s { s with
         reply := .spdm 0x65 v
         sec := { s.sec with sessions := [(id, true)] }
         free := s.free + 1 } 0)) ∧
       exec (.finish id false) s = .next (settle s { s with
         reply := .spdmError 6
         sec := { s.sec with sessions := [], secrets := s.sec.secrets.filter (·.1 != id) } } 0)) ∧
     (∀ id, (id, true) ∈ s.sec.sessions → exec (.endSession id) s = .next (settle s { s with
       reply := .spdm 0x6C 0
       sec := { s.sec with
         sessions := s.sec.sessions.filter (·.1 != id), secrets := s.sec.secrets.filter (·.1 != id) } } 0))) ∧
  (∀ (s : State) (id st sub : Nat), s.doeOpen = true →
     ((id, true) ∉ s.sec.sessions → ∀ c : Instr, c = .keyProg id st sub ∨ c = .kSetGo id st sub ∨ c = .kSetStop id st sub ∨
       c = .ideKmQuery id ∨ c = .endSession id → exec c s = .next (settle s { s with reply := .spdmError 2 } 0)) ∧
     ((id, true) ∈ s.sec.sessions →
       (s.link.flit = true → (∀ i ∈ s.link.ide, i.id ≠ st) →
         (st < 5 → exec (.keyProg id st sub) s = .next (settle s { s with
           reply := .spdm 0x7E 0
           link := { s.link with
             ide := s.link.ide ++ [{ id := st, keys := [sub], secure := false, insecure := false }] } } 0)) ∧
         (5 ≤ st →
           exec (.keyProg id st sub) s = .next (settle s { s with reply := .spdm 0x7E 1 } 0))) ∧
       (∀ i, s.link.ide = [i] → i.id = st → sub ∈ i.keys →
         exec (.kSetGo id st sub) s = .next (settle s (releaseTraffic { s with
           reply := .spdm 0x7E 0
           link := { s.link with ide := [{ i with secure := true, insecure := false }] } }) 0) ∧
         (i.secure = false → exec (.kSetStop id st sub) s = .next (settle s { s with
           reply := .spdm 0x7E 0
           link := { s.link with ide := [{ i with keys := i.keys.erase sub }] } } 0))) ∧
       ∃ v, exec (.ideKmQuery id) s = .next (settle s { s with reply := .spdm 0x7E v, free := s.free + 1 } 0)))

/-- Management comes up with the start-up limits, unprovisioned where its credential record does not read (R321, R324, R435). A
connection is taken within its limit, 4 at start-up and 16 later, and with an installed authority, otherwise TLS refuses it;
it closes again (R324, R437–R439). The port reports its link, and an echo is answered (R433). The provisioning session makes
the one Administrator and ends; it also ends with its pin, and the pin held for 10 s erases the credential record (R437). A
password opens a session, five failures within 60 s lock the account for 300 s (R438); a session is deleted, or closes when
idle (R438, R441). -/
def Obligations.ManagementSessionsAndProvisioning : Prop :=
  (∀ (s : State),
     (booted s = true → s.mod.rails = true → s.mod.perst = false → s.mgmt.dead = false → s.mgmt.up = false →
       (s.mgmt.credential = true → s.sec.debug ≠ 2 → exec .mgmtUp s = .next (settle s { s with
         mgmt := { s.mgmt with up := true, startup := true } } 0)) ∧
       (s.mgmt.credential = false → exec .mgmtUp s = .next (settle s { s with
         mgmt := { s.mgmt with
           up := true, startup := true, accounts := [], sessions := [], authorities := [], tlsKey := false, cert := none
           network := 0, networkNext := none }
         hk := { s.hk with mgmtCap := 2700 } } 0))) ∧
     exec .mgmtStartupLimitEnd s = .next (settle s { s with mgmt := { s.mgmt with startup := false } } 0) ∧
     (∀ (id : Nat) (cred : ConnCred) (l v6 p1 p2 : Bool),
       (mgmtServes s = false → exec (.mgmtConnection id cred l) s = .next (settle s { s with reply := .tcpRefused } 0)) ∧
       (mgmtServes s = true → (∀ c ∈ s.mgmt.conns, c.id ≠ id) → s.mgmt.accounts ≠ [] →
         (s.mgmt.conns.length < (if s.mgmt.startup then 4 else 16) → credOk s cred = true →
           exec (.mgmtConnection id cred l) s = .next (settle s { s with
             reply := .accepted
             mgmt := { s.mgmt with conns := s.mgmt.conns ++ [{ id := id }] } } 0)) ∧
         ((if s.mgmt.startup then 4 else 16) ≤ s.mgmt.conns.length ∨ credOk s cred = false →
           exec (.mgmtConnection id cred l) s = .next (settle s { s with reply := .tlsRefused } 0))) ∧
       (mgmtServes s = true → s.mgmt.conns = [] → s.mgmt.accounts = [] → s.mgmt.provision = true →
         exec (.mgmtConnection id .noCertificate true) s = .next (settle s { s with
           reply := .accepted
           mgmt := { s.mgmt with conns := [{ id := id, prov := true }] } } 0)) ∧
       (isStage s = false → exec (.managementConnectionClose id) s = .next (settle s { s with
         mgmt := { s.mgmt with conns := s.mgmt.conns.filter fun x => !(x.id == id) } } 0)) ∧
       exec (.managementPortLinkChange true p1 p2) s = .next (settle s { s with
         mgmt := { s.mgmt with phy := if p1 then 2 else if p2 then 1 else 0 } } 0) ∧
       exec (.managementPortLinkChange false p1 p2) s = .next (settle s { s with mgmt := { s.mgmt with phy := 0 } } 0) ∧
       (mgmtServes s = true → exec (.icmpEcho v6) s = .next (settle s { s with reply := .echo } 0)))) ∧
  (∀ (s : State),
     (∀ conn user pw len : Nat, mgmtServes s = true → s.mgmt.provision = true → s.mgmt.accounts = [] → 12 ≤ len → len ≤ 64 →
       (s.mgmt.conns.any fun c => c.id == conn && c.prov) = true → s.vault.st = 2 → s.vault.writeHold = false →
       exec (.provisionAccountCreate conn user pw len) s = .next (settle s { s with
         reply := .http 201 0 0
         mgmt := { s.mgmt with
           accounts := [{ user := user, role := .administrator, password := pw }], tlsKey := true, cert := none
           conns := s.mgmt.conns.filter fun c => !c.prov } } 0)) ∧
     exec .mgmtProvisionDeassert s = .next (settle s { s with
       mgmt := { s.mgmt with provision := false, conns := s.mgmt.conns.filter fun c => !c.prov } } 0) ∧
     (s.mgmt.provision = true → exec .credentialErase s = .next (settle s (note .credentialErased (loseCredential s)) 0)) ∧
     (∀ (r : Req) (c : Conn) (a : Account) (pw : Nat), mgmtServes s = true → s.mgmt.conns.find? (·.id == r.conn) = some c →
       c.prov = false → withinRate c r.second s.mgmt = true → s.account? a.user = some a → a.locked = false →
       let k := countRequest c r.second s
       (pw = a.password → exec (.sessionCreate r a.user pw) s = .next (settle s { k with
         reply := .http 201 0 s.mgmt.nextSession
         mgmt := { k.mgmt with
           sessions := s.mgmt.sessions ++ [(s.mgmt.nextSession, a.user)], nextSession := s.mgmt.nextSession + 1 } } 0)) ∧
       (pw ≠ a.password → ∃ t, exec (.sessionCreate r a.user pw) s = .next t ∧ t.reply = .http 401 0 0 ∧
         t.mgmt.sessions = s.mgmt.sessions ∧
         ((t.account? a.user).map (·.locked)) = some (decide (4 ≤ (a.fails.filter fun f => r.second - f < 60).length)))) ∧
     (∀ user, exec (.passwordLockoutEnd user) s = .next (settle s { s with
       mgmt := { s.mgmt with
         accounts := updWhere (·.user == user) (fun a => { a with locked := false, fails := [] }) s.mgmt.accounts } } 0)) ∧
     (∀ (r : Req) (c : Conn) (a : Account) (n : Nat), Granted s 0 .sessions r c a → (n, a.user) ∈ s.mgmt.sessions →
       (∀ x ∈ s.mgmt.sessions, x.1 = n → x.2 = a.user) →
       exec (.sessionDelete r n) s = .next (settle s (http 200 (updMgmt (fun m =>
         { m with sessions := m.sessions.filter (·.1 != n) }) (countRequest c r.second s))) 0)) ∧
     (∀ n, exec (.sessionIdleTimeout n) s = .next (settle s { s with
       mgmt := { s.mgmt with sessions := s.mgmt.sessions.filter (·.1 != n) } } 0)))

/-- An Administrator creates, changes and deletes accounts, at most eight, with passwords of 12 to 64 characters, while the
vault takes the credential record (R435, R436); the last Administrator is neither demoted nor deleted (R436), and a deleted
account's sessions close (R438). Certificates and authorities are installed, for the server's own key (R434, R438); network
settings are accepted and take effect 1 s later, with every connection closed (R443). -/
def Obligations.AccountsCertificatesAndNetwork : Prop :=
  ∀ (s : State) (r : Req) (c : Conn) (a : Account), s.vault.st = 2 → s.vault.writeHold = false →
    let k := countRequest c r.second s
    let fine := fun (x : Resource) (f : Mgmt → Mgmt) => settle s (http 200 (bumpEtag x (updMgmt f k))) 0
    let made := fun (x : Resource) (f : Mgmt → Mgmt) => settle s (http 201 (bumpEtag x (updMgmt f k))) 0
    (Granted s 2 .accounts r c a → ∀ (user pw len : Nat) (role : Role),
      (len < 12 ∨ 64 < len → exec (.accountCreate r user role pw len) s = .next (settle s (http 400 k) 0)) ∧
      (12 ≤ len → len ≤ 64 → s.account? user = none →
        (s.mgmt.accounts.length < 8 → exec (.accountCreate r user role pw len) s = .next (made .accounts fun m =>
          { m with accounts := m.accounts ++ [{ user := user, role := role, password := pw }] })) ∧
        (8 ≤ s.mgmt.accounts.length → exec (.accountCreate r user role pw len) s = .next (settle s (http 409 k) 0))) ∧
      ((s.account? user).isSome = true →
        (lastAdmin s user = false → exec (.accountPatch r user (some role) none) s = .next (fine .accounts fun m =>
          { m with accounts := updWhere (·.user == user) (fun a => { a with role := role }) m.accounts })) ∧
        (lastAdmin s user = true → role ≠ .administrator →
          exec (.accountPatch r user (some role) none) s = .next (settle s (http 409 k) 0)) ∧
        (lastAdmin s user = true → exec (.accountDelete r user) s = .next (settle s (http 409 k) 0)) ∧
        (lastAdmin s user = false → exec (.accountDelete r user) s = .next (fine .accounts fun m =>
          { m with accounts := m.accounts.filter (·.user != user), sessions := m.sessions.filter (·.2 != user) })))) ∧
    (Granted s 2 .certificates r c a → ∀ n : Nat,
      (∃ b, exec (.generateCsr r) s = .next (settle s { httpBody 200 b k with free := k.free + 1 } 0)) ∧
      exec (.replaceCertificate r n true) s = .next (fine .certificates fun m => { m with cert := some n }) ∧
      exec (.replaceCertificate r n false) s = .next (settle s (http 400 k) 0) ∧
      (n ∉ s.mgmt.authorities → exec (.clientAuthorityInstall r n) s = .next (made .certificates fun m =>
        { m with authorities := m.authorities ++ [n] }))) ∧
    (Granted s 2 .network r c a → ∀ n : Nat,
      exec (.networkSettingsPatch r n) s = .next (fine .network fun m => { m with networkNext := some n })) ∧
    (∀ n, s.mgmt.networkNext = some n → isStage s = false → exec .networkSettingsApply s = .next (settle s { s with
      mgmt := { s.mgmt with network := n, networkNext := none, conns := [] } } 0))

/-- The controls of an Operator: a power limit of 405 to 1,350 W, in force at the next tick (R371, R443), the resting state
(R443), SAFELIGHT (R443, R464), which wait while housekeeping is halted or in its own swap window (R461, R490), remote light on
PT0, whose pieces leave it, and its end at PT0's next fix point (R176). A request without the role is forbidden (R436), and one
with a stale ETag fails (R440). The update actions of an Administrator run the commands of SEC_UPD_CMD, answered 202 with the
task, or 409 with BUSY while another runs (R445); reports, register words, contact sheets, resources and event streams answer
any account (R419, R441, R442, R444, R452), a read at an address that is not aligned with the bytes addressed (R9), events as
entries of 64 bytes (R450); the service facilities exist in a debug state only, for Service accounts, and read the private
memory of a processor that is there (R26, R447). -/
def Obligations.ManagementActionsUpdatesAndReads : Prop :=
  (∀ (s : State) (r : Req) (c : Conn) (a : Account), let k := countRequest c r.second s
     (Granted s 1 .powerLimit r c a → s.vault.st = 2 → s.vault.writeHold = false → ∀ w : Nat,
       (405 ≤ w → w ≤ 1350 → exec (.powerLimitPatch r w) s = .next (settle s (http 200 (bumpEtag .powerLimit { k with
         hk := { k.hk with mgmtCap := 2 * w } })) 0)) ∧
       (w < 405 ∨ 1350 < w → exec (.powerLimitPatch r w) s = .next (settle s (http 400 k) 0))) ∧
     (Granted s 0 .powerLimit r c a → roleLevel a.role = 0 → ∀ w : Nat,
       exec (.powerLimitPatch r w) s = .next (settle s (http 403 k) 0)) ∧
     (Granted s 1 .housekeeping r c a → ∀ p : PState,
       (hkAway s = false → exec (.powerStateAction r p.code) s = .next (settle s (http 200 (requestPower p k)) 0)) ∧
       (hkAway s = true → exec (.powerStateAction r p.code) s = .next (settle s (http 202 { k with
         sec := { k.sec with asked := s.sec.asked ++ [.power p] } }) 0))) ∧
     (Granted s 1 .manager r c a → hkAway s = true →
       exec (.mgmtSafelightEnter r) s = .next (settle s (http 202 { k with
         sec := { k.sec with asked := s.sec.asked ++ [.enter] } }) 0) ∧
       exec (.mgmtSafelightExit r) s = .next (settle s (http 202 { k with
         sec := { k.sec with asked := s.sec.asked ++ [.leave] } }) 0)) ∧
     (Granted s 1 .manager r c a → hkAway s = false →
       (s.mod.mstate = .ready → ∃ t, exec (.mgmtSafelightEnter r) s = .next t ∧ t.mod.mstate = .safelight ∧
         t.mod.slCause = s.mod.slCause ||| 8 ∧ t.mod.slResult = 1 ∧ t.reply = .http 200 0 0) ∧
       (s.mod.mstate = .safelight → s.mod.slExit = false →
         (s.mod.slCause = 8 → ∃ t, exec (.mgmtSafelightExit r) s = .next t ∧ t.mod.slExit = true ∧ t.mod.slCause = 0 ∧
           t.reply = .http 200 0 0) ∧
         (s.mod.slCause.getLsbD 0 = true → ∃ t, exec (.mgmtSafelightExit r) s = .next t ∧ t.mod.slExit = false ∧
           t.mod.slResult = 3 ∧ t.reply = .http 409 0 0))) ∧
     (Granted s 1 (.tile 0) r c a →
       (s.mod.rliEn = false → s.mod.mstate = .ready → s.tiles[(0 : Fin 12)].safelight = false → ∃ t,
         exec (.rliEnable r true) s = .next t ∧ t.mod.rliEn = true ∧ t.mod.rliStatus = 1 ∧ t.tiles[(0 : Fin 12)].rli = true ∧
         t.mod.rliReturn = true ∧ t.tiles[(0 : Fin 12)].st = .threading ∧ t.tiles[(0 : Fin 12)].cal.step = 1) ∧
       (s.tiles[(0 : Fin 12)].rli = true → s.tiles[(0 : Fin 12)].st = .locked →
         exec (.rliDisable r) s = .next (settle s (http 200 (updTile 0 (Tile.await .leaveRli)
           { k with mod := { k.mod with rliEn := false } })) 0)))) ∧
  (∀ (s : State) (r : Req) (c : Conn) (a : Account), let k := countRequest c r.second s
     (Granted s 2 .update r c a → s.sec.window = none →
       (∀ src : BundleRead, s.sec.cmd = .none → src.fault = false → manifestAccepted src.manifest s = true → ∃ t,
         exec (.multipartUpdatePush r src) s = .next t ∧ t.sec.cmd = .stage src false ∧ t.sec.updState = 1 ∧
         t.mgmt.upload = some r.conn ∧ ∃ b, t.reply = .http 202 0 b) ∧
       (s.sec.cmd = .none → s.sec.recovery = false → otherCode s = 1 → ∃ t, exec (.updateActivateAction r) s = .next t ∧
         t.sec.cmd = .activate ∧ t.sec.updState = 3 ∧ ∃ b, t.reply = .http 202 0 b) ∧
       (s.sec.cmd ≠ .none → ∃ t, exec (.updateActivateAction r) s = .next t ∧ t.sec.cmd = s.sec.cmd ∧
         t.sec.updResult = 2 ∧ t.reply = .http 409 0 0) ∧
       (∀ src, s.sec.cmd = .stage src false → ∃ t, exec (.updateAbortAction r) s = .next t ∧ t.sec.cmd = .none ∧
         t.sec.updResult = 7 ∧ ∃ b, t.reply = .http 202 0 b) ∧
       (∀ m, s.sec.cmd = .none → s.sec.recovery = false → iodCool s = true → manifestOf s s.sec.running = some m → ∃ t,
         exec (.updateCommitAction r) s = .next t ∧ t.sec.updResult = 1 ∧ t.sec.fuses.svn = max s.sec.fuses.svn m.svn ∧
         ∃ b, t.reply = .http 202 0 b)) ∧
     (Granted s 0 .update r c a → s.sec.window = none → ∀ nonce,
       exec (.attestationAction r nonce) s = .next (settle s { k with reply := .report true (report s nonce).bytes } 0)) ∧
     (Granted s 0 .manager r c a → ∀ addr,
       exec (.registersAction r addr) s = .next (settle s { k with
         reply := .httpWords [(readBytes (mgmtWord s (addr / 4 * 4)) addr 4 : Int)] } 0)) ∧
     (∀ t : Fin 12, Granted s 0 (.tile t) r c a →
       exec (.contactSheetGet r (some t)) s = .next (settle s { k with reply := .httpWords (sheetOf s t) } 0) ∧
       exec (.redfishGet r (.tile t)) s = .next (settle s { k with reply := .httpWords (wordsFrom s (tileBase t) 3) } 0)) ∧
     (Granted s 0 .eventService r c a → (s.mgmt.conns.filter (·.stream)).length < 4 → ∃ t marker,
       exec (.eventStreamOpen r none) s = .next t ∧
       t.reply = .events marker ((heldFrom s.mgmt (s.mgmt.nextSeq.getD 0)).map LogEntry.bytes) ∧
       (∀ l, t.reply = .events marker l → ∀ b ∈ l, b.length = 64) ∧
       ∀ x ∈ t.mgmt.conns, x.id = r.conn → x.stream = true) ∧
     (Granted s 0 .serviceFacilities r c a → ∀ (p : Proc) (inst addr len : Nat) (raise : Bool) (core : Fin 48) (row : Fin 67)
         (half : Fin 2) (smp : List Byte),
       (s.sec.debug = 0 → exec (.serviceMemoryRead r ⟨p, inst⟩ addr len) s = .next (settle s (http 404 k) 0) ∧
         exec (.serviceLogDetail r raise) s = .next (settle s (http 404 k) 0) ∧
         exec (.serviceAdcCapture r core row half smp) s = .next (settle s (http 404 k) 0)) ∧
       (s.sec.debug ≠ 0 → a.role = .service →
         (p ≠ .thimble → p ≠ .hubDie → procExists p inst = true → addr + len ≤ privateSize p → ∃ l, l.length = len ∧
           exec (.serviceMemoryRead r ⟨p, inst⟩ addr len) s = .next (settle s { k with reply := .httpWords l, free := k.free + 1 } 0)) ∧
         exec (.serviceLogDetail r raise) s = .next (settle s (http 200 { k with mgmt := { k.mgmt with detail := raise } }) 0) ∧
         (smp.length ≤ 65536 → exec (.serviceAdcCapture r core row half smp) s =
           .next (settle s { k with reply := .httpWords (smp.map fun b => (b.toNat : Int)) } 0)))))

/-- With the auxiliary rail up and a good PEC the MCTP control commands assign and report the endpoint ID, version 1.3 and
message type PLDM, the PLDM base commands report types 0 and 2 (R453), and the sensors answer with their operational state
(R454, R455); the record of a sensor holds its ID and units, and the repository 300 of them (R454); the codes and layouts are
those of the standards (assumption 44). A bad PEC is not acknowledged (R453); the alert response gives the module's own address
while SMB_ALERT_N is asserted (R456). -/
def Obligations.SidebandAnswers : Prop :=
  ∀ (s : State), s.mod.auxOn = true →
    let told := fun (r : Reply) => (.next (settle s { s with reply := r } 0) : Out)
    (∀ eid : BitVec 8, (eid ≠ 0 → eid ≠ 0xFF → exec (.setEndpointId eid true) s = .next (settle s { s with
        reply := .mctp [0, 0, eid.toNat, 0]
        mgmt := { s.mgmt with eid := eid } } 0)) ∧
      exec (.setEndpointId 0 true) s = .next (settle s { s with reply := .mctp [2] } 0) ∧
      exec (.setEndpointId 0xFF true) s = .next (settle s { s with reply := .mctp [2] } 0) ∧
      exec (.setEndpointId eid false) s = .next (settle s { s with reply := .noAck } 0)) ∧
    exec (.getEndpointId true) s = .next (settle s { s with reply := .mctp [0, s.mgmt.eid.toNat, 0, 0] } 0) ∧
    exec (.getMctpVersionSupport true) s = .next (settle s { s with reply := .mctp [0, 1, 0xF1, 0xF3, 0xFF, 0] } 0) ∧
    exec (.getMessageTypeSupport true) s = .next (settle s { s with reply := .mctp [0, 1, 1] } 0) ∧
    exec (.getPldmTypes true) s = .next (settle s { s with reply := .pldm 0 [5] } 0) ∧
    exec (.getPldmCommands 0 true) s = .next (settle s { s with reply := .pldm 0 [60] } 0) ∧
    exec (.getPldmCommands 2 true) s = .next (settle s { s with reply := .pldm 0 [2 ^ 0x11 + 2 ^ 0x21 + 2 ^ 0x50 + 2 ^ 0x51] } 0) ∧
    (∃ l : List Int, l.length = 1 ∧ exec (.getTid true) s = .next (settle s { s with reply := .pldm 0 l } 0)) ∧
    (∀ n, n = 0 ∨ n = 2 → ∃ l : List Int, l.length = 4 ∧
      exec (.getPldmVersion n true) s = .next (settle s { s with reply := .pldm 0 l } 0)) ∧
    (∀ n, n ≠ 0 → n ≠ 2 → exec (.getPldmVersion n true) s = .next (settle s { s with reply := .pldm 0x83 [] } 0) ∧
      exec (.getPldmCommands n true) s = .next (settle s { s with reply := .pldm 0x83 [] } 0)) ∧
    (∃ l : List Int, l.length = 40 ∧ l.getD 27 0 + 256 * l.getD 28 0 = 300 ∧
      exec (.getPdrRepositoryInfo true) s = .next (settle s { s with reply := .pldm 0 l } 0)) ∧
    (∀ n : Nat, n ≤ 300 → ∃ l : List Int, l.length = 75 ∧
      (1 ≤ n → n ≤ 282 → l.getD 23 0 + 256 * l.getD 24 0 = (n : Int) ∧ l.getD 33 0 = 2 ∧ l.getD 34 0 = 254) ∧
      exec (.getPdr n true) s = .next (settle s { s with reply := .pldm 0 l } 0)) ∧
    (∀ n, 300 < n → exec (.getPdr n true) s = .next (settle s { s with reply := .pldm 0x82 [] } 0)) ∧
    (∀ n, 1 ≤ n → n ≤ 282 → s.mod.rails = true → s.mod.sidebandUp = true →
      (∀ v, (s.hk.at (n - 1)).used = some v → (s.hk.at (n - 1)).failed = false →
        exec (.getSensorReading n true) s = .next (settle s { s with reply := .pldm 0 [0, v] } 0)) ∧
      (∀ v, (s.hk.at (n - 1)).used = some v → (s.hk.at (n - 1)).failed = true →
        exec (.getSensorReading n true) s = .next (settle s { s with reply := .pldm 0 [4, v] } 0)) ∧
      ((s.hk.at (n - 1)).used = none →
        exec (.getSensorReading n true) s = .next (settle s { s with reply := .pldm 0 [2] } 0))) ∧
    (s.mod.rails = true → s.mod.sidebandUp = true → s.mod.perst = false →
      exec (.getStateSensorReadings 310 true) s =
        .next (settle s { s with reply := .pldm 0 [0, (s.mod.mstate.code + 1 : Nat)] } 0) ∧
      exec (.getStateSensorReadings 311 true) s =
        .next (settle s { s with reply := .pldm 0 [0, if throttle s then 2 else 1] } 0) ∧
      ∀ t : Fin 12, exec (.getStateSensorReadings (320 + t.val) true) s =
        .next (settle s { s with reply := .pldm 0 [0, (s.tiles[t].st.code + 1 : Nat)] } 0)) ∧
    exec (.sidebandUnsupported true true) s = .next (settle s { s with reply := .pldm 5 [] } 0) ∧
    exec (.sidebandUnsupported false true) s = .next (settle s { s with reply := .mctp [5] } 0) ∧
    (∀ c : Instr, (∃ n b, c = .getEndpointId false ∨ c = .getMctpVersionSupport false ∨ c = .getMessageTypeSupport false ∨
        c = .getTid false ∨ c = .getPldmVersion n false ∨ c = .getPldmTypes false ∨ c = .getPldmCommands n false ∨
        c = .getSensorReading n false ∨ c = .getStateSensorReadings n false ∨ c = .getPdrRepositoryInfo false ∨
        c = .getPdr n false ∨ c = .sidebandUnsupported b false) → exec c s = told .noAck) ∧
    (smbAlert s = true →
      exec .smbusAlertResponse s = .next (settle s { s with reply := .smbus (0x58 + s.mgmt.smbAddr.toNat) } 0)) ∧
    (smbAlert s = false → exec .smbusAlertResponse s = .next (settle s { s with reply := .noAck } 0))

/-- The three memories stay in their canonical form, whatever state a step starts in with them so. -/
def Obligations.MemoryStaysCanonical : Prop :=
  ∀ s t : State, s.memoryWf = true → step s = .next t → t.memoryWf = true

/-- FAULT is left only by a module reset (R470): every other command keeps it, with the cause and the instance that GLB_FAULT
shows (R471). -/
def Obligations.FaultIsLeftOnlyByReset : Prop :=
  ∀ (c : Instr) (s t : State), Instr.mayReset c = false → s.mod.mstate = .fault → exec c s = .next t →
    t.mod.mstate = .fault ∧ t.mod.faultCause = s.mod.faultCause ∧ t.mod.faultInst = s.mod.faultInst

/-- Fuses only gain (R399, R401): no command changes the serial number, takes back a revocation, VD_DISABLE or a bit of the
secrets, or lowers the SVN, and none blows a fuse unless every IOD sensor reads 0–85 °C. FAILURE_ANALYSIS, once fused,
is never left, and VENDOR_DEBUG only by a module reset or for FAILURE_ANALYSIS (R425, R428). -/
def Obligations.FusesOnlyGain : Prop :=
  ∀ (c : Instr) (s t : State), exec c s = .next t →
    t.sec.fuses.serial = s.sec.fuses.serial ∧ s.sec.fuses.revoke &&& ~~~t.sec.fuses.revoke = 0 ∧ s.sec.fuses.svn ≤ t.sec.fuses.svn ∧
    (s.sec.fuses.vdDisable = true → t.sec.fuses.vdDisable = true) ∧
    s.sec.fuses.deviceSecret &&& ~~~t.sec.fuses.deviceSecret = 0 ∧ s.sec.fuses.edSeed &&& ~~~t.sec.fuses.edSeed = 0 ∧
    s.sec.fuses.mldsaSeed &&& ~~~t.sec.fuses.mldsaSeed = 0 ∧
    (t.sec.fuses = s.sec.fuses ∨ iodCool s = true) ∧
    (s.sec.debug = 2 → fusedDebug s.sec.fuses = 2 → t.sec.debug = 2 ∧ fusedDebug t.sec.fuses = 2) ∧
    (s.sec.debug = 1 → Instr.mayReset c = false → t.sec.debug = 1 ∨ t.sec.debug = 2)

/-- The pages of a context are aligned to their size and do not overlap (R260, R261, R263). -/
def Obligations.MappedPagesStayDisjoint : Prop :=
  ∀ s t : State, s.pagesOk = true → step s = .next t → t.pagesOk = true

/-- GLB_ID reads 0x7240_0101 on stepping A1 and 0x7240_0102 on A2 (R1, R473), in every function. GLB_FUNC reads 0 in PF BAR0 and
n in the BAR0 of VF n, with its reserved bits 0 (R476); writes to either change nothing. -/
def Obligations.IdentityRegistersReadTheFunction : Prop :=
  ∀ (s : State) (n : Fin 64) (v : BitVec 64),
    (s.mod.stepping = 1 → pfRead s 0x0 = 0x72400101) ∧ (s.mod.stepping = 2 → pfRead s 0x0 = 0x72400102) ∧ vfRead s n 0x0 = pfRead s 0x0 ∧
    pfRead s 0xC = 0 ∧ vfRead s n 0xC = n.val ∧ n.val / 2 ^ 6 = 0 ∧
    (barUp s n = true → ∀ off ∈ [0x0, 0xC], exec (.registerWrite n 0 off 4 v false) s = .next (settle s s 0))

/-- A RAW32 output is the accumulator value clamped to 32 bits, whatever the requantisation word and the exponents, and the
element is saturated when this clamp or the accumulator's acts; the piece names no requantisation words (R114, R123, R126).
Every other output is within its format's range. -/
def Obligations.Raw32OutputsAreClamped : Prop :=
  ∀ (num rq : Nat) (eOut eIn sum : Int),
    let a := (accClamp sum).1
    (numOutFmt num = 4 →
      outputElem num rq eOut eIn sum = (max (-2 ^ 31) (min a (2 ^ 31 - 1)), (accClamp sum).2 || a < -2 ^ 31 || 2 ^ 31 - 1 < a)) ∧
    (numOutFmt num ≠ 4 →
      outLo (numOutFmt num) ≤ (outputElem num rq eOut eIn sum).1 ∧ (outputElem num rq eOut eIn sum).1 ≤ outHi (numOutFmt num)) ∧
    ((outputElem num rq eOut eIn sum).2 = false → a = sum) ∧
    (∀ (f : List Byte) (p : Nat), numOutFmt (pieceNum f p) = 4 → rqOk f p = true → pieceRq0 f p = 0xFFFFFFFF)
end

