-- ==== Sys2Proof/Laws/Memory.lean ====
section
/-! SUPPORT. The laws of the memories: what a write and a scrub do to every address, and that each keeps the canonical form. -/
namespace Sys2Proof.Machine

/-- The canonical form in terms of lists: no byte 0 listed, addresses strictly rising. -/
theorem wf_iff (m : Memory) : Memory.wf m = true ↔ (∀ c ∈ m, c.2 ≠ 0) ∧ m.Pairwise (fun c d => c.1 < d.1) := by
  induction m with
  | nil => simp [Memory.wf]
  | cons c m ih =>
    cases m with
    | nil => simp [Memory.wf]
    | cons d m =>
      simp only [Memory.wf, Bool.and_eq_true, bne_iff_ne, decide_eq_true_eq] at ih ⊢
      constructor
      · rintro ⟨⟨hc, hd⟩, hm⟩
        obtain ⟨h0, hp⟩ := ih.mp hm
        refine ⟨fun x hx => ?_, List.pairwise_cons.mpr ⟨?_, hp⟩⟩
        · rcases List.mem_cons.mp hx with rfl | hx
          · exact hc
          · exact h0 x hx
        intro x hx
        rcases List.mem_cons.mp hx with rfl | hx
        · exact hd
        · exact Nat.lt_trans hd (List.rel_of_pairwise_cons hp hx)
      · rintro ⟨h0, hp⟩
        exact ⟨⟨h0 c (by simp), List.rel_of_pairwise_cons hp (by simp)⟩,
          ih.mpr ⟨fun x hx => h0 x (by simp [hx]), hp.of_cons⟩⟩

theorem wf_tail {c : Cell} {m : Memory} (h : Memory.wf (c :: m) = true) : Memory.wf m = true := by
  rw [wf_iff] at *; exact ⟨fun x hx => h.1 x (by simp [hx]), h.2.of_cons⟩

/-- Below the first address listed every byte reads 0. -/
theorem memRead_below {m : Memory} (a : Nat) (hb : ∀ c ∈ m, a < c.1) :
    memRead m a = 0 := by
  induction m with
  | nil => rfl
  | cons c m ih =>
    have := hb c (by simp)
    simp only [memRead]
    rw [if_neg (by omega)]
    exact ih fun d hd => hb d (by simp [hd])

/-- A write changes the byte at its address, and no other (R4). -/
theorem memRead_memWrite {m : Memory} (h : Memory.wf m = true) (a x : Nat) (b : Byte) :
    memRead (memWrite m a b) x = if x = a then b else memRead m x := by
  induction m with
  | nil =>
    by_cases hb : b = 0
    · simp [memWrite, memRead, hb]
    · simp only [memWrite, if_neg hb, memRead]; split <;> split <;> first | rfl | (exfalso; omega)
  | cons c m ih =>
    have ih := ih (wf_tail h)
    have hlt : ∀ d ∈ m, c.1 < d.1 := fun d hd => List.rel_of_pairwise_cons ((wf_iff _).mp h).2 hd
    simp only [memWrite]
    split
    · simp only [memRead, ih]; split <;> split <;> first | rfl | (exfalso; omega)
    · split
      · next hca =>
        split
        · next hb =>
          split
          · next hx => rw [hb, memRead_below x fun d hd => by have := hlt d hd; omega]
          · next hx => simp only [memRead]; rw [if_neg (by omega)]
        · simp only [memRead]; split <;> split <;> first | rfl | (exfalso; omega) | simp_all
      · split
        · next hb =>
          split
          · next hx =>
            rw [hb, memRead_below x]
            intro d hd
            rcases List.mem_cons.mp hd with rfl | hd
            · omega
            · have := hlt d hd; omega
          · rfl
        · simp only [memRead]
          by_cases hx : x = a
          · simp [hx]
          · rw [if_neg (Ne.symm hx), if_neg hx]

theorem memWrite_mem {m : Memory} {a : Nat} {b : Byte} {d : Cell} (h : d ∈ memWrite m a b) : d ∈ m ∨ (d = (a, b) ∧ b ≠ 0) := by
  induction m with
  | nil => by_cases hb : b = 0 <;> simp [memWrite, hb] at h; exact .inr h.symm
  | cons c m ih =>
    simp only [memWrite] at h
    split at h
    · rcases List.mem_cons.mp h with rfl | h
      · simp
      · exact (ih h).imp_left (List.mem_cons_of_mem _)
    · split at h <;> split at h <;> simp_all
      · rcases h with rfl | h <;> simp_all
      · rcases h with rfl | h <;> simp_all

/-- A write keeps the canonical form. -/
theorem wf_memWrite {m : Memory} (h : Memory.wf m = true) (a : Nat) (b : Byte) : Memory.wf (memWrite m a b) = true := by
  rw [wf_iff]
  refine ⟨fun d hd => ?_, ?_⟩
  · rcases memWrite_mem hd with hd | ⟨rfl, hb⟩
    · exact ((wf_iff _).mp h).1 d hd
    · exact hb
  · induction m with
    | nil => rw [memWrite]; split <;> simp
    | cons c m ih =>
      have hp := ((wf_iff _).mp h).2
      simp only [memWrite]
      split
      · refine List.pairwise_cons.mpr ⟨fun d hd => ?_, ih (wf_tail h)⟩
        rcases memWrite_mem hd with hd | ⟨rfl, _⟩
        · exact List.rel_of_pairwise_cons hp hd
        · assumption
      · split
        · split
          · exact hp.of_cons
          · refine List.pairwise_cons.mpr ⟨fun d hd => ?_, hp.of_cons⟩
            have := List.rel_of_pairwise_cons hp hd; simp only; omega
        · split
          · exact hp
          · refine List.pairwise_cons.mpr ⟨fun d hd => ?_, hp⟩
            rcases List.mem_cons.mp hd with rfl | hd
            · simp only; omega
            · have := List.rel_of_pairwise_cons hp hd; simp only; omega

theorem wf_memWriteN {m : Memory} (h : Memory.wf m = true) (a : Nat) (bs : List Byte) : Memory.wf (memWriteN m a bs) = true := by
  induction bs generalizing m a with
  | nil => exact h
  | cons b bs ih => exact ih (wf_memWrite h a b) _

theorem wf_overlay {m : Memory} (h : Memory.wf m = true) (hs : List Cell) : Memory.wf (overlay hs m) = true := by
  unfold overlay
  induction hs generalizing m with
  | nil => exact h
  | cons c hs ih => exact ih (wf_memWrite h c.1 c.2)

theorem wf_filter {m : Memory} (h : Memory.wf m = true) (p : Cell → Bool) : Memory.wf (m.filter p) = true := by
  rw [wf_iff] at *
  exact ⟨fun c hc => h.1 c (List.mem_filter.mp hc).1, h.2.filter _⟩

theorem wf_zeroRange {m : Memory} (h : Memory.wf m = true) (a n : Nat) : Memory.wf (zeroRange m a n) = true := wf_filter h _

/-- Bytes outside a written range stay. -/
theorem memRead_memWriteN_outside {m : Memory} (h : Memory.wf m = true) (a : Nat) (bs : List Byte) (x : Nat)
    (hx : x < a ∨ a + bs.length ≤ x) : memRead (memWriteN m a bs) x = memRead m x := by
  induction bs generalizing m a with
  | nil => rfl
  | cons b bs ih =>
    simp only [List.length_cons] at hx
    rw [memWriteN, ih (wf_memWrite h a b) _ (by omega), memRead_memWrite h, if_neg (by omega)]

/-- Bytes written are read back. -/
theorem memReadN_memWriteN {m : Memory} (h : Memory.wf m = true) (a : Nat) (bs : List Byte) :
    memReadN (memWriteN m a bs) a bs.length = bs := by
  induction bs generalizing m a with
  | nil => rfl
  | cons b bs ih =>
    rw [List.length_cons, memReadN, memWriteN, ih (wf_memWrite h a b),
      memRead_memWriteN_outside (wf_memWrite h a b) _ _ _ (by omega), memRead_memWrite h, if_pos rfl]

/-- A scrubbed range reads 0, and every other byte stays (R361). -/
theorem memRead_zeroRange (m : Memory) (a n x : Nat) :
    memRead (zeroRange m a n) x = if a ≤ x ∧ x < a + n then 0 else memRead m x := by
  induction m with
  | nil => simp [zeroRange, memRead]
  | cons c m ih =>
    simp only [zeroRange, List.filter_cons] at ih ⊢
    split
    · next hc =>
      simp only [Bool.or_eq_true, decide_eq_true_eq] at hc
      simp only [memRead, ih]
      split <;> split <;> first | rfl | (exfalso; omega)
    · next hc =>
      simp only [Bool.or_eq_true, decide_eq_true_eq, not_or] at hc
      simp only [memRead, ih]
      split
      · rfl
      · rw [if_neg (by omega)]

end Sys2Proof.Machine
end

