-- ==== Sys2Proof/WellFormed.lean ====
section
/-! DEFINITION. Well-formed commands: operands that lie in the ranges the spec gives them. The meanings of the commands do not
assume it: each answers any operands. -/
namespace Sys2Proof

/-- Widths of a register access (R9). -/
def widthOk (width : Nat) : Bool := width == 1 || width == 2 || width == 4 || width == 8

/-- An aligned read that covers bytes of the 32-bit register at `reg` (R9). -/
def readWithin (reg width off : Nat) : Bool := widthOk width && off % width == 0 && decide (off < reg + 4 ∧ reg < off + width)

/-- A queue's number (R330). -/
def queueOk (q : Nat) : Bool := decide (q < 4096)

/-- Host bytes come at 64-bit addresses. -/
def hostCells (hs : List Cell) : Bool := hs.all (·.1 < 2 ^ 64)

/-- A context's number (R347). -/
def pageOk : PageSel → Bool
  | .function _ => true
  | .context n => decide (n < 1024)

/-- A configuration request: offsets within the 4 KiB, fields that only the PF has, read limits of PCI Express, five IDE streams. -/
def CfgAccess.ok (fn : Fin 64) : CfgAccess → Bool
  | .read off => decide (off < 4096)
  | .field f =>
    (match f with
     | .vfDevice | .serialLo | .serialHi | .totalVfs | .initialVfs | .firstVfOffset | .vfStride | .pageSizes => fn == 0
     | .barKind n | .barBytes n => n == 0 || n == 2 || n == 4
     | _ => true)
  | .write (.device n _ _) => fn == 0 && (n == 128 || n == 256 || n == 512 || n == 1024 || n == 2048 || n == 4096)
  | .write (.ide stream _ lo hi base limit) =>
    fn == 0 && decide (stream < 5 ∧ lo ≤ hi ∧ hi < 64 ∧ base ≤ limit ∧ limit < 2 ^ 64)
  | .write _ => true

/-- A manifest is 8,192 bytes (R405). -/
def bundleOk (b : BundleRead) : Bool := b.bytes.length == 8192

/-- The 33 codes of a half-row (R188, R189). -/
def rowMeasOk (m : RowMeas) : Bool :=
  m.a.mu.length == 33 && m.a.sigma.length == 33 && m.b.mu.length == 33 && m.b.sigma.length == 33

/-- The instances of a component (R16, R26): the Tailors lie on HD0 and HD2. -/
def Proc.has (p : Proc) (i : Nat) : Bool :=
  match p with
  | .thimble | .management | .housekeeping | .vault => i == 0
  | .tailor => i == 0 || i == 2
  | .shuttle | .hubDie => decide (i < 4)
  | .tile => decide (i < 12)

/-- A flit carries up to 480 bytes of payload (R169). -/
def flitOk (x : Flit) : Bool := decide (x.payload.length ≤ 480)

/-- The operands of a command lie in their ranges: queue numbers below 4,096 and 64-bit sequence numbers (R330, R334), and the
ranges named above. -/
def Instr.wf : Instr → Bool
  | .nop q seq => queueOk q && decide (seq < 2 ^ 64)
  | .runPattern q seq hs => queueOk q && (decide (seq < 2 ^ 64) && hostCells hs)
  | .loadPattern q seq hs _ => queueOk q && (decide (seq < 2 ^ 64) && hostCells hs)
  | .unloadPattern q seq => queueOk q && decide (seq < 2 ^ 64)
  | .copy q seq hs _ => queueOk q && (decide (seq < 2 ^ 64) && hostCells hs)
  | .fill q seq => queueOk q && decide (seq < 2 ^ 64)
  | .expertHint q seq hs => queueOk q && (decide (seq < 2 ^ 64) && hostCells hs)
  | .fence q seq hs => queueOk q && (decide (seq < 2 ^ 64) && hostCells hs)
  | .signal q seq => queueOk q && decide (seq < 2 ^ 64)
  | .scaleFreeze q seq => queueOk q && decide (seq < 2 ^ 64)
  | .scaleSet q seq => queueOk q && decide (seq < 2 ^ 64)
  | .calibrate q seq => queueOk q && decide (seq < 2 ^ 64)
  | .selfTest q seq => queueOk q && decide (seq < 2 ^ 64)
  | .queryStatus q seq => queueOk q && decide (seq < 2 ^ 64)
  | .createContext seq => decide (seq < 2 ^ 64)
  | .destroyContext seq => decide (seq < 2 ^ 64)
  | .createQueue seq => decide (seq < 2 ^ 64)
  | .destroyQueue seq => decide (seq < 2 ^ 64)
  | .map seq => decide (seq < 2 ^ 64)
  | .unmap seq => decide (seq < 2 ^ 64)
  | .setPartitionAssign seq => decide (seq < 2 ^ 64)
  | .setPartitionRelease seq => decide (seq < 2 ^ 64)
  | .setPartitionReassign seq => decide (seq < 2 ^ 64)
  | .setPartitionCreate seq => decide (seq < 2 ^ 64)
  | .setPartitionResize seq => decide (seq < 2 ^ 64)
  | .setPartitionDelete seq => decide (seq < 2 ^ 64)
  | .setPartitionAttach seq => decide (seq < 2 ^ 64)
  | .setPriority seq => decide (seq < 2 ^ 64)
  | .cancel seq => decide (seq < 2 ^ 64)
  | .nudge _ width value => widthOk width && value.toNat < 2 ^ (8 * width)
  | .doorbellSlotRead q hs _ => queueOk q && hostCells hs
  | .descriptorAdmit q hs _ => queueOk q && hostCells hs
  | .headWriteback q => queueOk q && true
  | .completionRecordWrite q _ => queueOk q && true
  | .coalTimeExpiry q => queueOk q && true
  | .statusPageWrite page => pageOk page
  | .fencePoll q seq hs => queueOk q && (decide (seq < 2 ^ 64) && hostCells hs)
  | .aqEnable value => value.getLsbD 0
  | .aqDisable value => !value.getLsbD 0
  | .clkStatusRead width off => readWithin 0x40004 width off
  | .glbLinkRead width off => readWithin 0x48 width off
  | .pwrEventsRead width off => readWithin 0x30014 width off
  | .stage src => bundleOk src
  | .debugTokenVerify tok => tok.bytes.length == 5392
  | .registerWrite _ bar off width value _ => widthOk width && off % width == 0 && value.toNat < 2 ^ (8 * width) && (bar == 0 || bar == 2 || bar == 4)
  | .msixVectorUnmask fn vec => decide (vec < if fn = 0 then 2048 else 64)
  | .vfFlr fn => fn != 0
  | .vfEnableSet num _ => decide (num ≤ 63)
  | .configRequest fn x _ => CfgAccess.ok fn x
  | .linkTrainingDone speed width _ => decide (1 ≤ speed ∧ speed ≤ 6) && (width == 1 || width == 2 || width == 4 || width == 8)
  | .atsInvalidate _ base len => decide (base + len ≤ 2 ^ 64) && base % 4096 == 0 && len % 4096 == 0
  | .atsTranslationCompletion _ page host _ _ => decide (page < 2 ^ 52 ∧ host < 2 ^ 64) && host % 4096 == 0
  | .feedDogResponse _ hs _ => hostCells hs
  | .getCertificate slot offset length => decide (slot < 256 ∧ offset < 2 ^ 16 ∧ length < 2 ^ 16)
  | .challenge slot _ _ => decide (slot < 256)
  | .getMeasurements index _ _ => decide (index < 256)
  | .chunkSend handle seqNo _ _ => decide (handle < 256 ∧ seqNo < 2 ^ 16)
  | .chunkGet handle seqNo => decide (handle < 256 ∧ seqNo < 2 ^ 16)
  | .kemCt ciphertext => ciphertext.length == 1088
  | .keyProg _ stream sub => decide (stream < 256 ∧ sub < 16)
  | .kSetGo _ stream sub => decide (stream < 256 ∧ sub < 16)
  | .kSetStop _ stream sub => decide (stream < 256 ∧ sub < 16)
  | .ideStreamInsecure stream => decide (stream < 256)
  | .multipartUpdatePush _ src => bundleOk src
  | .registersAction _ addr => decide (addr < 2 ^ 32)
  | .serviceMemoryRead _ _ _ len => decide (len ≤ 4096)
  | .serviceAdcCapture _ _ _ _ samples => samples.all (· < 64)
  | .getPldmVersion type _ => decide (type < 256)
  | .getPldmCommands type _ => decide (type < 256)
  | .getSensorReading sensor _ => decide (sensor < 2 ^ 16)
  | .getStateSensorReadings sensor _ => decide (sensor < 2 ^ 16)
  | .getPdr record _ => decide (record < 2 ^ 32)
  | .monitorRound a b => a.length == 25 && b.length == 24 && a.all (· < 2 ^ 16) && b.all (· < 2 ^ 16)
  | .tileSensorRead _ temps => temps.length == 16
  | .contactSheetMap _ temps => temps.length == 16
  | .seamFlitReceive _ _ flit => flitOk flit
  | .seamErrorWindow _ _ counts => decide (counts.length ≤ 16)
  | .switchReconfiguration _ paths => decide ((paths.map (·.1)).Nodup)
  | .d2dFlitReceive _ flit => flitOk flit
  | .faultDoorbellPoll q hs _ => queueOk q && hostCells hs
  | .pass _ q seq _ _ _ _ samples _ _ => queueOk q && (decide (seq < 2 ^ 64) && decide (samples.length ≤ 67))
  | .powerupCalibrationStep _ results => results.runs.all fun r => rowMeasOk r.2.2
  | .calMeasurementDone _ _ meas _ => rowMeasOk meas
  | .coreSweepDone _ rows => rows.all fun r => rowMeasOk r.2.1 && rowMeasOk r.2.2
  | .pieceMove _ _ fromCores toCores => fromCores.all (fun c => !toCores.contains c)
  | .writeOut q seq _ _ => queueOk q && decide (seq < 2 ^ 64)
  | .commitRecordProgrammed _ copies => copies == 1 || copies == 2
  | .eventReport e _ => decide (e.severity < 4 ∧ 1 ≤ e.cls ∧ e.cls ≤ 12)
  | .processorHeartbeatMiss proc inst _ => proc.has inst
  | .partialResetDone proc inst => proc.has inst
  | .digitalFallbackCompute q seq _ _ => queueOk q && decide (seq < 2 ^ 64)
  | .privateMemoryUncorrectable proc inst _ => proc.has inst
  | .selfTestDeadline .. | .selfTestTileDone .. | .selfTestStop .. | .glbPlacementWrite .. | .clkSscWrite ..
  | .sscDepthApply .. | .intCauseWrite .. | .intEnableWrite .. | .intTestWrite .. | .safelightEnter ..
  | .safelightExit .. | .safelightExitDone .. | .coolingCauseClear .. | .laserSupplyCauseClear .. | .powerTargetWrite ..
  | .pwrCapWrite .. | .stageDone .. | .activate .. | .preloadDone .. | .abort .. | .commit .. | .newChal .. | .submit ..
  | .perstNAssert .. | .perstNDeassert .. | .memoryTrainingDone .. | .wakeN .. | .hotReset .. | .pfFlr ..
  | .vfEnableClear .. | .d3hotEntry .. | .d0Return .. | .linkRetrain .. | .atsInvalidateCompletion ..
  | .completionTimeout .. | .doeDiscovery .. | .doeAbort .. | .getVersion .. | .getCapabilities ..
  | .negotiateAlgorithms .. | .getDigests .. | .keyExchange .. | .finish .. | .endSession .. | .kemGet ..
  | .ideKmQuery .. | .spdmUnsupported .. | .mgmtConnection .. | .mgmtStartupLimitEnd .. | .redfishGet ..
  | .sessionCreate .. | .sessionDelete .. | .sessionIdleTimeout .. | .passwordLockoutEnd .. | .accountCreate ..
  | .accountPatch .. | .accountDelete .. | .generateCsr .. | .replaceCertificate .. | .clientAuthorityInstall ..
  | .powerLimitPatch .. | .powerStateAction .. | .mgmtSafelightEnter .. | .mgmtSafelightExit .. | .rliEnable ..
  | .rliDisable .. | .networkSettingsPatch .. | .networkSettingsApply .. | .updateActivateAction ..
  | .updateAbortAction .. | .updateCommitAction .. | .attestationAction .. | .contactSheetGet .. | .eventStreamOpen ..
  | .serviceLogDetail .. | .provisionAccountCreate .. | .mgmtProvisionDeassert .. | .credentialErase ..
  | .setEndpointId .. | .getEndpointId .. | .getMctpVersionSupport .. | .getMessageTypeSupport .. | .getTid ..
  | .getPldmTypes .. | .getPdrRepositoryInfo .. | .smbusAlertResponse .. | .sidebandUnsupported .. | .auxValid ..
  | .auxLoss .. | .input48vValid .. | .input48vLoss .. | .input48vOvervoltage .. | .input48vRecovery ..
  | .holdupChargeTimeout .. | .laserSupplyFault .. | .sensorConversion .. | .thermalRestart .. | .slowRound ..
  | .fastRound .. | .sensorReturn .. | .relaxHoldExpiry .. | .coolingFault .. | .tileSafelightEnd .. | .mcSwTrigger ..
  | .mcInject .. | .mcConversionDone .. | .mcDataRead .. | .mcDropsRead .. | .mcPlausRead .. | .monitorFaultClear ..
  | .refEnable .. | .refSettled .. | .domainDemandWake .. | .domainHoldExpiry .. | .drainRetry ..
  | .powerTransitionDone .. | .fogSlopeSettled .. | .probeRound .. | .probeRetryWait .. | .fogReplacement ..
  | .heaterScan .. | .heaterReread .. | .heaterMismatchConfirm .. | .laserPowerLoop .. | .swapReady ..
  | .swapFixPointTimeout .. | .laserFrequencyHoldFail .. | .laserFail .. | .threadingDone .. | .seamAckTimeout ..
  | .seamLaneLos .. | .seamRetrainTimeout .. | .openFibre .. | .rootPllLockLoss .. | .rootPllRelock ..
  | .pllLossPersist .. | .weightLoad .. | .tileFixPoint .. | .coreFixPoint .. | .fixPointLimitExpiry .. | .quantumEnd ..
  | .calibrationDeadline .. | .tileCalibrationDeadline .. | .recalSlot .. | .heaterCentringDone ..
  | .coreSweepRequest .. | .setCommit .. | .setCommitRetry .. | .mirrorWrite .. | .tailorHeartbeatTimeout ..
  | .dutyRevision .. | .snagScan .. | .stripeNarrow .. | .stripeWiden .. | .batchWindowExpiry .. | .expertFetchDone ..
  | .lpddr4xPatrolScrub .. | .vaultBackgroundScan .. | .vaultMount .. | .vaultTemperatureRead .. | .vaultHoldRelease ..
  | .spoolScrub .. | .partitionScrubDone .. | .logCommit .. | .logUnanchoredTimeout .. | .swapWindowOpen ..
  | .swapWindowClose .. | .tileLoss .. | .mgmtUp .. | .thimbleWatchdog .. | .linkRecovery .. | .icmpEcho ..
  | .managementPortLinkChange .. | .managementConnectionClose .. => true

/-- The queue that a command names, the admin queue for an admin command. -/
def Instr.queue : Instr → Option Nat
  | .nop q _ => some q
  | .runPattern q _ _ => some q
  | .loadPattern q _ _ _ => some q
  | .unloadPattern q _ => some q
  | .copy q _ _ _ => some q
  | .fill q _ => some q
  | .expertHint q _ _ => some q
  | .fence q _ _ => some q
  | .signal q _ => some q
  | .scaleFreeze q _ => some q
  | .scaleSet q _ => some q
  | .calibrate q _ => some q
  | .selfTest q _ => some q
  | .queryStatus q _ => some q
  | .doorbellSlotRead q _ _ => some q
  | .descriptorAdmit q _ _ => some q
  | .headWriteback q => some q
  | .completionRecordWrite q _ => some q
  | .coalTimeExpiry q => some q
  | .fencePoll q _ _ => some q
  | .faultDoorbellPoll q _ _ => some q
  | .pass _ q _ _ _ _ _ _ _ _ => some q
  | .writeOut q _ _ _ => some q
  | .digitalFallbackCompute q _ _ _ => some q
  | .createContext .. | .destroyContext .. | .createQueue .. | .destroyQueue .. | .map .. | .unmap ..
  | .setPartitionAssign .. | .setPartitionRelease .. | .setPartitionReassign .. | .setPartitionCreate ..
  | .setPartitionResize .. | .setPartitionDelete .. | .setPartitionAttach .. | .setPriority .. | .cancel .. => some 0
  | .nudge .. | .statusPageWrite .. | .selfTestDeadline .. | .selfTestTileDone .. | .selfTestStop .. | .aqEnable ..
  | .aqDisable .. | .glbPlacementWrite .. | .clkSscWrite .. | .sscDepthApply .. | .clkStatusRead .. | .glbLinkRead ..
  | .pwrEventsRead .. | .intCauseWrite .. | .intEnableWrite .. | .intTestWrite .. | .safelightEnter ..
  | .safelightExit .. | .safelightExitDone .. | .coolingCauseClear .. | .laserSupplyCauseClear .. | .powerTargetWrite ..
  | .pwrCapWrite .. | .stage .. | .stageDone .. | .activate .. | .preloadDone .. | .abort .. | .commit .. | .newChal ..
  | .submit .. | .debugTokenVerify .. | .registerWrite .. | .msixVectorUnmask .. | .perstNAssert .. | .perstNDeassert ..
  | .memoryTrainingDone .. | .wakeN .. | .hotReset .. | .pfFlr .. | .vfFlr .. | .vfEnableClear .. | .vfEnableSet ..
  | .d3hotEntry .. | .d0Return .. | .configRequest .. | .linkRetrain .. | .linkTrainingDone .. | .atsInvalidate ..
  | .atsInvalidateCompletion .. | .atsTranslationCompletion .. | .feedDogResponse .. | .completionTimeout ..
  | .doeDiscovery .. | .doeAbort .. | .getVersion .. | .getCapabilities .. | .negotiateAlgorithms .. | .getDigests ..
  | .getCertificate .. | .challenge .. | .getMeasurements .. | .keyExchange .. | .finish .. | .endSession ..
  | .chunkSend .. | .chunkGet .. | .kemGet .. | .kemCt .. | .keyProg .. | .kSetGo .. | .kSetStop .. | .ideKmQuery ..
  | .spdmUnsupported .. | .ideStreamInsecure .. | .mgmtConnection .. | .mgmtStartupLimitEnd .. | .redfishGet ..
  | .sessionCreate .. | .sessionDelete .. | .sessionIdleTimeout .. | .passwordLockoutEnd .. | .accountCreate ..
  | .accountPatch .. | .accountDelete .. | .generateCsr .. | .replaceCertificate .. | .clientAuthorityInstall ..
  | .powerLimitPatch .. | .powerStateAction .. | .mgmtSafelightEnter .. | .mgmtSafelightExit .. | .rliEnable ..
  | .rliDisable .. | .networkSettingsPatch .. | .networkSettingsApply .. | .multipartUpdatePush ..
  | .updateActivateAction .. | .updateAbortAction .. | .updateCommitAction .. | .attestationAction ..
  | .registersAction .. | .contactSheetGet .. | .eventStreamOpen .. | .serviceMemoryRead .. | .serviceLogDetail ..
  | .serviceAdcCapture .. | .provisionAccountCreate .. | .mgmtProvisionDeassert .. | .credentialErase ..
  | .setEndpointId .. | .getEndpointId .. | .getMctpVersionSupport .. | .getMessageTypeSupport .. | .getTid ..
  | .getPldmVersion .. | .getPldmTypes .. | .getPldmCommands .. | .getSensorReading .. | .getStateSensorReadings ..
  | .getPdrRepositoryInfo .. | .getPdr .. | .smbusAlertResponse .. | .sidebandUnsupported .. | .auxValid ..
  | .auxLoss .. | .input48vValid .. | .input48vLoss .. | .input48vOvervoltage .. | .input48vRecovery ..
  | .holdupChargeTimeout .. | .laserSupplyFault .. | .sensorConversion .. | .thermalRestart .. | .slowRound ..
  | .fastRound .. | .sensorReturn .. | .relaxHoldExpiry .. | .coolingFault .. | .tileSafelightEnd .. | .monitorRound ..
  | .mcSwTrigger .. | .mcInject .. | .mcConversionDone .. | .mcDataRead .. | .mcDropsRead .. | .mcPlausRead ..
  | .monitorFaultClear .. | .refEnable .. | .refSettled .. | .domainDemandWake .. | .domainHoldExpiry ..
  | .drainRetry .. | .powerTransitionDone .. | .tileSensorRead .. | .fogSlopeSettled .. | .probeRound ..
  | .probeRetryWait .. | .fogReplacement .. | .heaterScan .. | .heaterReread .. | .heaterMismatchConfirm ..
  | .laserPowerLoop .. | .swapReady .. | .swapFixPointTimeout .. | .laserFrequencyHoldFail .. | .laserFail ..
  | .threadingDone .. | .contactSheetMap .. | .seamFlitReceive .. | .seamAckTimeout .. | .seamLaneLos ..
  | .seamErrorWindow .. | .seamRetrainTimeout .. | .switchReconfiguration .. | .d2dFlitReceive .. | .openFibre ..
  | .rootPllLockLoss .. | .rootPllRelock .. | .pllLossPersist .. | .weightLoad .. | .tileFixPoint .. | .coreFixPoint ..
  | .fixPointLimitExpiry .. | .quantumEnd .. | .powerupCalibrationStep .. | .calibrationDeadline ..
  | .tileCalibrationDeadline .. | .recalSlot .. | .heaterCentringDone .. | .calMeasurementDone .. | .coreSweepRequest ..
  | .coreSweepDone .. | .setCommit .. | .setCommitRetry .. | .mirrorWrite .. | .tailorHeartbeatTimeout ..
  | .dutyRevision .. | .pieceMove .. | .snagScan .. | .stripeNarrow .. | .stripeWiden .. | .batchWindowExpiry ..
  | .expertFetchDone .. | .lpddr4xPatrolScrub .. | .vaultBackgroundScan .. | .vaultMount .. | .commitRecordProgrammed ..
  | .vaultTemperatureRead .. | .vaultHoldRelease .. | .spoolScrub .. | .partitionScrubDone .. | .eventReport ..
  | .logCommit .. | .logUnanchoredTimeout .. | .swapWindowOpen .. | .swapWindowClose .. | .processorHeartbeatMiss ..
  | .partialResetDone .. | .tileLoss .. | .mgmtUp .. | .privateMemoryUncorrectable .. | .thimbleWatchdog ..
  | .linkRecovery .. | .icmpEcho .. | .managementPortLinkChange .. | .managementConnectionClose .. => none

end Sys2Proof
end

