-- ==== Sys2Proof/Laws/PerInstr.lean ====
section
/-! SUPPORT. What holds of every command as syntax, one lemma for each constructor. -/
namespace Sys2Proof.Laws.F

/-- A well-formed command names no queue but the 4,096 of the module (R330). -/
def Statement (i : Instr) : Prop := i.wf = true → ∀ q, i.queue = some q → q < 4096

/-- A command that names no queue. -/
theorem unqueued {i : Instr} (h : i.queue = none) : Statement i := fun _ _ e => nomatch h.symm.trans e

/-- A command of the admin queue. -/
theorem onAdmin {i : Instr} (h : i.queue = some 0) : Statement i := fun _ _ e => by
  cases h.symm.trans e; decide

/-- A command whose queue its well-formedness checks. -/
theorem onQueue {i : Instr} {q : Nat} {b : Bool} (h : i.queue = some q) (w : i.wf = (queueOk q && b)) : Statement i := fun ok _ e => by
  cases h.symm.trans e
  exact of_decide_eq_true (Bool.and_eq_true_iff.mp (w ▸ ok)).1

theorem nop : ∀ q seq, Statement (.nop q seq) := fun _ _ => onQueue rfl rfl
theorem runPattern (q : Nat) (seq : Nat) (hs : List Cell) : Statement (.runPattern q seq hs) := onQueue rfl rfl
theorem loadPattern (q : Nat) (seq : Nat) (hs : List Cell) (rsp : Rsp) : Statement <| .loadPattern q seq hs rsp := by
  exact onQueue rfl rfl
theorem unloadPattern : ∀ q seq, Statement (.unloadPattern q seq) := fun _ _ => onQueue rfl rfl
theorem copy (q : Nat) (seq : Nat) (hs : List Cell) (bad : Option (Nat × Rsp)) : Statement (.copy q seq hs bad) := onQueue rfl rfl
theorem fill : ∀ q seq, Statement (.fill q seq) := fun _ _ => onQueue rfl rfl
theorem expertHint : ∀ q seq hs, Statement (.expertHint q seq hs) := fun _ _ _ => onQueue rfl rfl
theorem fence : ∀ q seq hs, Statement (.fence q seq hs) := fun _ _ _ => onQueue rfl rfl
theorem signal (q : Nat) (seq : Nat) : Statement (.signal q seq) := onQueue rfl rfl
theorem scaleFreeze (q : Nat) (seq : Nat) : Statement <| .scaleFreeze q seq := by
  exact onQueue rfl rfl
theorem scaleSet (q : Nat) (seq : Nat) : Statement (.scaleSet q seq) := onQueue rfl rfl
theorem calibrate : ∀ q seq, Statement (.calibrate q seq) := fun _ _ => onQueue rfl rfl
theorem selfTest : ∀ q seq, Statement (.selfTest q seq) := fun _ _ => onQueue rfl rfl
theorem queryStatus (q : Nat) (seq : Nat) : Statement (.queryStatus q seq) := onQueue rfl rfl
theorem createContext : ∀ seq, Statement (.createContext seq) := fun _ => onAdmin rfl
theorem destroyContext : ∀ seq, Statement (.destroyContext seq) := fun _ => onAdmin rfl
theorem createQueue : ∀ seq, Statement (.createQueue seq) := fun _ => onAdmin rfl
theorem destroyQueue (seq : Nat) : Statement (.destroyQueue seq) := onAdmin rfl
theorem map (seq : Nat) : Statement (.map seq) := onAdmin rfl
theorem unmap (seq : Nat) : Statement (.unmap seq) := onAdmin rfl
theorem setPartitionAssign : ∀ seq, Statement (.setPartitionAssign seq) := fun _ => onAdmin rfl
theorem setPartitionRelease (seq : Nat) : Statement (.setPartitionRelease seq) := onAdmin rfl
theorem setPartitionReassign (seq : Nat) : Statement (.setPartitionReassign seq) := onAdmin rfl
theorem setPartitionCreate (seq : Nat) : Statement (.setPartitionCreate seq) := onAdmin rfl
theorem setPartitionResize (seq : Nat) : Statement (.setPartitionResize seq) := onAdmin rfl
theorem setPartitionDelete (seq : Nat) : Statement <| .setPartitionDelete seq := by
  exact onAdmin rfl
theorem setPartitionAttach (seq : Nat) : Statement <| .setPartitionAttach seq := by
  exact onAdmin rfl
theorem setPriority : ∀ seq, Statement (.setPriority seq) := fun _ => onAdmin rfl
theorem cancel (seq : Nat) : Statement <| .cancel seq := by
  exact onAdmin rfl
theorem nudge (fn : Fin 64) (width : Nat) (value : Word) : Statement (.nudge fn width value) := unqueued rfl
theorem doorbellSlotRead (q : Nat) (hs : List Cell) (rsp : Rsp) : Statement <| .doorbellSlotRead q hs rsp := by
  exact onQueue rfl rfl
theorem descriptorAdmit (q : Nat) (hs : List Cell) (rsp : Rsp) : Statement <| .descriptorAdmit q hs rsp := by
  exact onQueue rfl rfl
theorem headWriteback (q : Nat) : Statement (.headWriteback q) := onQueue rfl rfl
theorem completionRecordWrite (q : Nat) (elapsed : Nat) : Statement <| .completionRecordWrite q elapsed := by
  exact onQueue rfl rfl
theorem coalTimeExpiry (q : Nat) : Statement (.coalTimeExpiry q) := onQueue rfl rfl
theorem statusPageWrite (page : PageSel) : Statement (.statusPageWrite page) := unqueued rfl
theorem fencePoll (q : Nat) (seq : Nat) (hs : List Cell) : Statement <| .fencePoll q seq hs := by
  exact onQueue rfl rfl
theorem selfTestDeadline : Statement .selfTestDeadline := unqueued rfl
theorem selfTestTileDone : ∀ tile failed, Statement (.selfTestTileDone tile failed) := fun _ _ => unqueued rfl
theorem selfTestStop (tile : Fin 12) : Statement <| .selfTestStop tile := by
  exact unqueued rfl
theorem aqEnable (value : Word) : Statement <| .aqEnable value := by
  exact unqueued rfl
theorem aqDisable : ∀ value, Statement (.aqDisable value) := fun _ => unqueued rfl
theorem glbPlacementWrite : ∀ value, Statement (.glbPlacementWrite value) := fun _ => unqueued rfl
theorem clkSscWrite (value : Word) : Statement <| .clkSscWrite value := by
  exact unqueued rfl
theorem sscDepthApply : Statement .sscDepthApply := unqueued rfl
theorem clkStatusRead (width : Nat) (off : Nat) : Statement <| .clkStatusRead width off := by
  exact unqueued rfl
theorem glbLinkRead (width : Nat) (off : Nat) : Statement (.glbLinkRead width off) := unqueued rfl
theorem pwrEventsRead (width : Nat) (off : Nat) : Statement <| .pwrEventsRead width off := by
  exact unqueued rfl
theorem intCauseWrite (fn : Fin 64) (value : Word) (meets : BitVec 11) : Statement (.intCauseWrite fn value meets) := unqueued rfl
theorem intEnableWrite : ∀ fn value, Statement (.intEnableWrite fn value) := fun _ _ => unqueued rfl
theorem intTestWrite (fn : Fin 64) (value : Word) : Statement <| .intTestWrite fn value := by
  exact unqueued rfl
theorem safelightEnter : Statement .safelightEnter := unqueued rfl
theorem safelightExit : Statement .safelightExit := unqueued rfl
theorem safelightExitDone : Statement .safelightExitDone := unqueued rfl
theorem coolingCauseClear : Statement .coolingCauseClear := unqueued rfl
theorem laserSupplyCauseClear : Statement .laserSupplyCauseClear := unqueued rfl
theorem powerTargetWrite (value : Word) : Statement <| .powerTargetWrite value := by
  exact unqueued rfl
theorem pwrCapWrite (value : Word) : Statement (.pwrCapWrite value) := unqueued rfl
theorem stage (src : BundleRead) : Statement (.stage src) := unqueued rfl
theorem stageDone (imagesOk : Bool) : Statement (.stageDone imagesOk) := unqueued rfl
theorem activate : Statement .activate := unqueued rfl
theorem preloadDone : ∀ imagesOk, Statement (.preloadDone imagesOk) := fun _ => unqueued rfl
theorem abort : Statement .abort := unqueued rfl
theorem commit : Statement .commit := unqueued rfl
theorem newChal : Statement .newChal := unqueued rfl
theorem submit : Statement .submit := unqueued rfl
theorem debugTokenVerify : ∀ tok, Statement (.debugTokenVerify tok) := fun _ => unqueued rfl
theorem registerWrite (fn : Fin 64) (bar : Nat) (off : Nat) (width : Nat) (value : BitVec 64) (poisoned : Bool) : Statement (.registerWrite fn bar off width value poisoned) := unqueued rfl
theorem msixVectorUnmask (fn : Fin 64) (vec : Nat) : Statement (.msixVectorUnmask fn vec) := unqueued rfl
theorem perstNAssert (widthNs : Nat) : Statement <| .perstNAssert widthNs := by
  exact unqueued rfl
theorem perstNDeassert (digestA : Bool) (digestB : Bool) (provisionPin : Bool) : Statement <| .perstNDeassert digestA digestB provisionPin := by
  exact unqueued rfl
theorem memoryTrainingDone : Statement .memoryTrainingDone := unqueued rfl
theorem wakeN : ∀ lowUs, Statement (.wakeN lowUs) := fun _ => unqueued rfl
theorem hotReset : Statement .hotReset := unqueued rfl
theorem pfFlr : Statement .pfFlr := unqueued rfl
theorem vfFlr (fn : Fin 64) : Statement (.vfFlr fn) := unqueued rfl
theorem vfEnableClear : Statement .vfEnableClear := unqueued rfl
theorem vfEnableSet : ∀ num ari, Statement (.vfEnableSet num ari) := fun _ _ => unqueued rfl
theorem d3hotEntry : ∀ fn, Statement (.d3hotEntry fn) := fun _ => unqueued rfl
theorem d0Return : ∀ fn, Statement (.d0Return fn) := fun _ => unqueued rfl
theorem configRequest : ∀ fn access sinceMs, Statement (.configRequest fn access sinceMs) := fun _ _ _ => unqueued rfl
theorem linkRetrain : Statement .linkRetrain := unqueued rfl
theorem linkTrainingDone (speed : Nat) (width : Nat) (flit : Bool) : Statement (.linkTrainingDone speed width flit) := unqueued rfl
theorem atsInvalidate : ∀ fn base len, Statement (.atsInvalidate fn base len) := fun _ _ _ => unqueued rfl
theorem atsInvalidateCompletion (fn : Fin 64) : Statement <| .atsInvalidateCompletion fn := by
  exact unqueued rfl
theorem atsTranslationCompletion (fn : Fin 64) (page : Nat) (host : Nat) (read : Bool) (write : Bool) : Statement (.atsTranslationCompletion fn page host read write) := unqueued rfl
theorem feedDogResponse (id : Nat) (hs : List Cell) (rsp : Rsp) : Statement <| .feedDogResponse id hs rsp := by
  exact unqueued rfl
theorem completionTimeout (id : Nat) : Statement (.completionTimeout id) := unqueued rfl
theorem doeDiscovery : ∀ index, Statement (.doeDiscovery index) := fun _ => unqueued rfl
theorem doeAbort : Statement .doeAbort := unqueued rfl
theorem getVersion : Statement .getVersion := unqueued rfl
theorem getCapabilities : Statement .getCapabilities := unqueued rfl
theorem negotiateAlgorithms (supported : Bool) : Statement <| .negotiateAlgorithms supported := by
  exact unqueued rfl
theorem getDigests : Statement .getDigests := unqueued rfl
theorem getCertificate (slot : Nat) (offset : Nat) (length : Nat) : Statement <| .getCertificate slot offset length := by
  exact unqueued rfl
theorem challenge (slot : Nat) (summary : SummaryHash) (nonce : BitVec 256) : Statement <| .challenge slot summary nonce := by
  exact unqueued rfl
theorem getMeasurements (index : Nat) (signed : Bool) (nonce : BitVec 256) : Statement <| .getMeasurements index signed nonce := by
  exact unqueued rfl
theorem keyExchange : ∀ mutualAuth, Statement (.keyExchange mutualAuth) := fun _ => unqueued rfl
theorem finish (session : Nat) (verifies : Bool) : Statement <| .finish session verifies := by
  exact unqueued rfl
theorem endSession (session : Nat) : Statement <| .endSession session := by
  exact unqueued rfl
theorem chunkSend (handle : Nat) (seqNo : Nat) (last : Bool) (bytes : List Byte) : Statement (.chunkSend handle seqNo last bytes) := unqueued rfl
theorem chunkGet (handle : Nat) (seqNo : Nat) : Statement <| .chunkGet handle seqNo := by
  exact unqueued rfl
theorem kemGet : Statement .kemGet := unqueued rfl
theorem kemCt (ciphertext : List Byte) : Statement (.kemCt ciphertext) := unqueued rfl
theorem keyProg (session : Nat) (stream : Nat) (sub : Nat) : Statement <| .keyProg session stream sub := by
  exact unqueued rfl
theorem kSetGo (session : Nat) (stream : Nat) (sub : Nat) : Statement (.kSetGo session stream sub) := unqueued rfl
theorem kSetStop (session : Nat) (stream : Nat) (sub : Nat) : Statement <| .kSetStop session stream sub := by
  exact unqueued rfl
theorem ideKmQuery : ∀ session, Statement (.ideKmQuery session) := fun _ => unqueued rfl
theorem spdmUnsupported : Statement .spdmUnsupported := unqueued rfl
theorem ideStreamInsecure (stream : Nat) : Statement <| .ideStreamInsecure stream := by
  exact unqueued rfl
theorem mgmtConnection (conn : Nat) (cred : ConnCred) (linkLocal : Bool) : Statement <| .mgmtConnection conn cred linkLocal := by
  exact unqueued rfl
theorem mgmtStartupLimitEnd : Statement .mgmtStartupLimitEnd := unqueued rfl
theorem redfishGet (r : Req) (res : Resource) : Statement (.redfishGet r res) := unqueued rfl
theorem sessionCreate : ∀ r user password, Statement (.sessionCreate r user password) := fun _ _ _ => unqueued rfl
theorem sessionDelete (r : Req) (session : Nat) : Statement (.sessionDelete r session) := unqueued rfl
theorem sessionIdleTimeout (session : Nat) : Statement <| .sessionIdleTimeout session := by
  exact unqueued rfl
theorem passwordLockoutEnd (user : Nat) : Statement <| .passwordLockoutEnd user := by
  exact unqueued rfl
theorem accountCreate (r : Req) (user : Nat) (role : Role) (password : Nat) (pwLen : Nat) : Statement (.accountCreate r user role password pwLen) := unqueued rfl
theorem accountPatch (r : Req) (user : Nat) (role : Option Role) (password : Option (Nat × Nat)) : Statement <| .accountPatch r user role password := by
  exact unqueued rfl
theorem accountDelete (r : Req) (user : Nat) : Statement (.accountDelete r user) := unqueued rfl
theorem generateCsr : ∀ r, Statement (.generateCsr r) := fun _ => unqueued rfl
theorem replaceCertificate (r : Req) (cert : Nat) (matchesKey : Bool) : Statement (.replaceCertificate r cert matchesKey) := unqueued rfl
theorem clientAuthorityInstall : ∀ r authority, Statement (.clientAuthorityInstall r authority) := fun _ _ => unqueued rfl
theorem powerLimitPatch (r : Req) (watts : Nat) : Statement (.powerLimitPatch r watts) := unqueued rfl
theorem powerStateAction : ∀ r target, Statement (.powerStateAction r target) := fun _ _ => unqueued rfl
theorem mgmtSafelightEnter : ∀ r, Statement (.mgmtSafelightEnter r) := fun _ => unqueued rfl
theorem mgmtSafelightExit (r : Req) : Statement <| .mgmtSafelightExit r := by
  exact unqueued rfl
theorem rliEnable : ∀ r shelfOk, Statement (.rliEnable r shelfOk) := fun _ _ => unqueued rfl
theorem rliDisable (r : Req) : Statement (.rliDisable r) := unqueued rfl
theorem networkSettingsPatch (r : Req) (settings : Nat) : Statement <| .networkSettingsPatch r settings := by
  exact unqueued rfl
theorem networkSettingsApply : Statement .networkSettingsApply := unqueued rfl
theorem multipartUpdatePush (r : Req) (src : BundleRead) : Statement <| .multipartUpdatePush r src := by
  exact unqueued rfl
theorem updateActivateAction (r : Req) : Statement <| .updateActivateAction r := by
  exact unqueued rfl
theorem updateAbortAction : ∀ r, Statement (.updateAbortAction r) := fun _ => unqueued rfl
theorem updateCommitAction (r : Req) : Statement <| .updateCommitAction r := by
  exact unqueued rfl
theorem attestationAction : ∀ r nonce, Statement (.attestationAction r nonce) := fun _ _ => unqueued rfl
theorem registersAction : ∀ r addr, Statement (.registersAction r addr) := fun _ _ => unqueued rfl
theorem contactSheetGet (r : Req) (tile : Option (Fin 12)) : Statement (.contactSheetGet r tile) := unqueued rfl
theorem eventStreamOpen (r : Req) (lastId : Option Nat) : Statement <| .eventStreamOpen r lastId := by
  exact unqueued rfl
theorem serviceMemoryRead (r : Req) (proc : ProcAt) (addr len : Nat) : Statement <| .serviceMemoryRead r proc addr len := by
  exact unqueued rfl
theorem serviceLogDetail (r : Req) (raise : Bool) : Statement <| .serviceLogDetail r raise := by
  exact unqueued rfl
theorem serviceAdcCapture : ∀ r core row half samples, Statement (.serviceAdcCapture r core row half samples) := fun _ _ _ _ _ => unqueued rfl
theorem provisionAccountCreate (conn : Nat) (user : Nat) (password : Nat) (pwLen : Nat) : Statement <| .provisionAccountCreate conn user password pwLen := by
  exact unqueued rfl
theorem mgmtProvisionDeassert : Statement .mgmtProvisionDeassert := unqueued rfl
theorem credentialErase : Statement .credentialErase := unqueued rfl
theorem setEndpointId (eid : BitVec 8) (pecOk : Bool) : Statement (.setEndpointId eid pecOk) := unqueued rfl
theorem getEndpointId (pecOk : Bool) : Statement (.getEndpointId pecOk) := unqueued rfl
theorem getMctpVersionSupport (pecOk : Bool) : Statement (.getMctpVersionSupport pecOk) := unqueued rfl
theorem getMessageTypeSupport (pecOk : Bool) : Statement <| .getMessageTypeSupport pecOk := by
  exact unqueued rfl
theorem getTid : ∀ pecOk, Statement (.getTid pecOk) := fun _ => unqueued rfl
theorem getPldmVersion : ∀ type pecOk, Statement (.getPldmVersion type pecOk) := fun _ _ => unqueued rfl
theorem getPldmTypes (pecOk : Bool) : Statement (.getPldmTypes pecOk) := unqueued rfl
theorem getPldmCommands (type : Nat) (pecOk : Bool) : Statement (.getPldmCommands type pecOk) := unqueued rfl
theorem getSensorReading (sensor : Nat) (pecOk : Bool) : Statement <| .getSensorReading sensor pecOk := by
  exact unqueued rfl
theorem getStateSensorReadings (sensor : Nat) (pecOk : Bool) : Statement (.getStateSensorReadings sensor pecOk) := unqueued rfl
theorem getPdrRepositoryInfo (pecOk : Bool) : Statement (.getPdrRepositoryInfo pecOk) := unqueued rfl
theorem getPdr (record : Nat) (pecOk : Bool) : Statement (.getPdr record pecOk) := unqueued rfl
theorem smbusAlertResponse : Statement .smbusAlertResponse := unqueued rfl
theorem sidebandUnsupported : ∀ pldm pecOk, Statement (.sidebandUnsupported pldm pecOk) := fun _ _ => unqueued rfl
theorem auxValid (smbAddr : BitVec 2) : Statement <| .auxValid smbAddr := by
  exact unqueued rfl
theorem auxLoss : Statement .auxLoss := unqueued rfl
theorem input48vValid : Statement .input48vValid := unqueued rfl
theorem input48vLoss : Statement .input48vLoss := unqueued rfl
theorem input48vOvervoltage : Statement .input48vOvervoltage := unqueued rfl
theorem input48vRecovery : Statement .input48vRecovery := unqueued rfl
theorem holdupChargeTimeout : Statement .holdupChargeTimeout := unqueued rfl
theorem laserSupplyFault : Statement .laserSupplyFault := unqueued rfl
theorem sensorConversion : ∀ sensor temp, Statement (.sensorConversion sensor temp) := fun _ _ => unqueued rfl
theorem thermalRestart (digestA : Bool) (digestB : Bool) : Statement (.thermalRestart digestA digestB) := unqueued rfl
theorem slowRound (now : Nat) (faults : List (Fin 282)) : Statement <| .slowRound now faults := by
  exact unqueued rfl
theorem fastRound (now : Nat) : Statement (.fastRound now) := unqueued rfl
theorem sensorReturn (sensor : Fin 282) : Statement (.sensorReturn sensor) := unqueued rfl
theorem relaxHoldExpiry : Statement .relaxHoldExpiry := unqueued rfl
theorem coolingFault : Statement .coolingFault := unqueued rfl
theorem tileSafelightEnd (tile : Fin 12) : Statement (.tileSafelightEnd tile) := unqueued rfl
theorem monitorRound : ∀ a b, Statement (.monitorRound a b) := fun _ _ => unqueued rfl
theorem mcSwTrigger (mon : Fin 2) : Statement <| .mcSwTrigger mon := by
  exact unqueued rfl
theorem mcInject (mon : Fin 2) (value : Word) : Statement <| .mcInject mon value := by
  exact unqueued rfl
theorem mcConversionDone (mon : Fin 2) (code : BitVec 16) : Statement (.mcConversionDone mon code) := unqueued rfl
theorem mcDataRead (mon : Fin 2) : Statement (.mcDataRead mon) := unqueued rfl
theorem mcDropsRead (mon : Fin 2) : Statement <| .mcDropsRead mon := by
  exact unqueued rfl
theorem mcPlausRead : Statement .mcPlausRead := unqueued rfl
theorem monitorFaultClear : Statement .monitorFaultClear := unqueued rfl
theorem refEnable : Statement .refEnable := unqueued rfl
theorem refSettled : Statement .refSettled := unqueued rfl
theorem domainDemandWake : ∀ dom imageOk, Statement (.domainDemandWake dom imageOk) := fun _ _ => unqueued rfl
theorem domainHoldExpiry (dom : Domain) : Statement (.domainHoldExpiry dom) := unqueued rfl
theorem drainRetry (dom : Domain) : Statement (.drainRetry dom) := unqueued rfl
theorem powerTransitionDone : Statement .powerTransitionDone := unqueued rfl
theorem tileSensorRead (tile : Fin 12) (temps : List Int) : Statement <| .tileSensorRead tile temps := by
  exact unqueued rfl
theorem fogSlopeSettled (tile : Fin 12) : Statement (.fogSlopeSettled tile) := unqueued rfl
theorem probeRound : ∀ tile probes foggedOver5K, Statement (.probeRound tile probes foggedOver5K) := fun _ _ _ => unqueued rfl
theorem probeRetryWait : ∀ tile, Statement (.probeRetryWait tile) := fun _ => unqueued rfl
theorem fogReplacement (tile : Fin 12) : Statement <| .fogReplacement tile := by
  exact unqueued rfl
theorem heaterScan : ∀ tile reads, Statement (.heaterScan tile reads) := fun _ _ => unqueued rfl
theorem heaterReread (tile : Fin 12) (rd : HeaterRead) : Statement (.heaterReread tile rd) := unqueued rfl
theorem heaterMismatchConfirm (tile : Fin 12) (rd : HeaterRead) : Statement <| .heaterMismatchConfirm tile rd := by
  exact unqueued rfl
theorem laserPowerLoop : ∀ tile reads, Statement (.laserPowerLoop tile reads) := fun _ _ => unqueued rfl
theorem swapReady : ∀ tile spare, Statement (.swapReady tile spare) := fun _ _ => unqueued rfl
theorem swapFixPointTimeout (tile : Fin 12) : Statement (.swapFixPointTimeout tile) := unqueued rfl
theorem laserFrequencyHoldFail (tile : Fin 12) (laser : Fin 72) : Statement (.laserFrequencyHoldFail tile laser) := unqueued rfl
theorem laserFail (tile : Fin 12) (laser : Fin 72) : Statement (.laserFail tile laser) := unqueued rfl
theorem threadingDone : ∀ tile rings chipletOk, Statement (.threadingDone tile rings chipletOk) := fun _ _ _ => unqueued rfl
theorem contactSheetMap (tile : Fin 12) (temps : List Int) : Statement <| .contactSheetMap tile temps := by
  exact unqueued rfl
theorem seamFlitReceive : ∀ tile port flit, Statement (.seamFlitReceive tile port flit) := fun _ _ _ => unqueued rfl
theorem seamAckTimeout (tile : Fin 12) (port : Fin 4) : Statement <| .seamAckTimeout tile port := by
  exact unqueued rfl
theorem seamLaneLos (tile : Fin 12) (port : Fin 4) (lane : Fin 16) : Statement (.seamLaneLos tile port lane) := unqueued rfl
theorem seamErrorWindow : ∀ tile port counts, Statement (.seamErrorWindow tile port counts) := fun _ _ _ => unqueued rfl
theorem seamRetrainTimeout : ∀ tile port, Statement (.seamRetrainTimeout tile port) := fun _ _ => unqueued rfl
theorem switchReconfiguration (tile : Fin 12) (paths : List (Fin 6 × Fin 6)) : Statement (.switchReconfiguration tile paths) := unqueued rfl
theorem d2dFlitReceive : ∀ link flit, Statement (.d2dFlitReceive link flit) := fun _ _ => unqueued rfl
theorem openFibre : Statement .openFibre := unqueued rfl
theorem rootPllLockLoss (die : Die) : Statement (.rootPllLockLoss die) := unqueued rfl
theorem rootPllRelock : ∀ die, Statement (.rootPllRelock die) := fun _ => unqueued rfl
theorem pllLossPersist (die : Die) : Statement <| .pllLossPersist die := by
  exact unqueued rfl
theorem faultDoorbellPoll (q : Nat) (hs : List Cell) (rsp : Rsp) : Statement (.faultDoorbellPoll q hs rsp) := onQueue rfl rfl
theorem weightLoad (core : Fin 48) (pat : Nat) (piece : Nat) (set : Nat) (pass : Nat) (flips : List (List Cell)) : Statement <| .weightLoad core pat piece set pass flips := by
  exact unqueued rfl
theorem pass (core : Fin 48) (q : Nat) (seq : Nat) (piece : Nat) (set : Nat) (pass : Nat) (vec : Nat) (samples : List (List Byte)) (words : Option (List Word)) (operandOk : Bool) : Statement <| .pass core q seq piece set pass vec samples words operandOk := by
  exact onQueue rfl rfl
theorem tileFixPoint : ∀ tile, Statement (.tileFixPoint tile) := fun _ => unqueued rfl
theorem coreFixPoint (core : Fin 48) : Statement <| .coreFixPoint core := by
  exact unqueued rfl
theorem fixPointLimitExpiry (tile : Fin 12) : Statement <| .fixPointLimitExpiry tile := by
  exact unqueued rfl
theorem quantumEnd (core : Fin 48) (savedOk : Bool) : Statement <| .quantumEnd core savedOk := by
  exact unqueued rfl
theorem powerupCalibrationStep : ∀ tile results, Statement (.powerupCalibrationStep tile results) := fun _ _ => unqueued rfl
theorem calibrationDeadline : Statement .calibrationDeadline := unqueued rfl
theorem tileCalibrationDeadline (tile : Fin 12) : Statement <| .tileCalibrationDeadline tile := by
  exact unqueued rfl
theorem recalSlot (slot : WalkSlot) : Statement (.recalSlot slot) := unqueued rfl
theorem heaterCentringDone : ∀ core centred, Statement (.heaterCentringDone core centred) := fun _ _ => unqueued rfl
theorem calMeasurementDone (core : Fin 48) (row : Fin 67) (meas : RowMeas) (marginDb : List (Fin 64 × Nat)) : Statement (.calMeasurementDone core row meas marginDb) := unqueued rfl
theorem coreSweepRequest (core : Fin 48) : Statement <| .coreSweepRequest core := by
  exact unqueued rfl
theorem coreSweepDone (core : Fin 48) (rows : List (Fin 67 × RowMeas × RowMeas)) : Statement <| .coreSweepDone core rows := by
  exact unqueued rfl
theorem setCommit (tile : Fin 12) : Statement <| .setCommit tile := by
  exact unqueued rfl
theorem setCommitRetry (tile : Fin 12) : Statement <| .setCommitRetry tile := by
  exact unqueued rfl
theorem mirrorWrite (tile : Fin 12) (norTemp : Int) : Statement (.mirrorWrite tile norTemp) := unqueued rfl
theorem tailorHeartbeatTimeout : Statement .tailorHeartbeatTimeout := unqueued rfl
theorem dutyRevision : ∀ tile want, Statement (.dutyRevision tile want) := fun _ _ => unqueued rfl
theorem pieceMove (pat : Nat) (piece : Nat) (fromCores : List (Fin 48)) (toCores : List (Fin 48)) : Statement (.pieceMove pat piece fromCores toCores) := unqueued rfl
theorem snagScan : ∀ first, Statement (.snagScan first) := fun _ => unqueued rfl
theorem stripeNarrow : ∀ pat, Statement (.stripeNarrow pat) := fun _ => unqueued rfl
theorem stripeWiden (pat : Nat) : Statement <| .stripeWiden pat := by
  exact unqueued rfl
theorem batchWindowExpiry (pat : Nat) (piece : Nat) : Statement (.batchWindowExpiry pat piece) := unqueued rfl
theorem expertFetchDone (pat : Nat) (expert : Nat) (rsp : Rsp) : Statement (.expertFetchDone pat expert rsp) := unqueued rfl
theorem writeOut (q : Nat) (seq : Nat) (stagedOk : Bool) (rerunOk : Bool) : Statement (.writeOut q seq stagedOk rerunOk) := onQueue rfl rfl
theorem lpddr4xPatrolScrub : ∀ unit result, Statement (.lpddr4xPatrolScrub unit result) := fun _ _ => unqueued rfl
theorem vaultBackgroundScan : ∀ page strengthPct result, Statement (.vaultBackgroundScan page strengthPct result) := fun _ _ _ => unqueued rfl
theorem vaultMount (spare : Nat) (reads : MountReads) : Statement <| .vaultMount spare reads := by
  exact unqueued rfl
theorem commitRecordProgrammed (spool : Nat) (copies : Nat) : Statement <| .commitRecordProgrammed spool copies := by
  exact unqueued rfl
theorem vaultTemperatureRead (coldest : Int) (hottest : Int) : Statement (.vaultTemperatureRead coldest hottest) := unqueued rfl
theorem vaultHoldRelease : Statement .vaultHoldRelease := unqueued rfl
theorem spoolScrub (units : Nat) : Statement (.spoolScrub units) := unqueued rfl
theorem partitionScrubDone : Statement .partitionScrubDone := unqueued rfl
theorem eventReport : ∀ e now, Statement (.eventReport e now) := fun _ _ => unqueued rfl
theorem logCommit : Statement .logCommit := unqueued rfl
theorem logUnanchoredTimeout : Statement .logUnanchoredTimeout := unqueued rfl
theorem swapWindowOpen : Statement .swapWindowOpen := unqueued rfl
theorem swapWindowClose (started : Bool) : Statement <| .swapWindowClose started := by
  exact unqueued rfl
theorem processorHeartbeatMiss (proc : Proc) (inst : Nat) (now : Nat) : Statement <| .processorHeartbeatMiss proc inst now := by
  exact unqueued rfl
theorem partialResetDone (proc : Proc) (inst : Nat) : Statement (.partialResetDone proc inst) := unqueued rfl
theorem tileLoss : Statement .tileLoss := unqueued rfl
theorem mgmtUp : Statement .mgmtUp := unqueued rfl
theorem digitalFallbackCompute (q : Nat) (seq : Nat) (piece : Nat) (reads : VuReads) : Statement (.digitalFallbackCompute q seq piece reads) := onQueue rfl rfl
theorem privateMemoryUncorrectable (proc : Proc) (inst : Nat) (now : Nat) : Statement (.privateMemoryUncorrectable proc inst now) := unqueued rfl
theorem thimbleWatchdog : Statement .thimbleWatchdog := unqueued rfl
theorem linkRecovery : Statement .linkRecovery := unqueued rfl
theorem icmpEcho (v6 : Bool) : Statement <| .icmpEcho v6 := by
  exact unqueued rfl
theorem managementPortLinkChange (up : Bool) (partner1000 : Bool) (partner100 : Bool) : Statement <| .managementPortLinkChange up partner1000 partner100 := by
  exact unqueued rfl
theorem managementConnectionClose (conn : Nat) : Statement (.managementConnectionClose conn) := unqueued rfl

end Sys2Proof.Laws.F
end

