-- ==== Sys2Proof/Laws/Settle.lean ====
section
/-! SUPPORT. What `settle` may move after a command, said once: everything else stands as the command left it. -/
namespace Sys2Proof.Machine

/-! ### Vectors and lists -/

theorem vecMap_getElem {α : Type} {n : Nat} (f : Nat → α → α) (v : Vector α n) (i : Nat) (h : i < n) :
    (vecMap f v)[i] = f i v[i] := by
  simp [vecMap]

theorem vecMap_toList {α : Type} {n : Nat} (f : Nat → α → α) (v : Vector α n) : (vecMap f v).toList = v.toList.mapIdx f := by
  simp [vecMap]

/-- A map forgets an earlier one that it does not see. -/
theorem vecMap_forget {α : Type} {n : Nat} {f g : Nat → α → α} (v : Vector α n) (h : ∀ i x, f i (g i x) = f i x) :
    vecMap f (vecMap g v) = vecMap f v := by
  ext i hi; simp [vecMap_getElem, h]

theorem vecMap_const {α : Type} {n : Nat} (y : α) (v w : Vector α n) : vecMap (fun _ _ => y) v = vecMap (fun _ _ => y) w := by
  ext i hi; simp [vecMap_getElem]

/-- A map forgets an element written that it does not see. -/
theorem vecMap_set {α : Type} {n : Nat} (f : Nat → α → α) (v : Vector α n) (i : Nat) (h : i < n) (x : α)
    (hx : f i x = f i v[i]) : vecMap f (v.set i x) = vecMap f v := by
  ext j hj
  simp only [vecMap_getElem, Vector.getElem_set]
  split
  · subst_vars; exact hx
  · rfl

theorem map_forget {α : Type} {f g : α → α} (l : List α) (h : ∀ x, f (g x) = f x) : (l.map g).map f = l.map f := by
  rw [List.map_map]; exact List.map_congr_left fun x _ => h x

theorem updWhere_eq_map {α : Type} (p : α → Bool) (f : α → α) (l : List α) :
    updWhere p f l = l.map fun x => if p x then f x else x := rfl

/-! ### Follow-ups -/

/-- What its cores hold is none of what stands. -/
theorem stripped_cores (x : Tile) (v : Vector Core 4) : ({ x with cores := v } : Tile).stripped = x.stripped := by
  simp only [Tile.stripped, vecMap_const _ v x.cores]

/-- Nor is its dither. -/
theorem stripped_dith (x : Tile) (v : Vector Dith 4) : ({ x with dith := v } : Tile).stripped = x.stripped := by
  simp only [Tile.stripped, vecMap_const _ v x.dith]

/-- `t` is `s` but for what a follow-up may move. -/
def Follows (s t : State) : Prop := t.stripped = s.stripped

namespace Follows

variable {s t u : State}

theorem refl (s : State) : Follows s s := rfl

theorem trans (h : Follows s t) (k : Follows t u) : Follows s u := Eq.trans k h

/-- A run of follow-ups is one. -/
theorem foldl {α : Type} {f : State → α → State} (h : ∀ s a, Follows s (f s a)) (l : List α) (s : State) :
    Follows s (l.foldl f s) := by
  induction l generalizing s with
  | nil => exact refl s
  | cons a l ih => exact trans (h s a) (ih _)

theorem pats (s : State) {g : Pattern → Pattern} (h : ∀ x, (g x).stripped = x.stripped) :
    Follows s { s with pats := s.pats.map g } := by
  simp only [Follows, State.stripped, map_forget _ h]

theorem works (s : State) {g : Work → Work} (h : ∀ w, (g w).stripped = w.stripped) :
    Follows s { s with works := s.works.map g } := by
  simp only [Follows, State.stripped, map_forget _ h]

theorem mapTiles (s : State) {g : Nat → Tile → Tile} (h : ∀ i x, (g i x).stripped = x.stripped) :
    Follows s (mapTiles g s) := by
  simp only [Follows, State.stripped, Machine.mapTiles, vecMap_forget _ h]

theorem tile (s : State) (t : Fin 12) {g : Tile → Tile} (h : ∀ x, (g x).stripped = x.stripped) : Follows s (updTile t g s) := by
  simp only [Follows, State.stripped, updTile]
  rw [vecMap_set _ _ _ _ _ (by simpa using h _)]

theorem core (s : State) (c : Fin 48) (g : Core → Core) : Follows s (updCore c g s) :=
  tile s _ fun _ => stripped_cores _ _

theorem func (s : State) (n : Fin 64) {g : Func → Func}
    (h : ∀ x : Func, { g x with intCause := 0, pba := [], dirty := false } = { x with intCause := 0, pba := [], dirty := false }) :
    Follows s (updFunc n g s) := by
  simp only [Follows, State.stripped, updFunc]
  rw [vecMap_set _ _ _ _ _ (by simpa using h _)]

theorem pat (s : State) (ctx k : Nat) {g : Pattern → Pattern} (h : ∀ x, (g x).stripped = x.stripped) :
    Follows s (updPat ctx k g s) :=
  pats s fun x => by split <;> simp [h]

theorem work (s : State) (q seq : Nat) {g : Work → Work} (h : ∀ w, (g w).stripped = w.stripped) :
    Follows s (updWork q seq g s) :=
  works s fun w => by split <;> simp [h]

end Follows

/-! ### Placement and dealing -/

theorem follows_tidyCores (s : State) : Follows s (tidyCores s) :=
  .mapTiles s fun _ _ => stripped_cores _ _

theorem follows_takeover (s : State) : Follows s (takeoverFollow s) := by
  unfold takeoverFollow; split
  · exact .trans (t := Machine.mapTiles _ s) (.mapTiles s (g := fun _ x => { x with pend := x.pend.filter (· != .takeover) }) fun _ _ => rfl) rfl
  · exact .refl s

theorem follows_tailor (s : State) : Follows s (tailorFollow s) := rfl

theorem follows_putReplica (ctx h p : Nat) (cs : List (Fin 48)) (s : State) : Follows s (putReplica ctx h p cs s) := by
  refine .trans ?_ (follows_tidyCores _)
  exact .pat s ctx h fun _ => rfl

theorem follows_addReplica (ctx h p : Nat) (free : Bool) (s : State) : Follows s (addReplica ctx h p free s) := by
  unfold addReplica
  split
  · exact .refl s
  · split
    · exact .refl s
    · exact follows_putReplica ..

theorem follows_placePiece (ctx h : Nat) (s : State) (p : Nat) : Follows s (placePiece ctx h s p) := by
  unfold placePiece
  split
  · exact .refl s
  · split
    · exact .refl s
    · refine .trans ?_ (.pat _ ctx h fun y => ?_)
      · exact .foldl (fun s _ => follows_addReplica ctx h p false s) _ s
      · split <;> rfl

theorem follows_place (s : State) : Follows s (placeFollow s) := by
  unfold placeFollow; split
  · exact .foldl (fun s (x : Pattern) => .foldl (follows_placePiece x.ctx x.handle) _ s) _ s
  · exact .refl s

theorem follows_stripe (s : State) : Follows s (stripeFollow s) := by
  refine .pats s fun x => ?_
  repeat' split
  all_goals rfl

theorem follows_move (s : State) : Follows s (moveFollow s) := by
  simp only [moveFollow]; split
  · exact .refl s
  · refine .trans ?_ (follows_tidyCores _)
    exact .pats s fun _ => rfl

theorem take_stripped (p : Nat) (cs : List (Fin 48)) (w : Work) : (w.take p cs).stripped = w.stripped := rfl

theorem follows_dealPiece (q seq : Nat) (s : State) (p : Nat) : Follows s (dealPiece q seq s p) := by
  simp only [dealPiece]
  repeat' split
  all_goals first
    | exact .refl s
    | (refine .trans ?_ (.work _ q seq fun w => take_stripped _ _ w); exact .pat s _ _ fun _ => rfl)

theorem follows_dealWork (s : State) (w : Work) :
    Follows s (match s.pat? w.ctx w.pat with
      | some x => (List.range (nPieces x.file)).foldl (dealPiece w.q w.seq) s
      | none => s) := by
  split
  · exact .foldl (follows_dealPiece _ _) _ s
  · exact .refl s

theorem follows_deal (s : State) : Follows s (dealFollow s) := .foldl follows_dealWork _ s

/-! ### Streams -/

theorem follows_routeStream (ctx h : Nat) (s : State) (i : Nat) : Follows s (routeStream ctx h s i) := by
  unfold routeStream; split
  · exact .refl s
  · exact .pat s ctx h fun _ => rfl

theorem follows_holdBlock (ctx h : Nat) (s : State) (pb : Nat × Nat) : Follows s (holdBlock ctx h s pb) := by
  unfold holdBlock; split
  · exact .refl s
  · exact .pat s ctx h fun _ => rfl

theorem follows_routePattern (s : State) (x : Pattern) : Follows s (routePattern s x) := by
  refine .trans ?_ (.foldl (follows_holdBlock _ _) _ _)
  refine .trans ?_ (.foldl (follows_routeStream _ _) _ _)
  exact .pat s x.ctx x.handle fun _ => rfl

theorem follows_rerouteSeams (s : State) (x : Pattern) : Follows s (rerouteSeams s x) := by
  unfold rerouteSeams
  refine .foldl (fun s r => ?_) _ s
  refine .trans ?_ (follows_routeStream _ _ _ _)
  exact .pat s x.ctx x.handle fun _ => rfl

theorem follows_route (a b : State) : Follows b (routeFollow a b) := by
  unfold routeFollow; repeat' split
  · exact .foldl follows_routePattern _ b
  · exact .foldl follows_rerouteSeams _ b
  · exact .refl b

theorem follows_askCredits (q seq : Nat) (s : State) (i : Nat) : Follows s (askCredits q seq s i) := by
  unfold askCredits; repeat' split
  all_goals rfl

theorem follows_askAll (s : State) (w : Work) :
    Follows s (match s.pat? w.ctx w.pat with
      | some x => (List.range (nStreams x.file)).foldl (askCredits w.q w.seq) s
      | none => s) := by
  split
  · exact .foldl (follows_askCredits _ _) _ s
  · exact .refl s

theorem follows_buf (s : State) : Follows s (bufFollow s) := by
  simp only [bufFollow]
  refine .trans ?_ (.pats _ fun _ => rfl)
  refine .trans ?_ (.foldl follows_askAll _ _)
  rfl

/-! ### Self-test, duty, events -/

theorem follows_dither (t : Fin 12) (s : State) : Follows s (ditherFollow t s) := by
  simp only [ditherFollow]; repeat' split
  · exact .refl s
  · exact .tile s t fun _ => stripped_dith _ _
  · exact .trans (.tile s t fun _ => stripped_dith _ _) rfl

theorem stripped_tested (x : Tile) (f : Core → Core) :
    ({ Tile.slotEnded x (mapCores f x) with testing := true, cal := { (Tile.slotEnded x (mapCores f x)).cal with step := 9 } } :
      Tile).stripped = x.stripped := by
  unfold Tile.slotEnded
  split <;> simp only [Tile.stripped, Tile.summary, mapCores, vecMap_const _ (vecMap _ x.cores) x.cores]

theorem follows_selfTest (s : State) : Follows s (selfTestFollow s) := by
  simp only [selfTestFollow]; split
  · exact .refl s
  · repeat' split
    · rfl
    · refine .trans ?_ (follows_dither _ _)
      refine .trans ?_ (.tile _ _ fun x => stripped_tested x _)
      rfl
    · rfl

theorem follows_duty (a b : State) : Follows b (dutyFollow a b) := by
  simp only [dutyFollow]; split
  · exact .refl b
  · exact .trans (.foldl (fun s c => .core s c _) _ b) rfl

theorem follows_sendMsix (fn : Fin 64) (v : Nat) (s : State) : Follows s (sendMsix fn v s) := by
  unfold sendMsix; split
  · exact .func s fn fun _ => rfl
  · exact .refl _

theorem follows_raiseInt (fn : Fin 64) (bits : BitVec 11) (s : State) : Follows s (raiseInt fn bits s) := by
  simp only [raiseInt]
  generalize (if fn = 0 then bits else bits &&& 0x621#11) = b
  have h : Follows s (updFunc fn (fun f => { f with intCause := f.intCause ||| b }) s) := .func s fn fun _ => rfl
  split
  · exact h
  · exact h.trans (follows_sendMsix ..)

theorem follows_raiseAll (a b : State) (w : BitVec 11) : Follows b (raiseAll a b w) :=
  .foldl (fun s fn => by
    split
    · exact follows_raiseInt ..
    · exact .refl s) _ b

theorem follows_markPages (a b : State) : Follows b (markPages a b) := by
  simp only [Follows, State.stripped, markPages]
  rw [vecMap_forget _ fun _ _ => ?_, map_forget _ fun _ => ?_]
  all_goals repeat' split
  all_goals rfl

theorem follows_generation (a b : State) : Follows b (countGeneration a b) := by
  unfold countGeneration; split <;> rfl

theorem follows_placement (a b : State) : Follows b (placementFollow a b) :=
  .trans (follows_takeover b) (.trans (follows_tailor _) (.trans (follows_place _) (.trans (follows_stripe _) (.trans (follows_move _)
    (.trans (follows_tailor _) (.trans (follows_deal _) (.trans (follows_route a _) (.trans (follows_buf _) rfl))))))))

/-- Everything a follow-up can do: it moves what `State.stripped` clears, and nothing else. -/
theorem settle_follows (a b : State) (w : BitVec 11) : Follows b (settle a b w) :=
  .trans (follows_placement a b) (.trans (follows_selfTest _) (.trans (follows_duty a _)
    (.trans (follows_generation a _) (.trans (follows_markPages a _) (follows_raiseAll a _ w)))))

/-! ### Field by field -/

namespace Follows

variable {s t : State} (h : Follows s t)
include h

/-- Commands waiting, queues and requests stand. -/
theorem queueing : t.pending = s.pending ∧ t.queues = s.queues ∧ t.tracks = s.tracks ∧ t.reqs = s.reqs ∧ t.nextReq = s.nextReq ∧
    t.tailReads = s.tailReads ∧ t.cancelling = s.cancelling := by
  simp_all [Follows, State.stripped]

/-- The registers of the link, the admin queue, power and housekeeping stand. -/
theorem registers : t.admin = s.admin ∧ t.link = s.link ∧ t.hk = s.hk ∧ t.power = s.power ∧ t.mgmt = s.mgmt := by
  simp_all [Follows, State.stripped]

/-- Memories and their units stand. -/
theorem memories : t.host = s.host ∧ t.hbm = s.hbm ∧ t.lp = s.lp ∧ t.vault = s.vault ∧ t.swatches = s.swatches ∧ t.bolts = s.bolts ∧
    t.frames = s.frames ∧ t.scrubs = s.scrubs ∧ t.repairs = s.repairs ∧ t.d2d = s.d2d := by
  simp_all [Follows, State.stripped]

/-- What was answered and logged stands, and a CALIBRATE goes on. -/
theorem answers : t.reply = s.reply ∧ t.notes = s.notes ∧ t.calib = s.calib := by
  simp_all [Follows, State.stripped]

/-- So do the module's state and its inputs, and the Tailor's registers as written. -/
theorem module_ : t.mod.mstate = s.mod.mstate ∧ t.mod.faultCause = s.mod.faultCause ∧ t.tailor.profile = s.tailor.profile ∧
    t.tailor.reserve = s.tailor.reserve := by
  have hm := congrArg State.mod h
  have ht := congrArg State.tailor h
  simp_all [State.stripped]

/-- So does Thimble, GENERATION apart. -/
theorem thimble : { t.sec with generation := 0 } = { s.sec with generation := 0 } := congrArg State.sec h

/-- So does what each tile does: its state, its lasers, its seams, its rings. -/
theorem tileKept (i : Fin 12) : t.tiles[i].stripped = s.tiles[i].stripped := by
  have e := congrArg (fun v : Vector Tile 12 => v[i]) (congrArg State.tiles h)
  simpa [State.stripped, vecMap_getElem] using e

end Follows

section
variable (a b : State) (w : BitVec 11)

@[simp] theorem settle_queueing : (settle a b w).pending = b.pending ∧ (settle a b w).queues = b.queues ∧
    (settle a b w).tracks = b.tracks ∧ (settle a b w).reqs = b.reqs ∧ (settle a b w).nextReq = b.nextReq ∧
    (settle a b w).tailReads = b.tailReads ∧ (settle a b w).cancelling = b.cancelling := (settle_follows a b w).queueing

@[simp] theorem settle_queue? (n : Nat) : (settle a b w).queue? n = b.queue? n := by simp [State.queue?]

@[simp] theorem settle_registers : (settle a b w).admin = b.admin ∧ (settle a b w).link = b.link ∧ (settle a b w).hk = b.hk ∧
    (settle a b w).power = b.power ∧ (settle a b w).mgmt = b.mgmt := (settle_follows a b w).registers

@[simp] theorem settle_memories : (settle a b w).host = b.host ∧ (settle a b w).hbm = b.hbm ∧ (settle a b w).lp = b.lp ∧
    (settle a b w).vault = b.vault ∧ (settle a b w).swatches = b.swatches ∧ (settle a b w).bolts = b.bolts ∧
    (settle a b w).frames = b.frames ∧ (settle a b w).scrubs = b.scrubs ∧ (settle a b w).repairs = b.repairs ∧
    (settle a b w).d2d = b.d2d := (settle_follows a b w).memories

@[simp] theorem settle_answers : (settle a b w).reply = b.reply ∧ (settle a b w).notes = b.notes ∧ (settle a b w).calib = b.calib :=
  (settle_follows a b w).answers

@[simp] theorem settle_module : (settle a b w).mod.mstate = b.mod.mstate ∧ (settle a b w).mod.faultCause = b.mod.faultCause ∧
    (settle a b w).tailor.profile = b.tailor.profile ∧ (settle a b w).tailor.reserve = b.tailor.reserve :=
  (settle_follows a b w).module_

@[simp] theorem settle_ctxNums : (settle a b w).ctxs.map (·.num) = b.ctxs.map (·.num) := by
  have e := congrArg (List.map Ctx.num) (congrArg State.ctxs (settle_follows a b w))
  simpa [State.stripped, Function.comp_def] using e

end

end Sys2Proof.Machine
end

