-- ==== Sys2Proof/Laws/State.lean ====
section
/-! SUPPORT. The value each update of the state gives to the field it writes, for every field the updates that leave it alone,
and what a lookup finds afterwards, so that no proof unfolds a record update. -/
namespace Sys2Proof.Machine

variable (s : State)

/-! ### The field written -/

@[simp] theorem updCtx_ctxs (n : Nat) (f : Ctx → Ctx) : (updCtx n f s).ctxs = updWhere (·.num == n) f s.ctxs := rfl
@[simp] theorem updQueue_queues (q : Nat) (f : Queue → Queue) : (updQueue q f s).queues = updWhere (·.num == q) f s.queues := rfl
@[simp] theorem updPat_pats (ctx h : Nat) (f : Pattern → Pattern) : (updPat ctx h f s).pats = updWhere (fun p => p.ctx == ctx && p.handle == h) f s.pats := rfl
@[simp] theorem updWork_works (q seq : Nat) (f : Work → Work) : (updWork q seq f s).works = updWhere (fun w => w.q == q && w.seq == seq) f s.works := rfl
@[simp] theorem updFunc_funcs (n : Fin 64) (f : Func → Func) : (updFunc n f s).funcs = s.funcs.set n.val (f s.funcs[n]) := rfl
@[simp] theorem updTile_tiles (t : Fin 12) (f : Tile → Tile) : (updTile t f s).tiles = s.tiles.set t.val (f s.tiles[t]) := rfl
@[simp] theorem mapTiles_tiles (f : Nat → Tile → Tile) : (mapTiles f s).tiles = vecMap f s.tiles := rfl
@[simp] theorem note_notes (n : Note) : (note n s).notes = n :: s.notes := rfl
@[simp] theorem draw_free : (draw s).free = s.free + 1 := rfl
@[simp] theorem busWrite_host (fn : Fin 64) (a : Nat) (bs : List Byte) : (busWrite fn a bs s).host = memWriteN s.host a bs := rfl
@[simp] theorem seeHost_host (hs : List Cell) : (seeHost hs s).host = overlay hs s.host := rfl
@[simp] theorem updSec_sec (f : Sec → Sec) : (updSec f s).sec = f s.sec := rfl
@[simp] theorem updMgmt_mgmt (f : Mgmt → Mgmt) : (updMgmt f s).mgmt = f s.mgmt := rfl

/-! ### The fields kept: one lemma for each field, a clause for each update that leaves it alone -/

/-- The queue of waiting commands. -/
@[simp] theorem keeps_pending :
    (∀ n f, (updCtx n f s).pending = s.pending) ∧ (∀ q f, (updQueue q f s).pending = s.pending) ∧
    (∀ q seq f, (updEntry q seq f s).pending = s.pending) ∧ (∀ q seq st info, (finish q seq st info s).pending = s.pending) ∧
    (∀ q seq st info info2 fl, (finishFlags q seq st info info2 fl s).pending = s.pending) ∧
    (∀ q seq, (begin_ q seq s).pending = s.pending) ∧ (∀ q seq, (hold q seq s).pending = s.pending) ∧
    (∀ ctx h f, (updPat ctx h f s).pending = s.pending) ∧ (∀ q seq f, (updWork q seq f s).pending = s.pending) ∧
    (∀ q seq, (cancelReqs q seq s).pending = s.pending) ∧ (∀ id f, (updSpool id f s).pending = s.pending) ∧
    (∀ n f, (updFunc n f s).pending = s.pending) ∧ (∀ t f, (updTile t f s).pending = s.pending) ∧
    (∀ f, (mapTiles f s).pending = s.pending) ∧ (∀ c f, (updCore c f s).pending = s.pending) ∧
    (∀ n, (note n s).pending = s.pending) ∧ (draw s).pending = s.pending ∧
    (∀ fn a bs, (busWrite fn a bs s).pending = s.pending) ∧ (∀ hs, (seeHost hs s).pending = s.pending) ∧
    (∀ m f, (updMon m f s).pending = s.pending) ∧ (∀ f, (updSec f s).pending = s.pending) ∧
    (∀ f, (updMgmt f s).pending = s.pending) ∧ (∀ id f, (updConn id f s).pending = s.pending) ∧
    (∀ user f, (updAccount user f s).pending = s.pending) ∧ (∀ id f, (updIde id f s).pending = s.pending) := by
  and_intros <;> intros <;> rfl

/-- The module's reset state. -/
@[simp] theorem keeps_mod :
    (∀ n f, (updCtx n f s).mod = s.mod) ∧ (∀ q f, (updQueue q f s).mod = s.mod) ∧
    (∀ q seq f, (updEntry q seq f s).mod = s.mod) ∧ (∀ q seq st info, (finish q seq st info s).mod = s.mod) ∧
    (∀ q seq st info info2 fl, (finishFlags q seq st info info2 fl s).mod = s.mod) ∧ (∀ q seq, (begin_ q seq s).mod = s.mod) ∧
    (∀ q seq, (hold q seq s).mod = s.mod) ∧ (∀ ctx h f, (updPat ctx h f s).mod = s.mod) ∧
    (∀ q seq f, (updWork q seq f s).mod = s.mod) ∧ (∀ q seq, (cancelReqs q seq s).mod = s.mod) ∧
    (∀ id f, (updSpool id f s).mod = s.mod) ∧ (∀ n f, (updFunc n f s).mod = s.mod) ∧ (∀ t f, (updTile t f s).mod = s.mod) ∧
    (∀ f, (mapTiles f s).mod = s.mod) ∧ (∀ c f, (updCore c f s).mod = s.mod) ∧ (∀ n, (note n s).mod = s.mod) ∧
    (draw s).mod = s.mod ∧ (∀ fn a bs, (busWrite fn a bs s).mod = s.mod) ∧ (∀ hs, (seeHost hs s).mod = s.mod) ∧
    (∀ m f, (updMon m f s).mod = s.mod) ∧ (∀ f, (updSec f s).mod = s.mod) ∧ (∀ f, (updMgmt f s).mod = s.mod) ∧
    (∀ id f, (updConn id f s).mod = s.mod) ∧ (∀ user f, (updAccount user f s).mod = s.mod) ∧
    (∀ id f, (updIde id f s).mod = s.mod) := by
  and_intros <;> intros <;> rfl

/-- The Tailor. -/
@[simp] theorem keeps_tailor :
    (∀ n f, (updCtx n f s).tailor = s.tailor) ∧ (∀ q f, (updQueue q f s).tailor = s.tailor) ∧
    (∀ q seq f, (updEntry q seq f s).tailor = s.tailor) ∧ (∀ q seq st info, (finish q seq st info s).tailor = s.tailor) ∧
    (∀ q seq st info info2 fl, (finishFlags q seq st info info2 fl s).tailor = s.tailor) ∧
    (∀ q seq, (begin_ q seq s).tailor = s.tailor) ∧ (∀ q seq, (hold q seq s).tailor = s.tailor) ∧
    (∀ ctx h f, (updPat ctx h f s).tailor = s.tailor) ∧ (∀ q seq f, (updWork q seq f s).tailor = s.tailor) ∧
    (∀ q seq, (cancelReqs q seq s).tailor = s.tailor) ∧ (∀ id f, (updSpool id f s).tailor = s.tailor) ∧
    (∀ n f, (updFunc n f s).tailor = s.tailor) ∧ (∀ t f, (updTile t f s).tailor = s.tailor) ∧
    (∀ f, (mapTiles f s).tailor = s.tailor) ∧ (∀ c f, (updCore c f s).tailor = s.tailor) ∧
    (∀ n, (note n s).tailor = s.tailor) ∧ (draw s).tailor = s.tailor ∧ (∀ fn a bs, (busWrite fn a bs s).tailor = s.tailor) ∧
    (∀ hs, (seeHost hs s).tailor = s.tailor) ∧ (∀ m f, (updMon m f s).tailor = s.tailor) ∧
    (∀ f, (updSec f s).tailor = s.tailor) ∧ (∀ f, (updMgmt f s).tailor = s.tailor) ∧
    (∀ id f, (updConn id f s).tailor = s.tailor) ∧ (∀ user f, (updAccount user f s).tailor = s.tailor) ∧
    (∀ id f, (updIde id f s).tailor = s.tailor) := by
  and_intros <;> intros <;> rfl

/-- The admin queue. -/
@[simp] theorem keeps_admin :
    (∀ n f, (updCtx n f s).admin = s.admin) ∧ (∀ q f, (updQueue q f s).admin = s.admin) ∧
    (∀ q seq f, (updEntry q seq f s).admin = s.admin) ∧ (∀ q seq st info, (finish q seq st info s).admin = s.admin) ∧
    (∀ q seq st info info2 fl, (finishFlags q seq st info info2 fl s).admin = s.admin) ∧
    (∀ q seq, (begin_ q seq s).admin = s.admin) ∧ (∀ q seq, (hold q seq s).admin = s.admin) ∧
    (∀ ctx h f, (updPat ctx h f s).admin = s.admin) ∧ (∀ q seq f, (updWork q seq f s).admin = s.admin) ∧
    (∀ q seq, (cancelReqs q seq s).admin = s.admin) ∧ (∀ id f, (updSpool id f s).admin = s.admin) ∧
    (∀ n f, (updFunc n f s).admin = s.admin) ∧ (∀ t f, (updTile t f s).admin = s.admin) ∧
    (∀ f, (mapTiles f s).admin = s.admin) ∧ (∀ c f, (updCore c f s).admin = s.admin) ∧ (∀ n, (note n s).admin = s.admin) ∧
    (draw s).admin = s.admin ∧ (∀ fn a bs, (busWrite fn a bs s).admin = s.admin) ∧ (∀ hs, (seeHost hs s).admin = s.admin) ∧
    (∀ m f, (updMon m f s).admin = s.admin) ∧ (∀ f, (updSec f s).admin = s.admin) ∧ (∀ f, (updMgmt f s).admin = s.admin) ∧
    (∀ id f, (updConn id f s).admin = s.admin) ∧ (∀ user f, (updAccount user f s).admin = s.admin) ∧
    (∀ id f, (updIde id f s).admin = s.admin) := by
  and_intros <;> intros <;> rfl

/-- The functions. -/
@[simp] theorem keeps_funcs :
    (∀ n f, (updCtx n f s).funcs = s.funcs) ∧ (∀ q f, (updQueue q f s).funcs = s.funcs) ∧
    (∀ q seq f, (updEntry q seq f s).funcs = s.funcs) ∧ (∀ q seq st info, (finish q seq st info s).funcs = s.funcs) ∧
    (∀ q seq st info info2 fl, (finishFlags q seq st info info2 fl s).funcs = s.funcs) ∧
    (∀ q seq, (begin_ q seq s).funcs = s.funcs) ∧ (∀ q seq, (hold q seq s).funcs = s.funcs) ∧
    (∀ ctx h f, (updPat ctx h f s).funcs = s.funcs) ∧ (∀ q seq f, (updWork q seq f s).funcs = s.funcs) ∧
    (∀ q seq, (cancelReqs q seq s).funcs = s.funcs) ∧ (∀ id f, (updSpool id f s).funcs = s.funcs) ∧
    (∀ t f, (updTile t f s).funcs = s.funcs) ∧ (∀ f, (mapTiles f s).funcs = s.funcs) ∧
    (∀ c f, (updCore c f s).funcs = s.funcs) ∧ (∀ n, (note n s).funcs = s.funcs) ∧ (draw s).funcs = s.funcs ∧
    (∀ fn a bs, (busWrite fn a bs s).funcs = s.funcs) ∧ (∀ hs, (seeHost hs s).funcs = s.funcs) ∧
    (∀ m f, (updMon m f s).funcs = s.funcs) ∧ (∀ f, (updSec f s).funcs = s.funcs) ∧ (∀ f, (updMgmt f s).funcs = s.funcs) ∧
    (∀ id f, (updConn id f s).funcs = s.funcs) ∧ (∀ user f, (updAccount user f s).funcs = s.funcs) ∧
    (∀ id f, (updIde id f s).funcs = s.funcs) := by
  and_intros <;> intros <;> rfl

/-- The host link. -/
@[simp] theorem keeps_link :
    (∀ n f, (updCtx n f s).link = s.link) ∧ (∀ q f, (updQueue q f s).link = s.link) ∧
    (∀ q seq f, (updEntry q seq f s).link = s.link) ∧ (∀ q seq st info, (finish q seq st info s).link = s.link) ∧
    (∀ q seq st info info2 fl, (finishFlags q seq st info info2 fl s).link = s.link) ∧
    (∀ q seq, (begin_ q seq s).link = s.link) ∧ (∀ q seq, (hold q seq s).link = s.link) ∧
    (∀ ctx h f, (updPat ctx h f s).link = s.link) ∧ (∀ q seq f, (updWork q seq f s).link = s.link) ∧
    (∀ q seq, (cancelReqs q seq s).link = s.link) ∧ (∀ id f, (updSpool id f s).link = s.link) ∧
    (∀ n f, (updFunc n f s).link = s.link) ∧ (∀ t f, (updTile t f s).link = s.link) ∧ (∀ f, (mapTiles f s).link = s.link) ∧
    (∀ c f, (updCore c f s).link = s.link) ∧ (∀ n, (note n s).link = s.link) ∧ (draw s).link = s.link ∧
    (∀ fn a bs, (busWrite fn a bs s).link = s.link) ∧ (∀ hs, (seeHost hs s).link = s.link) ∧
    (∀ m f, (updMon m f s).link = s.link) ∧ (∀ f, (updSec f s).link = s.link) ∧ (∀ f, (updMgmt f s).link = s.link) ∧
    (∀ id f, (updConn id f s).link = s.link) ∧ (∀ user f, (updAccount user f s).link = s.link) := by
  and_intros <;> intros <;> rfl

/-- Contexts. -/
@[simp] theorem keeps_ctxs :
    (∀ q f, (updQueue q f s).ctxs = s.ctxs) ∧ (∀ q seq f, (updEntry q seq f s).ctxs = s.ctxs) ∧
    (∀ q seq st info, (finish q seq st info s).ctxs = s.ctxs) ∧
    (∀ q seq st info info2 fl, (finishFlags q seq st info info2 fl s).ctxs = s.ctxs) ∧
    (∀ q seq, (begin_ q seq s).ctxs = s.ctxs) ∧ (∀ q seq, (hold q seq s).ctxs = s.ctxs) ∧
    (∀ ctx h f, (updPat ctx h f s).ctxs = s.ctxs) ∧ (∀ q seq f, (updWork q seq f s).ctxs = s.ctxs) ∧
    (∀ q seq, (cancelReqs q seq s).ctxs = s.ctxs) ∧ (∀ id f, (updSpool id f s).ctxs = s.ctxs) ∧
    (∀ n f, (updFunc n f s).ctxs = s.ctxs) ∧ (∀ t f, (updTile t f s).ctxs = s.ctxs) ∧ (∀ f, (mapTiles f s).ctxs = s.ctxs) ∧
    (∀ c f, (updCore c f s).ctxs = s.ctxs) ∧ (∀ n, (note n s).ctxs = s.ctxs) ∧ (draw s).ctxs = s.ctxs ∧
    (∀ fn a bs, (busWrite fn a bs s).ctxs = s.ctxs) ∧ (∀ hs, (seeHost hs s).ctxs = s.ctxs) ∧
    (∀ m f, (updMon m f s).ctxs = s.ctxs) ∧ (∀ f, (updSec f s).ctxs = s.ctxs) ∧ (∀ f, (updMgmt f s).ctxs = s.ctxs) ∧
    (∀ id f, (updConn id f s).ctxs = s.ctxs) ∧ (∀ user f, (updAccount user f s).ctxs = s.ctxs) ∧
    (∀ id f, (updIde id f s).ctxs = s.ctxs) := by
  and_intros <;> intros <;> rfl

/-- Queues. -/
@[simp] theorem keeps_queues :
    (∀ n f, (updCtx n f s).queues = s.queues) ∧ (∀ ctx h f, (updPat ctx h f s).queues = s.queues) ∧
    (∀ q seq f, (updWork q seq f s).queues = s.queues) ∧ (∀ q seq, (cancelReqs q seq s).queues = s.queues) ∧
    (∀ id f, (updSpool id f s).queues = s.queues) ∧ (∀ n f, (updFunc n f s).queues = s.queues) ∧
    (∀ t f, (updTile t f s).queues = s.queues) ∧ (∀ f, (mapTiles f s).queues = s.queues) ∧
    (∀ c f, (updCore c f s).queues = s.queues) ∧ (∀ n, (note n s).queues = s.queues) ∧ (draw s).queues = s.queues ∧
    (∀ fn a bs, (busWrite fn a bs s).queues = s.queues) ∧ (∀ hs, (seeHost hs s).queues = s.queues) ∧
    (∀ m f, (updMon m f s).queues = s.queues) ∧ (∀ f, (updSec f s).queues = s.queues) ∧
    (∀ f, (updMgmt f s).queues = s.queues) ∧ (∀ id f, (updConn id f s).queues = s.queues) ∧
    (∀ user f, (updAccount user f s).queues = s.queues) ∧ (∀ id f, (updIde id f s).queues = s.queues) := by
  and_intros <;> intros <;> rfl

/-- Loaded patterns. -/
@[simp] theorem keeps_pats :
    (∀ n f, (updCtx n f s).pats = s.pats) ∧ (∀ q f, (updQueue q f s).pats = s.pats) ∧
    (∀ q seq f, (updEntry q seq f s).pats = s.pats) ∧ (∀ q seq st info, (finish q seq st info s).pats = s.pats) ∧
    (∀ q seq st info info2 fl, (finishFlags q seq st info info2 fl s).pats = s.pats) ∧
    (∀ q seq, (begin_ q seq s).pats = s.pats) ∧ (∀ q seq, (hold q seq s).pats = s.pats) ∧
    (∀ q seq f, (updWork q seq f s).pats = s.pats) ∧ (∀ q seq, (cancelReqs q seq s).pats = s.pats) ∧
    (∀ id f, (updSpool id f s).pats = s.pats) ∧ (∀ n f, (updFunc n f s).pats = s.pats) ∧
    (∀ t f, (updTile t f s).pats = s.pats) ∧ (∀ f, (mapTiles f s).pats = s.pats) ∧ (∀ c f, (updCore c f s).pats = s.pats) ∧
    (∀ n, (note n s).pats = s.pats) ∧ (draw s).pats = s.pats ∧ (∀ fn a bs, (busWrite fn a bs s).pats = s.pats) ∧
    (∀ hs, (seeHost hs s).pats = s.pats) ∧ (∀ m f, (updMon m f s).pats = s.pats) ∧ (∀ f, (updSec f s).pats = s.pats) ∧
    (∀ f, (updMgmt f s).pats = s.pats) ∧ (∀ id f, (updConn id f s).pats = s.pats) ∧
    (∀ user f, (updAccount user f s).pats = s.pats) ∧ (∀ id f, (updIde id f s).pats = s.pats) := by
  and_intros <;> intros <;> rfl

/-- Trackers. -/
@[simp] theorem keeps_tracks :
    (∀ n f, (updCtx n f s).tracks = s.tracks) ∧ (∀ q f, (updQueue q f s).tracks = s.tracks) ∧
    (∀ q seq f, (updEntry q seq f s).tracks = s.tracks) ∧ (∀ q seq st info, (finish q seq st info s).tracks = s.tracks) ∧
    (∀ q seq st info info2 fl, (finishFlags q seq st info info2 fl s).tracks = s.tracks) ∧
    (∀ q seq, (begin_ q seq s).tracks = s.tracks) ∧ (∀ q seq, (hold q seq s).tracks = s.tracks) ∧
    (∀ ctx h f, (updPat ctx h f s).tracks = s.tracks) ∧ (∀ q seq f, (updWork q seq f s).tracks = s.tracks) ∧
    (∀ q seq, (cancelReqs q seq s).tracks = s.tracks) ∧ (∀ id f, (updSpool id f s).tracks = s.tracks) ∧
    (∀ n f, (updFunc n f s).tracks = s.tracks) ∧ (∀ t f, (updTile t f s).tracks = s.tracks) ∧
    (∀ f, (mapTiles f s).tracks = s.tracks) ∧ (∀ c f, (updCore c f s).tracks = s.tracks) ∧
    (∀ n, (note n s).tracks = s.tracks) ∧ (draw s).tracks = s.tracks ∧ (∀ fn a bs, (busWrite fn a bs s).tracks = s.tracks) ∧
    (∀ hs, (seeHost hs s).tracks = s.tracks) ∧ (∀ m f, (updMon m f s).tracks = s.tracks) ∧
    (∀ f, (updSec f s).tracks = s.tracks) ∧ (∀ f, (updMgmt f s).tracks = s.tracks) ∧
    (∀ id f, (updConn id f s).tracks = s.tracks) ∧ (∀ user f, (updAccount user f s).tracks = s.tracks) ∧
    (∀ id f, (updIde id f s).tracks = s.tracks) := by
  and_intros <;> intros <;> rfl

/-- Work items. -/
@[simp] theorem keeps_works :
    (∀ n f, (updCtx n f s).works = s.works) ∧ (∀ q f, (updQueue q f s).works = s.works) ∧
    (∀ q seq f, (updEntry q seq f s).works = s.works) ∧ (∀ q seq st info, (finish q seq st info s).works = s.works) ∧
    (∀ q seq st info info2 fl, (finishFlags q seq st info info2 fl s).works = s.works) ∧
    (∀ q seq, (begin_ q seq s).works = s.works) ∧ (∀ q seq, (hold q seq s).works = s.works) ∧
    (∀ ctx h f, (updPat ctx h f s).works = s.works) ∧ (∀ q seq, (cancelReqs q seq s).works = s.works) ∧
    (∀ id f, (updSpool id f s).works = s.works) ∧ (∀ n f, (updFunc n f s).works = s.works) ∧
    (∀ t f, (updTile t f s).works = s.works) ∧ (∀ f, (mapTiles f s).works = s.works) ∧
    (∀ c f, (updCore c f s).works = s.works) ∧ (∀ n, (note n s).works = s.works) ∧ (draw s).works = s.works ∧
    (∀ fn a bs, (busWrite fn a bs s).works = s.works) ∧ (∀ hs, (seeHost hs s).works = s.works) ∧
    (∀ m f, (updMon m f s).works = s.works) ∧ (∀ f, (updSec f s).works = s.works) ∧ (∀ f, (updMgmt f s).works = s.works) ∧
    (∀ id f, (updConn id f s).works = s.works) ∧ (∀ user f, (updAccount user f s).works = s.works) ∧
    (∀ id f, (updIde id f s).works = s.works) := by
  and_intros <;> intros <;> rfl

/-- Feed-dog requests. -/
@[simp] theorem keeps_reqs :
    (∀ n f, (updCtx n f s).reqs = s.reqs) ∧ (∀ q f, (updQueue q f s).reqs = s.reqs) ∧
    (∀ q seq f, (updEntry q seq f s).reqs = s.reqs) ∧ (∀ q seq st info, (finish q seq st info s).reqs = s.reqs) ∧
    (∀ q seq st info info2 fl, (finishFlags q seq st info info2 fl s).reqs = s.reqs) ∧
    (∀ q seq, (begin_ q seq s).reqs = s.reqs) ∧ (∀ q seq, (hold q seq s).reqs = s.reqs) ∧
    (∀ ctx h f, (updPat ctx h f s).reqs = s.reqs) ∧ (∀ q seq f, (updWork q seq f s).reqs = s.reqs) ∧
    (∀ id f, (updSpool id f s).reqs = s.reqs) ∧ (∀ n f, (updFunc n f s).reqs = s.reqs) ∧
    (∀ t f, (updTile t f s).reqs = s.reqs) ∧ (∀ f, (mapTiles f s).reqs = s.reqs) ∧ (∀ c f, (updCore c f s).reqs = s.reqs) ∧
    (∀ n, (note n s).reqs = s.reqs) ∧ (draw s).reqs = s.reqs ∧ (∀ fn a bs, (busWrite fn a bs s).reqs = s.reqs) ∧
    (∀ hs, (seeHost hs s).reqs = s.reqs) ∧ (∀ m f, (updMon m f s).reqs = s.reqs) ∧ (∀ f, (updSec f s).reqs = s.reqs) ∧
    (∀ f, (updMgmt f s).reqs = s.reqs) ∧ (∀ id f, (updConn id f s).reqs = s.reqs) ∧
    (∀ user f, (updAccount user f s).reqs = s.reqs) ∧ (∀ id f, (updIde id f s).reqs = s.reqs) := by
  and_intros <;> intros <;> rfl

/-- The next request number. -/
@[simp] theorem keeps_nextReq :
    (∀ n f, (updCtx n f s).nextReq = s.nextReq) ∧ (∀ q f, (updQueue q f s).nextReq = s.nextReq) ∧
    (∀ q seq f, (updEntry q seq f s).nextReq = s.nextReq) ∧ (∀ q seq st info, (finish q seq st info s).nextReq = s.nextReq) ∧
    (∀ q seq st info info2 fl, (finishFlags q seq st info info2 fl s).nextReq = s.nextReq) ∧
    (∀ q seq, (begin_ q seq s).nextReq = s.nextReq) ∧ (∀ q seq, (hold q seq s).nextReq = s.nextReq) ∧
    (∀ ctx h f, (updPat ctx h f s).nextReq = s.nextReq) ∧ (∀ q seq f, (updWork q seq f s).nextReq = s.nextReq) ∧
    (∀ q seq, (cancelReqs q seq s).nextReq = s.nextReq) ∧ (∀ id f, (updSpool id f s).nextReq = s.nextReq) ∧
    (∀ n f, (updFunc n f s).nextReq = s.nextReq) ∧ (∀ t f, (updTile t f s).nextReq = s.nextReq) ∧
    (∀ f, (mapTiles f s).nextReq = s.nextReq) ∧ (∀ c f, (updCore c f s).nextReq = s.nextReq) ∧
    (∀ n, (note n s).nextReq = s.nextReq) ∧ (draw s).nextReq = s.nextReq ∧
    (∀ fn a bs, (busWrite fn a bs s).nextReq = s.nextReq) ∧ (∀ hs, (seeHost hs s).nextReq = s.nextReq) ∧
    (∀ m f, (updMon m f s).nextReq = s.nextReq) ∧ (∀ f, (updSec f s).nextReq = s.nextReq) ∧
    (∀ f, (updMgmt f s).nextReq = s.nextReq) ∧ (∀ id f, (updConn id f s).nextReq = s.nextReq) ∧
    (∀ user f, (updAccount user f s).nextReq = s.nextReq) ∧ (∀ id f, (updIde id f s).nextReq = s.nextReq) := by
  and_intros <;> intros <;> rfl

/-- The count of TAIL reads. -/
@[simp] theorem keeps_tailReads :
    (∀ n f, (updCtx n f s).tailReads = s.tailReads) ∧ (∀ q f, (updQueue q f s).tailReads = s.tailReads) ∧
    (∀ q seq f, (updEntry q seq f s).tailReads = s.tailReads) ∧
    (∀ q seq st info, (finish q seq st info s).tailReads = s.tailReads) ∧
    (∀ q seq st info info2 fl, (finishFlags q seq st info info2 fl s).tailReads = s.tailReads) ∧
    (∀ q seq, (begin_ q seq s).tailReads = s.tailReads) ∧ (∀ q seq, (hold q seq s).tailReads = s.tailReads) ∧
    (∀ ctx h f, (updPat ctx h f s).tailReads = s.tailReads) ∧ (∀ q seq f, (updWork q seq f s).tailReads = s.tailReads) ∧
    (∀ q seq, (cancelReqs q seq s).tailReads = s.tailReads) ∧ (∀ id f, (updSpool id f s).tailReads = s.tailReads) ∧
    (∀ n f, (updFunc n f s).tailReads = s.tailReads) ∧ (∀ t f, (updTile t f s).tailReads = s.tailReads) ∧
    (∀ f, (mapTiles f s).tailReads = s.tailReads) ∧ (∀ c f, (updCore c f s).tailReads = s.tailReads) ∧
    (∀ n, (note n s).tailReads = s.tailReads) ∧ (draw s).tailReads = s.tailReads ∧
    (∀ fn a bs, (busWrite fn a bs s).tailReads = s.tailReads) ∧ (∀ hs, (seeHost hs s).tailReads = s.tailReads) ∧
    (∀ m f, (updMon m f s).tailReads = s.tailReads) ∧ (∀ f, (updSec f s).tailReads = s.tailReads) ∧
    (∀ f, (updMgmt f s).tailReads = s.tailReads) ∧ (∀ id f, (updConn id f s).tailReads = s.tailReads) ∧
    (∀ user f, (updAccount user f s).tailReads = s.tailReads) ∧ (∀ id f, (updIde id f s).tailReads = s.tailReads) := by
  and_intros <;> intros <;> rfl

/-- Tiles. -/
@[simp] theorem keeps_tiles :
    (∀ n f, (updCtx n f s).tiles = s.tiles) ∧ (∀ q f, (updQueue q f s).tiles = s.tiles) ∧
    (∀ q seq f, (updEntry q seq f s).tiles = s.tiles) ∧ (∀ q seq st info, (finish q seq st info s).tiles = s.tiles) ∧
    (∀ q seq st info info2 fl, (finishFlags q seq st info info2 fl s).tiles = s.tiles) ∧
    (∀ q seq, (begin_ q seq s).tiles = s.tiles) ∧ (∀ q seq, (hold q seq s).tiles = s.tiles) ∧
    (∀ ctx h f, (updPat ctx h f s).tiles = s.tiles) ∧ (∀ q seq f, (updWork q seq f s).tiles = s.tiles) ∧
    (∀ q seq, (cancelReqs q seq s).tiles = s.tiles) ∧ (∀ id f, (updSpool id f s).tiles = s.tiles) ∧
    (∀ n f, (updFunc n f s).tiles = s.tiles) ∧ (∀ n, (note n s).tiles = s.tiles) ∧ (draw s).tiles = s.tiles ∧
    (∀ fn a bs, (busWrite fn a bs s).tiles = s.tiles) ∧ (∀ hs, (seeHost hs s).tiles = s.tiles) ∧
    (∀ m f, (updMon m f s).tiles = s.tiles) ∧ (∀ f, (updSec f s).tiles = s.tiles) ∧ (∀ f, (updMgmt f s).tiles = s.tiles) ∧
    (∀ id f, (updConn id f s).tiles = s.tiles) ∧ (∀ user f, (updAccount user f s).tiles = s.tiles) ∧
    (∀ id f, (updIde id f s).tiles = s.tiles) := by
  and_intros <;> intros <;> rfl

/-- Housekeeping. -/
@[simp] theorem keeps_hk :
    (∀ n f, (updCtx n f s).hk = s.hk) ∧ (∀ q f, (updQueue q f s).hk = s.hk) ∧ (∀ q seq f, (updEntry q seq f s).hk = s.hk) ∧
    (∀ q seq st info, (finish q seq st info s).hk = s.hk) ∧
    (∀ q seq st info info2 fl, (finishFlags q seq st info info2 fl s).hk = s.hk) ∧ (∀ q seq, (begin_ q seq s).hk = s.hk) ∧
    (∀ q seq, (hold q seq s).hk = s.hk) ∧ (∀ ctx h f, (updPat ctx h f s).hk = s.hk) ∧
    (∀ q seq f, (updWork q seq f s).hk = s.hk) ∧ (∀ q seq, (cancelReqs q seq s).hk = s.hk) ∧
    (∀ id f, (updSpool id f s).hk = s.hk) ∧ (∀ n f, (updFunc n f s).hk = s.hk) ∧ (∀ t f, (updTile t f s).hk = s.hk) ∧
    (∀ f, (mapTiles f s).hk = s.hk) ∧ (∀ c f, (updCore c f s).hk = s.hk) ∧ (∀ n, (note n s).hk = s.hk) ∧ (draw s).hk = s.hk ∧
    (∀ fn a bs, (busWrite fn a bs s).hk = s.hk) ∧ (∀ hs, (seeHost hs s).hk = s.hk) ∧ (∀ f, (updSec f s).hk = s.hk) ∧
    (∀ f, (updMgmt f s).hk = s.hk) ∧ (∀ id f, (updConn id f s).hk = s.hk) ∧ (∀ user f, (updAccount user f s).hk = s.hk) ∧
    (∀ id f, (updIde id f s).hk = s.hk) := by
  and_intros <;> intros <;> rfl

/-- Power. -/
@[simp] theorem keeps_power :
    (∀ n f, (updCtx n f s).power = s.power) ∧ (∀ q f, (updQueue q f s).power = s.power) ∧
    (∀ q seq f, (updEntry q seq f s).power = s.power) ∧ (∀ q seq st info, (finish q seq st info s).power = s.power) ∧
    (∀ q seq st info info2 fl, (finishFlags q seq st info info2 fl s).power = s.power) ∧
    (∀ q seq, (begin_ q seq s).power = s.power) ∧ (∀ q seq, (hold q seq s).power = s.power) ∧
    (∀ ctx h f, (updPat ctx h f s).power = s.power) ∧ (∀ q seq f, (updWork q seq f s).power = s.power) ∧
    (∀ q seq, (cancelReqs q seq s).power = s.power) ∧ (∀ id f, (updSpool id f s).power = s.power) ∧
    (∀ n f, (updFunc n f s).power = s.power) ∧ (∀ t f, (updTile t f s).power = s.power) ∧
    (∀ f, (mapTiles f s).power = s.power) ∧ (∀ c f, (updCore c f s).power = s.power) ∧ (∀ n, (note n s).power = s.power) ∧
    (draw s).power = s.power ∧ (∀ fn a bs, (busWrite fn a bs s).power = s.power) ∧ (∀ hs, (seeHost hs s).power = s.power) ∧
    (∀ m f, (updMon m f s).power = s.power) ∧ (∀ f, (updSec f s).power = s.power) ∧ (∀ f, (updMgmt f s).power = s.power) ∧
    (∀ id f, (updConn id f s).power = s.power) ∧ (∀ user f, (updAccount user f s).power = s.power) ∧
    (∀ id f, (updIde id f s).power = s.power) := by
  and_intros <;> intros <;> rfl

/-- The vault. -/
@[simp] theorem keeps_vault :
    (∀ n f, (updCtx n f s).vault = s.vault) ∧ (∀ q f, (updQueue q f s).vault = s.vault) ∧
    (∀ q seq f, (updEntry q seq f s).vault = s.vault) ∧ (∀ q seq st info, (finish q seq st info s).vault = s.vault) ∧
    (∀ q seq st info info2 fl, (finishFlags q seq st info info2 fl s).vault = s.vault) ∧
    (∀ q seq, (begin_ q seq s).vault = s.vault) ∧ (∀ q seq, (hold q seq s).vault = s.vault) ∧
    (∀ ctx h f, (updPat ctx h f s).vault = s.vault) ∧ (∀ q seq f, (updWork q seq f s).vault = s.vault) ∧
    (∀ q seq, (cancelReqs q seq s).vault = s.vault) ∧ (∀ n f, (updFunc n f s).vault = s.vault) ∧
    (∀ t f, (updTile t f s).vault = s.vault) ∧ (∀ f, (mapTiles f s).vault = s.vault) ∧
    (∀ c f, (updCore c f s).vault = s.vault) ∧ (∀ n, (note n s).vault = s.vault) ∧ (draw s).vault = s.vault ∧
    (∀ fn a bs, (busWrite fn a bs s).vault = s.vault) ∧ (∀ hs, (seeHost hs s).vault = s.vault) ∧
    (∀ m f, (updMon m f s).vault = s.vault) ∧ (∀ f, (updSec f s).vault = s.vault) ∧ (∀ f, (updMgmt f s).vault = s.vault) ∧
    (∀ id f, (updConn id f s).vault = s.vault) ∧ (∀ user f, (updAccount user f s).vault = s.vault) ∧
    (∀ id f, (updIde id f s).vault = s.vault) := by
  and_intros <;> intros <;> rfl

/-- Thimble. -/
@[simp] theorem keeps_sec :
    (∀ n f, (updCtx n f s).sec = s.sec) ∧ (∀ q f, (updQueue q f s).sec = s.sec) ∧
    (∀ q seq f, (updEntry q seq f s).sec = s.sec) ∧ (∀ q seq st info, (finish q seq st info s).sec = s.sec) ∧
    (∀ q seq st info info2 fl, (finishFlags q seq st info info2 fl s).sec = s.sec) ∧ (∀ q seq, (begin_ q seq s).sec = s.sec) ∧
    (∀ q seq, (hold q seq s).sec = s.sec) ∧ (∀ ctx h f, (updPat ctx h f s).sec = s.sec) ∧
    (∀ q seq f, (updWork q seq f s).sec = s.sec) ∧ (∀ q seq, (cancelReqs q seq s).sec = s.sec) ∧
    (∀ id f, (updSpool id f s).sec = s.sec) ∧ (∀ n f, (updFunc n f s).sec = s.sec) ∧ (∀ t f, (updTile t f s).sec = s.sec) ∧
    (∀ f, (mapTiles f s).sec = s.sec) ∧ (∀ c f, (updCore c f s).sec = s.sec) ∧ (∀ n, (note n s).sec = s.sec) ∧
    (draw s).sec = s.sec ∧ (∀ fn a bs, (busWrite fn a bs s).sec = s.sec) ∧ (∀ hs, (seeHost hs s).sec = s.sec) ∧
    (∀ m f, (updMon m f s).sec = s.sec) ∧ (∀ f, (updMgmt f s).sec = s.sec) ∧ (∀ id f, (updConn id f s).sec = s.sec) ∧
    (∀ user f, (updAccount user f s).sec = s.sec) ∧ (∀ id f, (updIde id f s).sec = s.sec) := by
  and_intros <;> intros <;> rfl

/-- The management service. -/
@[simp] theorem keeps_mgmt :
    (∀ n f, (updCtx n f s).mgmt = s.mgmt) ∧ (∀ q f, (updQueue q f s).mgmt = s.mgmt) ∧
    (∀ q seq f, (updEntry q seq f s).mgmt = s.mgmt) ∧ (∀ q seq st info, (finish q seq st info s).mgmt = s.mgmt) ∧
    (∀ q seq st info info2 fl, (finishFlags q seq st info info2 fl s).mgmt = s.mgmt) ∧
    (∀ q seq, (begin_ q seq s).mgmt = s.mgmt) ∧ (∀ q seq, (hold q seq s).mgmt = s.mgmt) ∧
    (∀ ctx h f, (updPat ctx h f s).mgmt = s.mgmt) ∧ (∀ q seq f, (updWork q seq f s).mgmt = s.mgmt) ∧
    (∀ q seq, (cancelReqs q seq s).mgmt = s.mgmt) ∧ (∀ id f, (updSpool id f s).mgmt = s.mgmt) ∧
    (∀ n f, (updFunc n f s).mgmt = s.mgmt) ∧ (∀ t f, (updTile t f s).mgmt = s.mgmt) ∧ (∀ f, (mapTiles f s).mgmt = s.mgmt) ∧
    (∀ c f, (updCore c f s).mgmt = s.mgmt) ∧ (∀ n, (note n s).mgmt = s.mgmt) ∧ (draw s).mgmt = s.mgmt ∧
    (∀ fn a bs, (busWrite fn a bs s).mgmt = s.mgmt) ∧ (∀ hs, (seeHost hs s).mgmt = s.mgmt) ∧
    (∀ m f, (updMon m f s).mgmt = s.mgmt) ∧ (∀ f, (updSec f s).mgmt = s.mgmt) ∧ (∀ id f, (updIde id f s).mgmt = s.mgmt) := by
  and_intros <;> intros <;> rfl

/-- Owners of swatches. -/
@[simp] theorem keeps_swatches :
    (∀ n f, (updCtx n f s).swatches = s.swatches) ∧ (∀ q f, (updQueue q f s).swatches = s.swatches) ∧
    (∀ q seq f, (updEntry q seq f s).swatches = s.swatches) ∧
    (∀ q seq st info, (finish q seq st info s).swatches = s.swatches) ∧
    (∀ q seq st info info2 fl, (finishFlags q seq st info info2 fl s).swatches = s.swatches) ∧
    (∀ q seq, (begin_ q seq s).swatches = s.swatches) ∧ (∀ q seq, (hold q seq s).swatches = s.swatches) ∧
    (∀ ctx h f, (updPat ctx h f s).swatches = s.swatches) ∧ (∀ q seq f, (updWork q seq f s).swatches = s.swatches) ∧
    (∀ q seq, (cancelReqs q seq s).swatches = s.swatches) ∧ (∀ id f, (updSpool id f s).swatches = s.swatches) ∧
    (∀ n f, (updFunc n f s).swatches = s.swatches) ∧ (∀ t f, (updTile t f s).swatches = s.swatches) ∧
    (∀ f, (mapTiles f s).swatches = s.swatches) ∧ (∀ c f, (updCore c f s).swatches = s.swatches) ∧
    (∀ n, (note n s).swatches = s.swatches) ∧ (draw s).swatches = s.swatches ∧
    (∀ fn a bs, (busWrite fn a bs s).swatches = s.swatches) ∧ (∀ hs, (seeHost hs s).swatches = s.swatches) ∧
    (∀ m f, (updMon m f s).swatches = s.swatches) ∧ (∀ f, (updSec f s).swatches = s.swatches) ∧
    (∀ f, (updMgmt f s).swatches = s.swatches) ∧ (∀ id f, (updConn id f s).swatches = s.swatches) ∧
    (∀ user f, (updAccount user f s).swatches = s.swatches) ∧ (∀ id f, (updIde id f s).swatches = s.swatches) := by
  and_intros <;> intros <;> rfl

/-- Owners of bolts. -/
@[simp] theorem keeps_bolts :
    (∀ n f, (updCtx n f s).bolts = s.bolts) ∧ (∀ q f, (updQueue q f s).bolts = s.bolts) ∧
    (∀ q seq f, (updEntry q seq f s).bolts = s.bolts) ∧ (∀ q seq st info, (finish q seq st info s).bolts = s.bolts) ∧
    (∀ q seq st info info2 fl, (finishFlags q seq st info info2 fl s).bolts = s.bolts) ∧
    (∀ q seq, (begin_ q seq s).bolts = s.bolts) ∧ (∀ q seq, (hold q seq s).bolts = s.bolts) ∧
    (∀ ctx h f, (updPat ctx h f s).bolts = s.bolts) ∧ (∀ q seq f, (updWork q seq f s).bolts = s.bolts) ∧
    (∀ q seq, (cancelReqs q seq s).bolts = s.bolts) ∧ (∀ id f, (updSpool id f s).bolts = s.bolts) ∧
    (∀ n f, (updFunc n f s).bolts = s.bolts) ∧ (∀ t f, (updTile t f s).bolts = s.bolts) ∧
    (∀ f, (mapTiles f s).bolts = s.bolts) ∧ (∀ c f, (updCore c f s).bolts = s.bolts) ∧ (∀ n, (note n s).bolts = s.bolts) ∧
    (draw s).bolts = s.bolts ∧ (∀ fn a bs, (busWrite fn a bs s).bolts = s.bolts) ∧ (∀ hs, (seeHost hs s).bolts = s.bolts) ∧
    (∀ m f, (updMon m f s).bolts = s.bolts) ∧ (∀ f, (updSec f s).bolts = s.bolts) ∧ (∀ f, (updMgmt f s).bolts = s.bolts) ∧
    (∀ id f, (updConn id f s).bolts = s.bolts) ∧ (∀ user f, (updAccount user f s).bolts = s.bolts) ∧
    (∀ id f, (updIde id f s).bolts = s.bolts) := by
  and_intros <;> intros <;> rfl

/-- LPDDR4X frames in use. -/
@[simp] theorem keeps_frames :
    (∀ n f, (updCtx n f s).frames = s.frames) ∧ (∀ q f, (updQueue q f s).frames = s.frames) ∧
    (∀ q seq f, (updEntry q seq f s).frames = s.frames) ∧ (∀ q seq st info, (finish q seq st info s).frames = s.frames) ∧
    (∀ q seq st info info2 fl, (finishFlags q seq st info info2 fl s).frames = s.frames) ∧
    (∀ q seq, (begin_ q seq s).frames = s.frames) ∧ (∀ q seq, (hold q seq s).frames = s.frames) ∧
    (∀ ctx h f, (updPat ctx h f s).frames = s.frames) ∧ (∀ q seq f, (updWork q seq f s).frames = s.frames) ∧
    (∀ q seq, (cancelReqs q seq s).frames = s.frames) ∧ (∀ id f, (updSpool id f s).frames = s.frames) ∧
    (∀ n f, (updFunc n f s).frames = s.frames) ∧ (∀ t f, (updTile t f s).frames = s.frames) ∧
    (∀ f, (mapTiles f s).frames = s.frames) ∧ (∀ c f, (updCore c f s).frames = s.frames) ∧
    (∀ n, (note n s).frames = s.frames) ∧ (draw s).frames = s.frames ∧ (∀ fn a bs, (busWrite fn a bs s).frames = s.frames) ∧
    (∀ hs, (seeHost hs s).frames = s.frames) ∧ (∀ m f, (updMon m f s).frames = s.frames) ∧
    (∀ f, (updSec f s).frames = s.frames) ∧ (∀ f, (updMgmt f s).frames = s.frames) ∧
    (∀ id f, (updConn id f s).frames = s.frames) ∧ (∀ user f, (updAccount user f s).frames = s.frames) ∧
    (∀ id f, (updIde id f s).frames = s.frames) := by
  and_intros <;> intros <;> rfl

/-- Scrubs under way. -/
@[simp] theorem keeps_scrubs :
    (∀ n f, (updCtx n f s).scrubs = s.scrubs) ∧ (∀ q f, (updQueue q f s).scrubs = s.scrubs) ∧
    (∀ q seq f, (updEntry q seq f s).scrubs = s.scrubs) ∧ (∀ q seq st info, (finish q seq st info s).scrubs = s.scrubs) ∧
    (∀ q seq st info info2 fl, (finishFlags q seq st info info2 fl s).scrubs = s.scrubs) ∧
    (∀ q seq, (begin_ q seq s).scrubs = s.scrubs) ∧ (∀ q seq, (hold q seq s).scrubs = s.scrubs) ∧
    (∀ ctx h f, (updPat ctx h f s).scrubs = s.scrubs) ∧ (∀ q seq f, (updWork q seq f s).scrubs = s.scrubs) ∧
    (∀ q seq, (cancelReqs q seq s).scrubs = s.scrubs) ∧ (∀ id f, (updSpool id f s).scrubs = s.scrubs) ∧
    (∀ n f, (updFunc n f s).scrubs = s.scrubs) ∧ (∀ t f, (updTile t f s).scrubs = s.scrubs) ∧
    (∀ f, (mapTiles f s).scrubs = s.scrubs) ∧ (∀ c f, (updCore c f s).scrubs = s.scrubs) ∧
    (∀ n, (note n s).scrubs = s.scrubs) ∧ (draw s).scrubs = s.scrubs ∧ (∀ fn a bs, (busWrite fn a bs s).scrubs = s.scrubs) ∧
    (∀ hs, (seeHost hs s).scrubs = s.scrubs) ∧ (∀ m f, (updMon m f s).scrubs = s.scrubs) ∧
    (∀ f, (updSec f s).scrubs = s.scrubs) ∧ (∀ f, (updMgmt f s).scrubs = s.scrubs) ∧
    (∀ id f, (updConn id f s).scrubs = s.scrubs) ∧ (∀ user f, (updAccount user f s).scrubs = s.scrubs) ∧
    (∀ id f, (updIde id f s).scrubs = s.scrubs) := by
  and_intros <;> intros <;> rfl

/-- Host memory. -/
@[simp] theorem keeps_host :
    (∀ n f, (updCtx n f s).host = s.host) ∧ (∀ q f, (updQueue q f s).host = s.host) ∧
    (∀ q seq f, (updEntry q seq f s).host = s.host) ∧ (∀ q seq st info, (finish q seq st info s).host = s.host) ∧
    (∀ q seq st info info2 fl, (finishFlags q seq st info info2 fl s).host = s.host) ∧
    (∀ q seq, (begin_ q seq s).host = s.host) ∧ (∀ q seq, (hold q seq s).host = s.host) ∧
    (∀ ctx h f, (updPat ctx h f s).host = s.host) ∧ (∀ q seq f, (updWork q seq f s).host = s.host) ∧
    (∀ q seq, (cancelReqs q seq s).host = s.host) ∧ (∀ id f, (updSpool id f s).host = s.host) ∧
    (∀ n f, (updFunc n f s).host = s.host) ∧ (∀ t f, (updTile t f s).host = s.host) ∧ (∀ f, (mapTiles f s).host = s.host) ∧
    (∀ c f, (updCore c f s).host = s.host) ∧ (∀ n, (note n s).host = s.host) ∧ (draw s).host = s.host ∧
    (∀ m f, (updMon m f s).host = s.host) ∧ (∀ f, (updSec f s).host = s.host) ∧ (∀ f, (updMgmt f s).host = s.host) ∧
    (∀ id f, (updConn id f s).host = s.host) ∧ (∀ user f, (updAccount user f s).host = s.host) ∧
    (∀ id f, (updIde id f s).host = s.host) := by
  and_intros <;> intros <;> rfl

/-- HBM3E. -/
@[simp] theorem keeps_hbm :
    (∀ n f, (updCtx n f s).hbm = s.hbm) ∧ (∀ q f, (updQueue q f s).hbm = s.hbm) ∧
    (∀ q seq f, (updEntry q seq f s).hbm = s.hbm) ∧ (∀ q seq st info, (finish q seq st info s).hbm = s.hbm) ∧
    (∀ q seq st info info2 fl, (finishFlags q seq st info info2 fl s).hbm = s.hbm) ∧ (∀ q seq, (begin_ q seq s).hbm = s.hbm) ∧
    (∀ q seq, (hold q seq s).hbm = s.hbm) ∧ (∀ ctx h f, (updPat ctx h f s).hbm = s.hbm) ∧
    (∀ q seq f, (updWork q seq f s).hbm = s.hbm) ∧ (∀ q seq, (cancelReqs q seq s).hbm = s.hbm) ∧
    (∀ id f, (updSpool id f s).hbm = s.hbm) ∧ (∀ n f, (updFunc n f s).hbm = s.hbm) ∧ (∀ t f, (updTile t f s).hbm = s.hbm) ∧
    (∀ f, (mapTiles f s).hbm = s.hbm) ∧ (∀ c f, (updCore c f s).hbm = s.hbm) ∧ (∀ n, (note n s).hbm = s.hbm) ∧
    (draw s).hbm = s.hbm ∧ (∀ fn a bs, (busWrite fn a bs s).hbm = s.hbm) ∧ (∀ hs, (seeHost hs s).hbm = s.hbm) ∧
    (∀ m f, (updMon m f s).hbm = s.hbm) ∧ (∀ f, (updSec f s).hbm = s.hbm) ∧ (∀ f, (updMgmt f s).hbm = s.hbm) ∧
    (∀ id f, (updConn id f s).hbm = s.hbm) ∧ (∀ user f, (updAccount user f s).hbm = s.hbm) ∧
    (∀ id f, (updIde id f s).hbm = s.hbm) := by
  and_intros <;> intros <;> rfl

/-- LPDDR4X. -/
@[simp] theorem keeps_lp :
    (∀ n f, (updCtx n f s).lp = s.lp) ∧ (∀ q f, (updQueue q f s).lp = s.lp) ∧ (∀ q seq f, (updEntry q seq f s).lp = s.lp) ∧
    (∀ q seq st info, (finish q seq st info s).lp = s.lp) ∧
    (∀ q seq st info info2 fl, (finishFlags q seq st info info2 fl s).lp = s.lp) ∧ (∀ q seq, (begin_ q seq s).lp = s.lp) ∧
    (∀ q seq, (hold q seq s).lp = s.lp) ∧ (∀ ctx h f, (updPat ctx h f s).lp = s.lp) ∧
    (∀ q seq f, (updWork q seq f s).lp = s.lp) ∧ (∀ q seq, (cancelReqs q seq s).lp = s.lp) ∧
    (∀ id f, (updSpool id f s).lp = s.lp) ∧ (∀ n f, (updFunc n f s).lp = s.lp) ∧ (∀ t f, (updTile t f s).lp = s.lp) ∧
    (∀ f, (mapTiles f s).lp = s.lp) ∧ (∀ c f, (updCore c f s).lp = s.lp) ∧ (∀ n, (note n s).lp = s.lp) ∧ (draw s).lp = s.lp ∧
    (∀ fn a bs, (busWrite fn a bs s).lp = s.lp) ∧ (∀ hs, (seeHost hs s).lp = s.lp) ∧ (∀ m f, (updMon m f s).lp = s.lp) ∧
    (∀ f, (updSec f s).lp = s.lp) ∧ (∀ f, (updMgmt f s).lp = s.lp) ∧ (∀ id f, (updConn id f s).lp = s.lp) ∧
    (∀ user f, (updAccount user f s).lp = s.lp) ∧ (∀ id f, (updIde id f s).lp = s.lp) := by
  and_intros <;> intros <;> rfl

/-- The self-test. -/
@[simp] theorem keeps_selfTest :
    (∀ n f, (updCtx n f s).selfTest = s.selfTest) ∧ (∀ q f, (updQueue q f s).selfTest = s.selfTest) ∧
    (∀ q seq f, (updEntry q seq f s).selfTest = s.selfTest) ∧
    (∀ q seq st info, (finish q seq st info s).selfTest = s.selfTest) ∧
    (∀ q seq st info info2 fl, (finishFlags q seq st info info2 fl s).selfTest = s.selfTest) ∧
    (∀ q seq, (begin_ q seq s).selfTest = s.selfTest) ∧ (∀ q seq, (hold q seq s).selfTest = s.selfTest) ∧
    (∀ ctx h f, (updPat ctx h f s).selfTest = s.selfTest) ∧ (∀ q seq f, (updWork q seq f s).selfTest = s.selfTest) ∧
    (∀ q seq, (cancelReqs q seq s).selfTest = s.selfTest) ∧ (∀ id f, (updSpool id f s).selfTest = s.selfTest) ∧
    (∀ n f, (updFunc n f s).selfTest = s.selfTest) ∧ (∀ t f, (updTile t f s).selfTest = s.selfTest) ∧
    (∀ f, (mapTiles f s).selfTest = s.selfTest) ∧ (∀ c f, (updCore c f s).selfTest = s.selfTest) ∧
    (∀ n, (note n s).selfTest = s.selfTest) ∧ (draw s).selfTest = s.selfTest ∧
    (∀ fn a bs, (busWrite fn a bs s).selfTest = s.selfTest) ∧ (∀ hs, (seeHost hs s).selfTest = s.selfTest) ∧
    (∀ m f, (updMon m f s).selfTest = s.selfTest) ∧ (∀ f, (updSec f s).selfTest = s.selfTest) ∧
    (∀ f, (updMgmt f s).selfTest = s.selfTest) ∧ (∀ id f, (updConn id f s).selfTest = s.selfTest) ∧
    (∀ user f, (updAccount user f s).selfTest = s.selfTest) ∧ (∀ id f, (updIde id f s).selfTest = s.selfTest) := by
  and_intros <;> intros <;> rfl

/-- The CANCEL in progress. -/
@[simp] theorem keeps_cancelling :
    (∀ n f, (updCtx n f s).cancelling = s.cancelling) ∧ (∀ q f, (updQueue q f s).cancelling = s.cancelling) ∧
    (∀ q seq f, (updEntry q seq f s).cancelling = s.cancelling) ∧
    (∀ q seq st info, (finish q seq st info s).cancelling = s.cancelling) ∧
    (∀ q seq st info info2 fl, (finishFlags q seq st info info2 fl s).cancelling = s.cancelling) ∧
    (∀ q seq, (begin_ q seq s).cancelling = s.cancelling) ∧ (∀ q seq, (hold q seq s).cancelling = s.cancelling) ∧
    (∀ ctx h f, (updPat ctx h f s).cancelling = s.cancelling) ∧ (∀ q seq f, (updWork q seq f s).cancelling = s.cancelling) ∧
    (∀ q seq, (cancelReqs q seq s).cancelling = s.cancelling) ∧ (∀ id f, (updSpool id f s).cancelling = s.cancelling) ∧
    (∀ n f, (updFunc n f s).cancelling = s.cancelling) ∧ (∀ t f, (updTile t f s).cancelling = s.cancelling) ∧
    (∀ f, (mapTiles f s).cancelling = s.cancelling) ∧ (∀ c f, (updCore c f s).cancelling = s.cancelling) ∧
    (∀ n, (note n s).cancelling = s.cancelling) ∧ (draw s).cancelling = s.cancelling ∧
    (∀ fn a bs, (busWrite fn a bs s).cancelling = s.cancelling) ∧ (∀ hs, (seeHost hs s).cancelling = s.cancelling) ∧
    (∀ m f, (updMon m f s).cancelling = s.cancelling) ∧ (∀ f, (updSec f s).cancelling = s.cancelling) ∧
    (∀ f, (updMgmt f s).cancelling = s.cancelling) ∧ (∀ id f, (updConn id f s).cancelling = s.cancelling) ∧
    (∀ user f, (updAccount user f s).cancelling = s.cancelling) ∧ (∀ id f, (updIde id f s).cancelling = s.cancelling) := by
  and_intros <;> intros <;> rfl

/-- Buffers of streams. -/
@[simp] theorem keeps_bufs :
    (∀ n f, (updCtx n f s).bufs = s.bufs) ∧ (∀ q f, (updQueue q f s).bufs = s.bufs) ∧
    (∀ q seq f, (updEntry q seq f s).bufs = s.bufs) ∧ (∀ q seq st info, (finish q seq st info s).bufs = s.bufs) ∧
    (∀ q seq st info info2 fl, (finishFlags q seq st info info2 fl s).bufs = s.bufs) ∧
    (∀ q seq, (begin_ q seq s).bufs = s.bufs) ∧ (∀ q seq, (hold q seq s).bufs = s.bufs) ∧
    (∀ ctx h f, (updPat ctx h f s).bufs = s.bufs) ∧ (∀ q seq f, (updWork q seq f s).bufs = s.bufs) ∧
    (∀ q seq, (cancelReqs q seq s).bufs = s.bufs) ∧ (∀ id f, (updSpool id f s).bufs = s.bufs) ∧
    (∀ n f, (updFunc n f s).bufs = s.bufs) ∧ (∀ t f, (updTile t f s).bufs = s.bufs) ∧ (∀ f, (mapTiles f s).bufs = s.bufs) ∧
    (∀ c f, (updCore c f s).bufs = s.bufs) ∧ (∀ n, (note n s).bufs = s.bufs) ∧ (draw s).bufs = s.bufs ∧
    (∀ fn a bs, (busWrite fn a bs s).bufs = s.bufs) ∧ (∀ hs, (seeHost hs s).bufs = s.bufs) ∧
    (∀ m f, (updMon m f s).bufs = s.bufs) ∧ (∀ f, (updSec f s).bufs = s.bufs) ∧ (∀ f, (updMgmt f s).bufs = s.bufs) ∧
    (∀ id f, (updConn id f s).bufs = s.bufs) ∧ (∀ user f, (updAccount user f s).bufs = s.bufs) ∧
    (∀ id f, (updIde id f s).bufs = s.bufs) := by
  and_intros <;> intros <;> rfl

/-- Waits among streams. -/
@[simp] theorem keeps_edges :
    (∀ n f, (updCtx n f s).edges = s.edges) ∧ (∀ q f, (updQueue q f s).edges = s.edges) ∧
    (∀ q seq f, (updEntry q seq f s).edges = s.edges) ∧ (∀ q seq st info, (finish q seq st info s).edges = s.edges) ∧
    (∀ q seq st info info2 fl, (finishFlags q seq st info info2 fl s).edges = s.edges) ∧
    (∀ q seq, (begin_ q seq s).edges = s.edges) ∧ (∀ q seq, (hold q seq s).edges = s.edges) ∧
    (∀ ctx h f, (updPat ctx h f s).edges = s.edges) ∧ (∀ q seq f, (updWork q seq f s).edges = s.edges) ∧
    (∀ q seq, (cancelReqs q seq s).edges = s.edges) ∧ (∀ id f, (updSpool id f s).edges = s.edges) ∧
    (∀ n f, (updFunc n f s).edges = s.edges) ∧ (∀ t f, (updTile t f s).edges = s.edges) ∧
    (∀ f, (mapTiles f s).edges = s.edges) ∧ (∀ c f, (updCore c f s).edges = s.edges) ∧ (∀ n, (note n s).edges = s.edges) ∧
    (draw s).edges = s.edges ∧ (∀ fn a bs, (busWrite fn a bs s).edges = s.edges) ∧ (∀ hs, (seeHost hs s).edges = s.edges) ∧
    (∀ m f, (updMon m f s).edges = s.edges) ∧ (∀ f, (updSec f s).edges = s.edges) ∧ (∀ f, (updMgmt f s).edges = s.edges) ∧
    (∀ id f, (updConn id f s).edges = s.edges) ∧ (∀ user f, (updAccount user f s).edges = s.edges) ∧
    (∀ id f, (updIde id f s).edges = s.edges) := by
  and_intros <;> intros <;> rfl

/-- The CALIBRATE in progress. -/
@[simp] theorem keeps_calib :
    (∀ n f, (updCtx n f s).calib = s.calib) ∧ (∀ q f, (updQueue q f s).calib = s.calib) ∧
    (∀ q seq f, (updEntry q seq f s).calib = s.calib) ∧ (∀ q seq st info, (finish q seq st info s).calib = s.calib) ∧
    (∀ q seq st info info2 fl, (finishFlags q seq st info info2 fl s).calib = s.calib) ∧
    (∀ q seq, (begin_ q seq s).calib = s.calib) ∧ (∀ q seq, (hold q seq s).calib = s.calib) ∧
    (∀ ctx h f, (updPat ctx h f s).calib = s.calib) ∧ (∀ q seq f, (updWork q seq f s).calib = s.calib) ∧
    (∀ q seq, (cancelReqs q seq s).calib = s.calib) ∧ (∀ id f, (updSpool id f s).calib = s.calib) ∧
    (∀ n f, (updFunc n f s).calib = s.calib) ∧ (∀ t f, (updTile t f s).calib = s.calib) ∧
    (∀ f, (mapTiles f s).calib = s.calib) ∧ (∀ c f, (updCore c f s).calib = s.calib) ∧ (∀ n, (note n s).calib = s.calib) ∧
    (draw s).calib = s.calib ∧ (∀ fn a bs, (busWrite fn a bs s).calib = s.calib) ∧ (∀ hs, (seeHost hs s).calib = s.calib) ∧
    (∀ m f, (updMon m f s).calib = s.calib) ∧ (∀ f, (updSec f s).calib = s.calib) ∧ (∀ f, (updMgmt f s).calib = s.calib) ∧
    (∀ id f, (updConn id f s).calib = s.calib) ∧ (∀ user f, (updAccount user f s).calib = s.calib) ∧
    (∀ id f, (updIde id f s).calib = s.calib) := by
  and_intros <;> intros <;> rfl

/-- Die-to-die links. -/
@[simp] theorem keeps_d2d :
    (∀ n f, (updCtx n f s).d2d = s.d2d) ∧ (∀ q f, (updQueue q f s).d2d = s.d2d) ∧
    (∀ q seq f, (updEntry q seq f s).d2d = s.d2d) ∧ (∀ q seq st info, (finish q seq st info s).d2d = s.d2d) ∧
    (∀ q seq st info info2 fl, (finishFlags q seq st info info2 fl s).d2d = s.d2d) ∧ (∀ q seq, (begin_ q seq s).d2d = s.d2d) ∧
    (∀ q seq, (hold q seq s).d2d = s.d2d) ∧ (∀ ctx h f, (updPat ctx h f s).d2d = s.d2d) ∧
    (∀ q seq f, (updWork q seq f s).d2d = s.d2d) ∧ (∀ q seq, (cancelReqs q seq s).d2d = s.d2d) ∧
    (∀ id f, (updSpool id f s).d2d = s.d2d) ∧ (∀ n f, (updFunc n f s).d2d = s.d2d) ∧ (∀ t f, (updTile t f s).d2d = s.d2d) ∧
    (∀ f, (mapTiles f s).d2d = s.d2d) ∧ (∀ c f, (updCore c f s).d2d = s.d2d) ∧ (∀ n, (note n s).d2d = s.d2d) ∧
    (draw s).d2d = s.d2d ∧ (∀ fn a bs, (busWrite fn a bs s).d2d = s.d2d) ∧ (∀ hs, (seeHost hs s).d2d = s.d2d) ∧
    (∀ m f, (updMon m f s).d2d = s.d2d) ∧ (∀ f, (updSec f s).d2d = s.d2d) ∧ (∀ f, (updMgmt f s).d2d = s.d2d) ∧
    (∀ id f, (updConn id f s).d2d = s.d2d) ∧ (∀ user f, (updAccount user f s).d2d = s.d2d) ∧
    (∀ id f, (updIde id f s).d2d = s.d2d) := by
  and_intros <;> intros <;> rfl

/-- Repairs. -/
@[simp] theorem keeps_repairs :
    (∀ n f, (updCtx n f s).repairs = s.repairs) ∧ (∀ q f, (updQueue q f s).repairs = s.repairs) ∧
    (∀ q seq f, (updEntry q seq f s).repairs = s.repairs) ∧ (∀ q seq st info, (finish q seq st info s).repairs = s.repairs) ∧
    (∀ q seq st info info2 fl, (finishFlags q seq st info info2 fl s).repairs = s.repairs) ∧
    (∀ q seq, (begin_ q seq s).repairs = s.repairs) ∧ (∀ q seq, (hold q seq s).repairs = s.repairs) ∧
    (∀ ctx h f, (updPat ctx h f s).repairs = s.repairs) ∧ (∀ q seq f, (updWork q seq f s).repairs = s.repairs) ∧
    (∀ q seq, (cancelReqs q seq s).repairs = s.repairs) ∧ (∀ id f, (updSpool id f s).repairs = s.repairs) ∧
    (∀ n f, (updFunc n f s).repairs = s.repairs) ∧ (∀ t f, (updTile t f s).repairs = s.repairs) ∧
    (∀ f, (mapTiles f s).repairs = s.repairs) ∧ (∀ c f, (updCore c f s).repairs = s.repairs) ∧
    (∀ n, (note n s).repairs = s.repairs) ∧ (draw s).repairs = s.repairs ∧
    (∀ fn a bs, (busWrite fn a bs s).repairs = s.repairs) ∧ (∀ hs, (seeHost hs s).repairs = s.repairs) ∧
    (∀ m f, (updMon m f s).repairs = s.repairs) ∧ (∀ f, (updSec f s).repairs = s.repairs) ∧
    (∀ f, (updMgmt f s).repairs = s.repairs) ∧ (∀ id f, (updConn id f s).repairs = s.repairs) ∧
    (∀ user f, (updAccount user f s).repairs = s.repairs) ∧ (∀ id f, (updIde id f s).repairs = s.repairs) := by
  and_intros <;> intros <;> rfl

/-- Data that keeps failing. -/
@[simp] theorem keeps_bad :
    (∀ n f, (updCtx n f s).bad = s.bad) ∧ (∀ q f, (updQueue q f s).bad = s.bad) ∧
    (∀ q seq f, (updEntry q seq f s).bad = s.bad) ∧ (∀ q seq st info, (finish q seq st info s).bad = s.bad) ∧
    (∀ q seq st info info2 fl, (finishFlags q seq st info info2 fl s).bad = s.bad) ∧ (∀ q seq, (begin_ q seq s).bad = s.bad) ∧
    (∀ q seq, (hold q seq s).bad = s.bad) ∧ (∀ ctx h f, (updPat ctx h f s).bad = s.bad) ∧
    (∀ q seq f, (updWork q seq f s).bad = s.bad) ∧ (∀ q seq, (cancelReqs q seq s).bad = s.bad) ∧
    (∀ id f, (updSpool id f s).bad = s.bad) ∧ (∀ n f, (updFunc n f s).bad = s.bad) ∧ (∀ t f, (updTile t f s).bad = s.bad) ∧
    (∀ f, (mapTiles f s).bad = s.bad) ∧ (∀ c f, (updCore c f s).bad = s.bad) ∧ (∀ n, (note n s).bad = s.bad) ∧
    (draw s).bad = s.bad ∧ (∀ fn a bs, (busWrite fn a bs s).bad = s.bad) ∧ (∀ hs, (seeHost hs s).bad = s.bad) ∧
    (∀ m f, (updMon m f s).bad = s.bad) ∧ (∀ f, (updSec f s).bad = s.bad) ∧ (∀ f, (updMgmt f s).bad = s.bad) ∧
    (∀ id f, (updConn id f s).bad = s.bad) ∧ (∀ user f, (updAccount user f s).bad = s.bad) ∧
    (∀ id f, (updIde id f s).bad = s.bad) := by
  and_intros <;> intros <;> rfl

/-- Corrected HBM3E reads. -/
@[simp] theorem keeps_hbmCorr :
    (∀ n f, (updCtx n f s).hbmCorr = s.hbmCorr) ∧ (∀ q f, (updQueue q f s).hbmCorr = s.hbmCorr) ∧
    (∀ q seq f, (updEntry q seq f s).hbmCorr = s.hbmCorr) ∧ (∀ q seq st info, (finish q seq st info s).hbmCorr = s.hbmCorr) ∧
    (∀ q seq st info info2 fl, (finishFlags q seq st info info2 fl s).hbmCorr = s.hbmCorr) ∧
    (∀ q seq, (begin_ q seq s).hbmCorr = s.hbmCorr) ∧ (∀ q seq, (hold q seq s).hbmCorr = s.hbmCorr) ∧
    (∀ ctx h f, (updPat ctx h f s).hbmCorr = s.hbmCorr) ∧ (∀ q seq f, (updWork q seq f s).hbmCorr = s.hbmCorr) ∧
    (∀ q seq, (cancelReqs q seq s).hbmCorr = s.hbmCorr) ∧ (∀ id f, (updSpool id f s).hbmCorr = s.hbmCorr) ∧
    (∀ n f, (updFunc n f s).hbmCorr = s.hbmCorr) ∧ (∀ t f, (updTile t f s).hbmCorr = s.hbmCorr) ∧
    (∀ f, (mapTiles f s).hbmCorr = s.hbmCorr) ∧ (∀ c f, (updCore c f s).hbmCorr = s.hbmCorr) ∧
    (∀ n, (note n s).hbmCorr = s.hbmCorr) ∧ (draw s).hbmCorr = s.hbmCorr ∧
    (∀ fn a bs, (busWrite fn a bs s).hbmCorr = s.hbmCorr) ∧ (∀ hs, (seeHost hs s).hbmCorr = s.hbmCorr) ∧
    (∀ m f, (updMon m f s).hbmCorr = s.hbmCorr) ∧ (∀ f, (updSec f s).hbmCorr = s.hbmCorr) ∧
    (∀ f, (updMgmt f s).hbmCorr = s.hbmCorr) ∧ (∀ id f, (updConn id f s).hbmCorr = s.hbmCorr) ∧
    (∀ user f, (updAccount user f s).hbmCorr = s.hbmCorr) ∧ (∀ id f, (updIde id f s).hbmCorr = s.hbmCorr) := by
  and_intros <;> intros <;> rfl

/-- Corrected LPDDR4X reads. -/
@[simp] theorem keeps_lpCorr :
    (∀ n f, (updCtx n f s).lpCorr = s.lpCorr) ∧ (∀ q f, (updQueue q f s).lpCorr = s.lpCorr) ∧
    (∀ q seq f, (updEntry q seq f s).lpCorr = s.lpCorr) ∧ (∀ q seq st info, (finish q seq st info s).lpCorr = s.lpCorr) ∧
    (∀ q seq st info info2 fl, (finishFlags q seq st info info2 fl s).lpCorr = s.lpCorr) ∧
    (∀ q seq, (begin_ q seq s).lpCorr = s.lpCorr) ∧ (∀ q seq, (hold q seq s).lpCorr = s.lpCorr) ∧
    (∀ ctx h f, (updPat ctx h f s).lpCorr = s.lpCorr) ∧ (∀ q seq f, (updWork q seq f s).lpCorr = s.lpCorr) ∧
    (∀ q seq, (cancelReqs q seq s).lpCorr = s.lpCorr) ∧ (∀ id f, (updSpool id f s).lpCorr = s.lpCorr) ∧
    (∀ n f, (updFunc n f s).lpCorr = s.lpCorr) ∧ (∀ t f, (updTile t f s).lpCorr = s.lpCorr) ∧
    (∀ f, (mapTiles f s).lpCorr = s.lpCorr) ∧ (∀ c f, (updCore c f s).lpCorr = s.lpCorr) ∧
    (∀ n, (note n s).lpCorr = s.lpCorr) ∧ (draw s).lpCorr = s.lpCorr ∧ (∀ fn a bs, (busWrite fn a bs s).lpCorr = s.lpCorr) ∧
    (∀ hs, (seeHost hs s).lpCorr = s.lpCorr) ∧ (∀ m f, (updMon m f s).lpCorr = s.lpCorr) ∧
    (∀ f, (updSec f s).lpCorr = s.lpCorr) ∧ (∀ f, (updMgmt f s).lpCorr = s.lpCorr) ∧
    (∀ id f, (updConn id f s).lpCorr = s.lpCorr) ∧ (∀ user f, (updAccount user f s).lpCorr = s.lpCorr) ∧
    (∀ id f, (updIde id f s).lpCorr = s.lpCorr) := by
  and_intros <;> intros <;> rfl

/-- Credits that have failed. -/
@[simp] theorem keeps_badCredits :
    (∀ n f, (updCtx n f s).badCredits = s.badCredits) ∧ (∀ q f, (updQueue q f s).badCredits = s.badCredits) ∧
    (∀ q seq f, (updEntry q seq f s).badCredits = s.badCredits) ∧
    (∀ q seq st info, (finish q seq st info s).badCredits = s.badCredits) ∧
    (∀ q seq st info info2 fl, (finishFlags q seq st info info2 fl s).badCredits = s.badCredits) ∧
    (∀ q seq, (begin_ q seq s).badCredits = s.badCredits) ∧ (∀ q seq, (hold q seq s).badCredits = s.badCredits) ∧
    (∀ ctx h f, (updPat ctx h f s).badCredits = s.badCredits) ∧ (∀ q seq f, (updWork q seq f s).badCredits = s.badCredits) ∧
    (∀ q seq, (cancelReqs q seq s).badCredits = s.badCredits) ∧ (∀ id f, (updSpool id f s).badCredits = s.badCredits) ∧
    (∀ n f, (updFunc n f s).badCredits = s.badCredits) ∧ (∀ t f, (updTile t f s).badCredits = s.badCredits) ∧
    (∀ f, (mapTiles f s).badCredits = s.badCredits) ∧ (∀ c f, (updCore c f s).badCredits = s.badCredits) ∧
    (∀ n, (note n s).badCredits = s.badCredits) ∧ (draw s).badCredits = s.badCredits ∧
    (∀ fn a bs, (busWrite fn a bs s).badCredits = s.badCredits) ∧ (∀ hs, (seeHost hs s).badCredits = s.badCredits) ∧
    (∀ m f, (updMon m f s).badCredits = s.badCredits) ∧ (∀ f, (updSec f s).badCredits = s.badCredits) ∧
    (∀ f, (updMgmt f s).badCredits = s.badCredits) ∧ (∀ id f, (updConn id f s).badCredits = s.badCredits) ∧
    (∀ user f, (updAccount user f s).badCredits = s.badCredits) ∧ (∀ id f, (updIde id f s).badCredits = s.badCredits) := by
  and_intros <;> intros <;> rfl

/-- Writes sent to host memory. -/
@[simp] theorem keeps_posted :
    (∀ n f, (updCtx n f s).posted = s.posted) ∧ (∀ q f, (updQueue q f s).posted = s.posted) ∧
    (∀ q seq f, (updEntry q seq f s).posted = s.posted) ∧ (∀ q seq st info, (finish q seq st info s).posted = s.posted) ∧
    (∀ q seq st info info2 fl, (finishFlags q seq st info info2 fl s).posted = s.posted) ∧
    (∀ q seq, (begin_ q seq s).posted = s.posted) ∧ (∀ q seq, (hold q seq s).posted = s.posted) ∧
    (∀ ctx h f, (updPat ctx h f s).posted = s.posted) ∧ (∀ q seq f, (updWork q seq f s).posted = s.posted) ∧
    (∀ q seq, (cancelReqs q seq s).posted = s.posted) ∧ (∀ id f, (updSpool id f s).posted = s.posted) ∧
    (∀ n f, (updFunc n f s).posted = s.posted) ∧ (∀ t f, (updTile t f s).posted = s.posted) ∧
    (∀ f, (mapTiles f s).posted = s.posted) ∧ (∀ c f, (updCore c f s).posted = s.posted) ∧
    (∀ n, (note n s).posted = s.posted) ∧ (draw s).posted = s.posted ∧ (∀ hs, (seeHost hs s).posted = s.posted) ∧
    (∀ m f, (updMon m f s).posted = s.posted) ∧ (∀ f, (updSec f s).posted = s.posted) ∧
    (∀ f, (updMgmt f s).posted = s.posted) ∧ (∀ id f, (updConn id f s).posted = s.posted) ∧
    (∀ user f, (updAccount user f s).posted = s.posted) ∧ (∀ id f, (updIde id f s).posted = s.posted) := by
  and_intros <;> intros <;> rfl

/-- The last answer. -/
@[simp] theorem keeps_reply :
    (∀ n f, (updCtx n f s).reply = s.reply) ∧ (∀ q f, (updQueue q f s).reply = s.reply) ∧
    (∀ q seq f, (updEntry q seq f s).reply = s.reply) ∧ (∀ q seq st info, (finish q seq st info s).reply = s.reply) ∧
    (∀ q seq st info info2 fl, (finishFlags q seq st info info2 fl s).reply = s.reply) ∧
    (∀ q seq, (begin_ q seq s).reply = s.reply) ∧ (∀ q seq, (hold q seq s).reply = s.reply) ∧
    (∀ ctx h f, (updPat ctx h f s).reply = s.reply) ∧ (∀ q seq f, (updWork q seq f s).reply = s.reply) ∧
    (∀ q seq, (cancelReqs q seq s).reply = s.reply) ∧ (∀ id f, (updSpool id f s).reply = s.reply) ∧
    (∀ n f, (updFunc n f s).reply = s.reply) ∧ (∀ t f, (updTile t f s).reply = s.reply) ∧
    (∀ f, (mapTiles f s).reply = s.reply) ∧ (∀ c f, (updCore c f s).reply = s.reply) ∧ (∀ n, (note n s).reply = s.reply) ∧
    (draw s).reply = s.reply ∧ (∀ fn a bs, (busWrite fn a bs s).reply = s.reply) ∧ (∀ hs, (seeHost hs s).reply = s.reply) ∧
    (∀ m f, (updMon m f s).reply = s.reply) ∧ (∀ f, (updSec f s).reply = s.reply) ∧ (∀ f, (updMgmt f s).reply = s.reply) ∧
    (∀ id f, (updConn id f s).reply = s.reply) ∧ (∀ user f, (updAccount user f s).reply = s.reply) ∧
    (∀ id f, (updIde id f s).reply = s.reply) := by
  and_intros <;> intros <;> rfl

/-- Messages sent. -/
@[simp] theorem keeps_msgs :
    (∀ n f, (updCtx n f s).msgs = s.msgs) ∧ (∀ q f, (updQueue q f s).msgs = s.msgs) ∧
    (∀ q seq f, (updEntry q seq f s).msgs = s.msgs) ∧ (∀ q seq st info, (finish q seq st info s).msgs = s.msgs) ∧
    (∀ q seq st info info2 fl, (finishFlags q seq st info info2 fl s).msgs = s.msgs) ∧
    (∀ q seq, (begin_ q seq s).msgs = s.msgs) ∧ (∀ q seq, (hold q seq s).msgs = s.msgs) ∧
    (∀ ctx h f, (updPat ctx h f s).msgs = s.msgs) ∧ (∀ q seq f, (updWork q seq f s).msgs = s.msgs) ∧
    (∀ q seq, (cancelReqs q seq s).msgs = s.msgs) ∧ (∀ id f, (updSpool id f s).msgs = s.msgs) ∧
    (∀ n f, (updFunc n f s).msgs = s.msgs) ∧ (∀ t f, (updTile t f s).msgs = s.msgs) ∧ (∀ f, (mapTiles f s).msgs = s.msgs) ∧
    (∀ c f, (updCore c f s).msgs = s.msgs) ∧ (∀ n, (note n s).msgs = s.msgs) ∧ (draw s).msgs = s.msgs ∧
    (∀ fn a bs, (busWrite fn a bs s).msgs = s.msgs) ∧ (∀ hs, (seeHost hs s).msgs = s.msgs) ∧
    (∀ m f, (updMon m f s).msgs = s.msgs) ∧ (∀ f, (updSec f s).msgs = s.msgs) ∧ (∀ f, (updMgmt f s).msgs = s.msgs) ∧
    (∀ id f, (updConn id f s).msgs = s.msgs) ∧ (∀ user f, (updAccount user f s).msgs = s.msgs) ∧
    (∀ id f, (updIde id f s).msgs = s.msgs) := by
  and_intros <;> intros <;> rfl

/-- The log of events. -/
@[simp] theorem keeps_notes :
    (∀ n f, (updCtx n f s).notes = s.notes) ∧ (∀ q f, (updQueue q f s).notes = s.notes) ∧
    (∀ q seq f, (updEntry q seq f s).notes = s.notes) ∧ (∀ q seq st info, (finish q seq st info s).notes = s.notes) ∧
    (∀ q seq st info info2 fl, (finishFlags q seq st info info2 fl s).notes = s.notes) ∧
    (∀ q seq, (begin_ q seq s).notes = s.notes) ∧ (∀ q seq, (hold q seq s).notes = s.notes) ∧
    (∀ ctx h f, (updPat ctx h f s).notes = s.notes) ∧ (∀ q seq f, (updWork q seq f s).notes = s.notes) ∧
    (∀ q seq, (cancelReqs q seq s).notes = s.notes) ∧ (∀ id f, (updSpool id f s).notes = s.notes) ∧
    (∀ n f, (updFunc n f s).notes = s.notes) ∧ (∀ t f, (updTile t f s).notes = s.notes) ∧
    (∀ f, (mapTiles f s).notes = s.notes) ∧ (∀ c f, (updCore c f s).notes = s.notes) ∧ (draw s).notes = s.notes ∧
    (∀ fn a bs, (busWrite fn a bs s).notes = s.notes) ∧ (∀ hs, (seeHost hs s).notes = s.notes) ∧
    (∀ m f, (updMon m f s).notes = s.notes) ∧ (∀ f, (updSec f s).notes = s.notes) ∧ (∀ f, (updMgmt f s).notes = s.notes) ∧
    (∀ id f, (updConn id f s).notes = s.notes) ∧ (∀ user f, (updAccount user f s).notes = s.notes) ∧
    (∀ id f, (updIde id f s).notes = s.notes) := by
  and_intros <;> intros <;> rfl

/-- The count of free values drawn. -/
@[simp] theorem keeps_free :
    (∀ n f, (updCtx n f s).free = s.free) ∧ (∀ q f, (updQueue q f s).free = s.free) ∧
    (∀ q seq f, (updEntry q seq f s).free = s.free) ∧ (∀ q seq st info, (finish q seq st info s).free = s.free) ∧
    (∀ q seq st info info2 fl, (finishFlags q seq st info info2 fl s).free = s.free) ∧
    (∀ q seq, (begin_ q seq s).free = s.free) ∧ (∀ q seq, (hold q seq s).free = s.free) ∧
    (∀ ctx h f, (updPat ctx h f s).free = s.free) ∧ (∀ q seq f, (updWork q seq f s).free = s.free) ∧
    (∀ q seq, (cancelReqs q seq s).free = s.free) ∧ (∀ id f, (updSpool id f s).free = s.free) ∧
    (∀ n f, (updFunc n f s).free = s.free) ∧ (∀ t f, (updTile t f s).free = s.free) ∧ (∀ f, (mapTiles f s).free = s.free) ∧
    (∀ c f, (updCore c f s).free = s.free) ∧ (∀ n, (note n s).free = s.free) ∧
    (∀ fn a bs, (busWrite fn a bs s).free = s.free) ∧ (∀ hs, (seeHost hs s).free = s.free) ∧
    (∀ m f, (updMon m f s).free = s.free) ∧ (∀ f, (updSec f s).free = s.free) ∧ (∀ f, (updMgmt f s).free = s.free) ∧
    (∀ id f, (updConn id f s).free = s.free) ∧ (∀ user f, (updAccount user f s).free = s.free) ∧
    (∀ id f, (updIde id f s).free = s.free) := by
  and_intros <;> intros <;> rfl

/-! ### Lookups -/

/-- A lookup by a key that the change keeps finds the changed element. -/
theorem find_updWhere {α : Type} (p r : α → Bool) (f : α → α) (l : List α) (h : ∀ x, r (f x) = r x) :
    (updWhere p f l).find? r = (l.find? r).map fun x => if p x then f x else x := by
  induction l with
  | nil => rfl
  | cons a l ih =>
    have hr : r (if p a then f a else a) = r a := by split <;> simp [h]
    simp only [updWhere, List.map_cons, List.find?_cons, hr] at ih ⊢
    cases r a <;> simp_all

/-- The queue looked up after a change of it. -/
theorem queue?_updQueue (q : Nat) (f : Queue → Queue) (h : ∀ x, (f x).num = x.num) :
    (updQueue q f s).queue? q = (s.queue? q).map f := by
  simp only [State.queue?, updQueue]
  rw [find_updWhere _ _ _ _ fun x => by simp [h]]
  cases hf : s.queues.find? (·.num == q) with
  | none => rfl
  | some x => have := List.find?_some hf; simp_all

/-- Another queue is found as it was. -/
theorem queue?_updQueue_ne (q n : Nat) (f : Queue → Queue) (h : ∀ x, (f x).num = x.num) (hn : n ≠ q) :
    (updQueue q f s).queue? n = s.queue? n := by
  simp only [State.queue?, updQueue]
  rw [find_updWhere _ _ _ _ fun x => by simp [h]]
  cases hf : s.queues.find? (·.num == n) with
  | none => rfl
  | some x => have := List.find?_some hf; simp_all

/-- The entry looked up after a change of it. -/
theorem entry?_updEntry (q seq : Nat) (f : Entry → Entry) (h : ∀ e, (f e).seq = e.seq) :
    ((updEntry q seq f s).queue? q).bind (·.entry? seq) = ((s.queue? q).bind (·.entry? seq)).map f := by
  rw [updEntry, queue?_updQueue s q (fun x => { x with entries := updWhere (·.seq == seq) f x.entries }) fun _ => rfl]
  cases s.queue? q with
  | none => rfl
  | some x =>
    simp only [Option.map_some, Option.bind_some, Queue.entry?]
    rw [find_updWhere _ _ _ _ fun x => by simp [h]]
    cases hf : x.entries.find? (·.seq == seq) with
    | none => rfl
    | some e => have := List.find?_some hf; simp_all

/-- The context looked up after a change of it. -/
theorem ctx?_updCtx (n : Nat) (f : Ctx → Ctx) (h : ∀ c, (f c).num = c.num) : (updCtx n f s).ctx? n = (s.ctx? n).map f := by
  simp only [State.ctx?, updCtx]
  rw [find_updWhere _ _ _ _ fun x => by simp [h]]
  cases hf : s.ctxs.find? (·.num == n) with
  | none => rfl
  | some x => have := List.find?_some hf; simp_all

/-- The pattern looked up after a change of it. -/
theorem pat?_updPat (ctx k : Nat) (f : Pattern → Pattern) (h : ∀ p, (f p).ctx = p.ctx ∧ (f p).handle = p.handle) :
    (updPat ctx k f s).pat? ctx k = (s.pat? ctx k).map f := by
  simp only [State.pat?, updPat]
  rw [find_updWhere _ _ _ _ fun x => by simp [h]]
  cases hf : s.pats.find? (fun p => p.ctx == ctx && p.handle == k) with
  | none => rfl
  | some x => have := List.find?_some hf; simp_all

/-- The work item looked up after a change of it. -/
theorem work?_updWork (q seq : Nat) (f : Work → Work) (h : ∀ w, (f w).q = w.q ∧ (f w).seq = w.seq) :
    (updWork q seq f s).work? q seq = (s.work? q seq).map f := by
  simp only [State.work?, updWork]
  rw [find_updWhere _ _ _ _ fun x => by simp [h]]
  cases hf : s.works.find? (fun w => w.q == q && w.seq == seq) with
  | none => rfl
  | some x => have := List.find?_some hf; simp_all

@[simp] theorem updTile_get (t : Fin 12) (f : Tile → Tile) : (updTile t f s).tiles[t] = f s.tiles[t] := by simp [updTile]

theorem updTile_get_ne (t u : Fin 12) (f : Tile → Tile) (h : u ≠ t) : (updTile t f s).tiles[u] = s.tiles[u] := by
  simp only [updTile, Fin.getElem_fin, Vector.getElem_set]
  rw [if_neg fun e => h (Fin.ext e.symm)]

@[simp] theorem updFunc_get (n : Fin 64) (f : Func → Func) : (updFunc n f s).funcs[n] = f s.funcs[n] := by simp [updFunc]

theorem updFunc_get_ne (n m : Fin 64) (f : Func → Func) (h : m ≠ n) : (updFunc n f s).funcs[m] = s.funcs[m] := by
  simp only [updFunc, Fin.getElem_fin, Vector.getElem_set]
  rw [if_neg fun e => h (Fin.ext e.symm)]

/-! ### Messages -/

/-- Everything an MSI-X message can do: it joins the messages sent, or its function's pending bits (R310). -/
theorem sendMsix_cases (fn : Fin 64) (v : Nat) :
    sendMsix fn v s = { s with msgs := (fn.val, v) :: s.msgs } ∨
    sendMsix fn v s = updFunc fn (fun f => { f with pba := if f.pba.contains v then f.pba else f.pba ++ [v] }) s := by
  unfold sendMsix; split
  · exact .inr rfl
  · exact .inl rfl

/-! ### Bytes -/

@[simp] theorem leBytes_length (n v : Nat) : (leBytes n v).length = n := by
  induction n generalizing v with
  | zero => rfl
  | succ n ih => simp [leBytes, ih]

/-- The little-endian bytes of a value that fits give it back (R4). -/
theorem leNat_leBytes (n v : Nat) (h : v < 256 ^ n) : leNat (leBytes n v) = v := by
  induction n generalizing v with
  | zero => simp at h; simp [leBytes, leNat, h]
  | succ n ih =>
    have : v / 256 < 256 ^ n := Nat.div_lt_of_lt_mul (by rw [Nat.pow_succ] at h; omega)
    simp only [leBytes, leNat, ih _ this, BitVec.toNat_ofNat]
    omega

end Sys2Proof.Machine
end

