-- ==== Sys2Proof/Laws/Turn.lean ====
section
/-! SUPPORT. What `inTurn` does with a queue command, said once for each verdict (R322, R341, R351); what `asRole` does with a
management request that is carried out (R436–R440); what an SPDM request that reaches Thimble does (R316). -/
namespace Sys2Proof.Machine

variable {s : State} {op q seq : Nat} {x : Queue} {c : Ctx} {e : Entry}

/-- A command in its turn runs its body on its queue, context and entry. -/
theorem inTurn_go (h : Turn s op q seq x c e) (body : Queue → Ctx → Entry → State) :
    inTurn op q seq s body = body x c e := by
  simp [inTurn, h.queue, h.entry, h.ctx, h.opcode, h.go]

/-- A command that must wait changes nothing. -/
theorem inTurn_wait (hq : s.queue? q = some x) (he : x.entry? seq = some e) (hv : verdict s x e = .wait)
    (body : Queue → Ctx → Entry → State) : inTurn op q seq s body = s := by
  simp only [inTurn, hq, he]
  split <;> simp_all

/-- A command that is held is marked so. -/
theorem inTurn_hold (hq : s.queue? q = some x) (he : x.entry? seq = some e) (hc : s.ctx? x.ctx = some c) (ho : e.op = op)
    (hv : verdict s x e = .hold) (body : Queue → Ctx → Entry → State) : inTurn op q seq s body = hold q seq s := by
  simp [inTurn, hq, he, hc, ho, hv]

/-- A command that its queue does not hold changes nothing. -/
theorem inTurn_absent (hq : s.queue? q = none) (body : Queue → Ctx → Entry → State) : inTurn op q seq s body = s := by
  simp [inTurn, hq]

/-- Counting a request changes no account, session, authority or ETag. -/
theorem authenticate_countRequest (r : Req) (k : Conn) (n : Nat) (a : Account) (h : authenticate r s = (some a, s)) :
    authenticate r (countRequest k n s) = (some a, countRequest k n s) := by
  revert h
  unfold authenticate
  split
  · simp
  · intro h
    simp only [Prod.mk.injEq] at h
    simpa [countRequest, updConn, updMgmt, State.account?] using h.1
  · intro h
    simp only [Prod.mk.injEq] at h
    simpa [countRequest, updConn, updMgmt, State.account?] using h.1
  · simp only [tryPassword, countRequest, updConn, updMgmt, State.account?]
    intro h
    split at h
    · simp at h
    · split at h
      · simp at h
      · split at h <;> simp_all

/-- A request that is granted runs its body, counted against its connection's rate. -/
theorem asRole_granted {level : Nat} {res : Resource} {r : Req} {k : Conn} {a : Account} (h : Granted s level res r k a)
    (body : Account → State → State) : asRole level res r s body = body a (countRequest k r.second s) := by
  have hr : ¬ roleLevel a.role < level := Nat.not_lt.2 h.role
  have he : (match r.ifMatch with | some e => e != etagOf (countRequest k r.second s) res | none => false) = false := by
    cases hm : r.ifMatch with
    | none => rfl
    | some e => simpa [etagOf, countRequest, updConn, updMgmt] using h.etag e hm
  simp only [asRole, request, h.serves, h.conn, h.plain, h.rate, authenticate_countRequest r k r.second a h.auth, hr]
  simp only [Bool.not_true, Bool.false_eq_true, if_false, if_true]
  split
  · simp_all
  · rfl

/-- An SPDM request that reaches Thimble runs its body. -/
theorem spdmReq_open (h : s.doeOpen = true) (body : State → State) : spdmReq s body = done s (body s) := by
  simp only [State.doeOpen, Bool.and_eq_true] at h
  have hb : doeStep s = s := by
    have hr := h.2
    simp only [doeReady, Bool.and_eq_true, Bool.not_eq_true'] at hr
    simp [doeStep, hr.1.1]
  simp [spdmReq, h.1.1, h.1.2, h.2, hb]

end Sys2Proof.Machine
end

