-- ==== Sys2Proof/Tests/Slice0.lean ====
section
/-! SUPPORT. The model's own tests: for each statement concrete states and operands that meet its hypotheses (named
`test_meets_<statement>`), the spec's worked examples, reset, and ill-formed commands that `Instr.wf` refuses. -/
namespace Sys2Proof.Tests
open Sys2Proof Sys2Proof.Machine

set_option Elab.async false

/-! ### States for the tests -/

/-- A descriptor from (byte offset, bytes, value) fields (R339). -/
def descOfFields (l : List (Nat × Nat × Nat)) : Desc :=
  BitVec.ofNat 512 (l.foldl (fun d x => d + x.2.2 % 256 ^ x.2.1 * 2 ^ (8 * x.1)) 0)

/-- A host page, an HBM3E page and a read-only one. -/
def pageH : Page := { dva := 0x100000, big := false, target := 0, addr := 0x40000, pasid := false, read := true, write := true }
def pageB : Page := { dva := 0x200000, big := true, target := 1, addr := 0x40000000, pasid := false, read := true, write := true }
def pageR : Page := { dva := 0x110000, big := false, target := 0, addr := 0x50000, pasid := false, read := true, write := false }

def ctxA : Ctx := { num := 1, dbPage := 0x10000, csp := 0x20000, pages := [pageH, pageB, pageR] }

/-- Queue 1 of context 1 with the one command it holds. -/
def queueA (e : Entry) : Queue :=
  { num := 1, ctx := 1, ring := 0x30000, cq := 0x38000, head := e.seq + 1, tail := e.seq + 1, recs := e.seq, cqHead := e.seq
    entries := [e] }

/-- The module in READY: link up, every tile LOCKED, context 1. -/
def live : State :=
  { State.reset with
    mod := { perst := false, mstate := .ready, served := true, wasReady := true, trained := true, sidebandUp := true }
    link := { up := true, speed := 6, width := 8, flit := true, cfgUp := true, doeBusy := false }
    ctxs := [ctxA, Ctx.zero]
    bolts := [(1, 1)]
    tiles := vecMap (fun _ t => { t with st := .locked, cores := vecMap (fun _ c => { c with st := .idle }) t.cores }) State.reset.tiles }

/-- The same with a command in queue 1. -/
def withEntry (e : Entry) : State := { live with queues := [queueA e, Queue.zero] }
def cmd (l : List (Nat × Nat × Nat)) : Entry := { seq := 5, desc := descOfFields l }
def withCmd (l : List (Nat × Nat × Nat)) : State := withEntry (cmd l)

/-- The same with a command in the admin queue. -/
def queueZ (e : Entry) : Queue :=
  { num := 0, ctx := 0, ring := 0x60000, cq := 0x68000, head := e.seq + 1, tail := e.seq + 1, recs := e.seq, cqHead := e.seq, entries := [e] }
def withAdmin (l : List (Nat × Nat × Nat)) : State :=
  { live with admin := { en := true, running := true }, queues := [queueZ (cmd l)] }

def idleQueue : Queue := { num := 1, ctx := 1, ring := 0x30000, cq := 0x38000, head := 5, tail := 5, recs := 5, cqHead := 5, headOut := 5 }
/-- The same with queue 1 beside it. -/
def adminOn (s : State) (l : List (Nat × Nat × Nat)) : State :=
  { s with admin := { en := true, running := true }, queues := [queueZ (cmd l), idleQueue] }
def withAdmin2 (l : List (Nat × Nat × Nat)) : State := adminOn live l
/-- A command of the admin queue, or of queue 1, has its turn in these states. -/
abbrev AdminTurn (l : List (Nat × Nat × Nat)) (op : Nat) : Prop := Turn (withAdmin l) op 0 5 (queueZ (cmd l)) Ctx.zero (cmd l)
abbrev TurnOn (s : State) (l : List (Nat × Nat × Nat)) (op : Nat) : Prop := Turn (adminOn s l) op 0 5 (queueZ (cmd l)) Ctx.zero (cmd l)
abbrev AdminTurn2 (l : List (Nat × Nat × Nat)) (op : Nat) : Prop := Turn (withAdmin2 l) op 0 5 (queueZ (cmd l)) Ctx.zero (cmd l)
abbrev CmdTurn (l : List (Nat × Nat × Nat)) (op : Nat) : Prop := Turn (withCmd l) op 1 5 (queueA (cmd l)) ctxA (cmd l)

def turnOk (s : State) (op q seq : Nat) (x : Queue) (c : Ctx) (e : Entry) : Bool :=
  s.queue? q == some x && x.entry? seq == some e && s.ctx? x.ctx == some c && e.op == op && verdict s x e == .go

theorem turn_of_ok {s : State} {op q seq : Nat} {x : Queue} {c : Ctx} {e : Entry} (h : turnOk s op q seq x c e = true) :
    Turn s op q seq x c e := by
  simp only [turnOk, Bool.and_eq_true, beq_iff_eq] at h
  exact ⟨h.1.1.1.1, h.1.1.1.2, h.1.1.2, h.1.2, h.2⟩

def grantedOk (s : State) (level : Nat) (res : Resource) (r : Req) (c : Conn) (a : Account) : Bool :=
  mgmtServes s && s.mgmt.conns.find? (·.id == r.conn) == some c && !c.prov && withinRate c r.second s.mgmt
    && decide (level ≤ roleLevel a.role)
    && (match r.ifMatch with | some e => e == etagOf s res | none => true)

theorem granted_of_ok {s : State} {level : Nat} {res : Resource} {r : Req} {c : Conn} {a : Account}
    (u : authenticate r s = (some a, s))
    (h : grantedOk s level res r c a = true) : Granted s level res r c a := by
  simp only [grantedOk, Bool.and_eq_true, beq_iff_eq, Bool.not_eq_true', decide_eq_true_eq] at h
  refine ⟨h.1.1.1.1.1, h.1.1.1.1.2, h.1.1.1.2, h.1.1.2, u, h.1.2, fun e he => ?_⟩
  have := h.2
  simpa [he] using this

def isNext (o : Out) : Bool := match o with | .next _ => true | _ => false
def fenceAt (v : Nat) : List (Nat × Nat × Nat) := [(0, 1, 7), (16, 1, 1), (24, 8, 0x100008), (32, 8, v)]
def fenceHs : List Cell := [(0x40008, 7)]
def signalAt (a : Nat) : List (Nat × Nat × Nat) := [(0, 1, 8), (24, 8, a), (32, 8, 0x0807060504030201)]
def queryAt (what id : Nat) : List (Nat × Nat × Nat) := [(0, 1, 13), (16, 1, what), (18, 2, id), (24, 8, 0x100000), (32, 4, 32)]
def spoolA : Spool := { id := 2, ctx := some 1, fn := 0, label := 7, size := 3, length := 5, gen := 4, inc := 1, data := [] }
def served : State := { live with queues := [idleQueue, Queue.zero] }
def inFault (s : State) : State := { s with mod := { s.mod with mstate := .fault } }
def slot (tail cqHead : Nat) : List Cell :=
  (leBytes 4 tail ++ leBytes 4 cqHead).mapIdx fun i b => (0x10000 + i, b)
def waiting : Queue := { idleQueue with tail := 6 }
def wantsOne : State := { live with queues := [waiting, Queue.zero] }
def ringOf (l : List (Nat × Nat × Nat)) : List Cell :=
  (leBytes 64 (descOfFields l).toNat).mapIdx fun i b => (0x30000 + 64 * 5 + i, b)
def withCtx (st : CtxState) : State := { wantsOne with ctxs := [{ ctxA with st := st }, Ctx.zero] }
def doneE : Entry := { seq := 64, desc := descOfFields [(0, 1, 8), (4, 4, 0x11223344)], st := .finished, status := .accessFault, info := 0x110000 }
def doneS : State := { withEntry doneE with host := [(0x38000 + 32, 7)] }
def fullQueue : Queue := { queueA doneE with cqHead := 0 }
def moved : Queue := { idleQueue with headOut := 4, coalTime := 1, pendInt := 1, sleeping := true }
def withMoved : State := { live with queues := [moved, Queue.zero] }
def dirty : State := { live with funcs := live.funcs.set 0 { enabled := true, dirty := true, fspLo := 0x9001 }, ctxs := [{ ctxA with dirty := true }, Ctx.zero] }
def busyQueue : Queue := queueA (cmd [])
/-- A SET_PARTITION descriptor: kind, action, first unit or spool, count, size, label; its context is 1. -/
def part (kind act first n size label : Nat) : List (Nat × Nat × Nat) :=
  [(0, 1, 70), (16, 1, kind), (17, 1, act), (18, 2, 1), (20, 4, first), (24, 4, n), (28, 4, size), (32, 8, label)]
def ownS : State := { live with swatches := [(7, 2), (8, 1)] }
def spoolsS : State := { live with vault := { st := 2, free := 10, spools := [spoolA, { spoolA with id := 3, ctx := none }] } }
def partOk (s : State) (l : List (Nat × Nat × Nat)) (p : State → Desc → List (Nat × Nat) → Bool) : Bool :=
  let t := adminOn s l
  let d := descOfFields l
  t.ctx? (partCtx d) == some ctxA && !underScrub t d && (partKind d != 2 || (partUnits d).all fun u => !systemBolt u)
    && p t d (ownList t (partKind d))
def scrubS : State := { live with queues := [{ queueZ { cmd [] with st := .begun } with num := 0 }], scrubs := [{ seq := some 5, kind := 2, unit := 3, from_ := none, to_ := some 1 }], hbm := [(3 * bolt0 + 1, 9)] }
def withInt (cause enable : BitVec 11) : State :=
    { live with funcs := live.funcs.set 0 { enabled := true, intCause := cause, intEnable := enable } }
def withMsix (mask : Bool) (pba : List Nat) : State :=
  { live with funcs := live.funcs.set 0 { enabled := true, msix := [(2047, { mask := mask })], pba := pba } }
def withAq (running : Bool) : State := { live with admin := { running := running, ringLo := 0x3000, cqLo := 0x4000, dbLo := 0x5000, cspHi := 1 } }
def counted : State := { live with mod := { live.mod with lockLoss := 255 }, link := { live.link with retrains := 255 }, power := { wakes := 3, retries := 2 }, hk := { live.hk with throttles := 9 } }
def inD3 : State := { live with funcs := live.funcs.set 0 { enabled := true, d3 := true } }
def fused (s : State) : State := { s with sec := { s.sec with fuses := { fa := 7, svn := 3 } }, vault := { s.vault with spools := [spoolA] } }
def offS : State := { State.reset with mod := { perst := false, rails := false }, power := { current := .off } }
def training (speed : Nat) (retr : Nat) : State :=
    { live with link := { live.link with training := true, speed := speed, retrains := retr } }
def early : State := { live with link := { live.link with cfgUp := false } }
def withVf : State := { live with funcs := live.funcs.set 63 { enabled := true }, link := { live.link with vfEnable := true, numVfs := 63, ari := true } }
def vfD3 : State := { withVf with funcs := live.funcs.set 63 { enabled := true, d3 := true } }
def vfCtx : State := { withVf with ctxs := [{ ctxA with owner := 63 }, Ctx.zero], queues := [idleQueue, Queue.zero] }
def placed : State := { vfCtx with tailor := { profile := 0, reserve := 4 }, mod := { live.mod with sscDepth := 5 }, hk := { live.hk with hostCap := 900 }, power := { target := .idle, hold := 3 } }
def withAtc : State := { live with funcs := live.funcs.set 0 { enabled := true, ats := true, atc := [(2, 0x9000, true, true), (3, 0xA000, true, true)] } }
def withInv : State := { live with funcs := live.funcs.set 0 { enabled := true, invs := [(0x2000, 0x1000, [])] } }
def withIde : State := { live with link := { live.link with ide := [{ id := 1, keys := [], secure := true, insecure := false }] } }
def sensorsAt (t : Int) : Vector Sensor 282 := Vector.replicate 282 { raw := some t, used := some t, status := 0 }
def warm : State := { live with hk := { live.hk with sensors := sensorsAt 4500 } }

theorem sensorsAt_at (h : Hk) (t : Int) (hs : h.sensors = sensorsAt t) (n : Nat) :
    h.at n = if n < 282 then { raw := some t, used := some t, status := 0 } else {} := by
  unfold Hk.at
  split <;> rename_i p
  · simp [hs, sensorsAt]
  · rfl

theorem sortInts_replicate (k : Nat) (t : Int) : sortInts (List.replicate k t) = List.replicate k t := by
  induction k with
  | zero => rfl
  | succ k ih =>
    rw [List.replicate_succ, sortInts, ih]
    cases k with
    | zero => rfl
    | succ k => simp [List.replicate_succ, insertInt]

theorem agrees (h : Hk) (t : Int) (hs : h.sensors = sensorsAt t) (n : Nat) : disagrees h n t = false := by
  have hl : nearReadings h n = List.replicate (nearReadings h n).length t := by
    refine List.eq_replicate_iff.mpr ⟨rfl, fun b hb => ?_⟩
    obtain ⟨m, _, hm⟩ := List.mem_filterMap.mp hb
    rw [sensorsAt_at h t hs] at hm
    split at hm <;> simp_all [Sensor.works, Sensor.failed]
  simp only [disagrees, Bool.and_eq_false_iff, Bool.not_eq_false', decide_eq_false_iff_not]
  by_cases he : (nearReadings h n).length = 0
  · exact .inl (by simp_all)
  · right
    rw [hl, median2, sortInts_replicate]
    simp only [List.length_replicate, List.getD_eq_getElem?_getD]
    rw [List.getElem?_replicate_of_lt (by omega), List.getElem?_replicate_of_lt (by omega)]
    simp; omega

theorem cool (h : Hk) (hs : h.sensors = sensorsAt 4500) : coolEnough h = true := by
  have : ∀ n ∈ List.range 282, (4500 : Int) < restartBelow n := by decide +kernel
  simp only [coolEnough, List.all_eq_true]
  intro n hn
  rw [sensorsAt_at h 4500 hs, if_pos (List.mem_range.mp hn)]
  exact decide_eq_true (this n hn)

def monOn (x : Mon) : State := { live with hk := { live.hk with refEn := true, refSettled := true, mon := Vector.replicate 2 { Mon.programmed 0 x with } } }
def overOnce : State := { warm with hk := { warm.hk with sensors := warm.hk.sensors.set 281 { raw := some 20000, beyond := true } } }
def tripped (strap : Bool) : State :=
    { State.reset with mod := { perst := false, thermtrip := true, thermRestart := strap, rails := false }, hk := { sensors := sensorsAt 4500 } }
def hkAt (t : Int) (l : Nat) (f : Option Nat) : Hk := { sensors := sensorsAt t, limit := l, lastFall := f, lastChange := f }

theorem foldl_same {α β : Type} (f g : β → α → β) (l : List α) (a : β) (h : ∀ b, ∀ x ∈ l, f b x = g b x) : l.foldl f a = l.foldl g a := by
  induction l generalizing a with
  | nil => rfl
  | cons x l ih => rw [List.foldl_cons, List.foldl_cons, h a x (by simp), ih _ fun b y hy => h b y (by simp [hy])]

theorem worst_of (h : Hk) (t : Int) (hs : h.sensors = sensorsAt t) (b : Nat × Int)
    (hb : (List.range 282).foldl (fun (best : Option (Nat × Int)) n =>
      match best with
      | none => some (n, t - throttleAt n)
      | some b => if b.2 < t - throttleAt n then some (n, t - throttleAt n) else best) none = some b) : worst h = some b := by
  rw [← hb, worst]
  refine foldl_same _ _ _ _ fun a n hn => ?_
  rw [sensorsAt_at h t hs, if_pos (List.mem_range.mp hn)] <;> rfl
def failedOne : State := { warm with hk := { warm.hk with sensors := warm.hk.sensors.set 7 { raw := some 4000, status := 1, disagree := 3, passed := 1000, subst := true, used := some 5000 } } }
def codesA (n : Nat) : List Nat := List.replicate 24 30000 ++ [n]
def codesB (n : Nat) : List Nat := List.replicate 4 0 ++ [39322, 40000] ++ List.replicate 17 0 ++ [n]
def roundS : State := { monOn {} with hk := { (monOn {}).hk with goodInRow := 100, failsInRow := 2 } }
def movingS : State := { live with power := { moving := some .idle } }
def atRest (up : Bool) (drain : List Domain) : State :=
    { live with power := { lpUp := up, wakes := 254, retries := 254, current := .sleep, draining := drain, retrying := drain } }
def busyLp : State := { atRest true [] with works := [{ q := 1, seq := 1, ctx := 1, pat := 0, k := 0, exps := [] }], ctxs := [{ ctxA with pages := [{ pageB with target := 2 }] }] }
def moveS (p : PState) (q : Option PState) : State := { live with power := { moving := some p, pending := q } }
def inputs (aux main perst : Bool) : State :=
    { State.reset with mod := { auxOn := aux, mainOn := main, perst := perst, rails := aux && main } }
def tileS (t : Fin 12) (f : Tile → Tile) : State := updTile t f live
def fogged (c : FogCause) (n : Nat) : State := tileS 11 (fun x => { x with st := .fogged, fogCause := some c, probeFails := n })
def patOn (core : Fin 48) : Pattern := { handle := 3, ctx := 1, file := [], runnable := true, places := [{ piece := 0, cores := [core] }] }
def readsAt (t : Int) : List Int := List.replicate 16 t
def jumpS (fog : Bool) : State :=
    tileS 11 (fun x => { x with temps := readsAt 4000, cores := Tile.cores (Tile.updCore 3 (fun c => { c with st := if fog then .retired else c.st }) x) })
def fogPat : State := { fogged .thermal 0 with pats := [patOn 47, { patOn 44 with handle := 4 }, { patOn 3 with handle := 5 }] }
def hot : HeaterRead := { core := 3, row := 65, ch := 63, nanoamps := 10001, unstable := false }
def calm : HeaterRead := { hot with nanoamps := 0 }
def suspectS (on : Bool) : State := tileS 11 (fun x => { x with heated := true, suspect := if on then [(0, 0, 0), (3, 65, 63)] else [(0, 0, 0)] })
/-- Every working laser serves; every spare is warm. -/
def lightUp (x : Tile) : Tile :=
  { x with lasers := vecMap (fun i l =>
      if i < 64 then { l with st := .operating, serving := true, bias := 300, set := 300 } else { l with st := .warmHold }) x.lasers }
def laserS (sp : LaserState) : State := tileS 11 (fun x => Tile.updLaser (spareOf 7) (fun l => { l with st := sp }) (lightUp x))
def tuning' : State := tileS 11 (fun x => Tile.updLaser (spareOf 7) (fun l => { l with st := .tuning, chan := 63, set := 280 }) (Tile.updLaser (workingOf 63) (fun l => { l with st := .fading, bias := 700 }) x))
def readyS : State := updTile 11 (fun x => { x with swapping := [(7, 63)], pend := [.swap 7] }) tuning'
def biasS (b : Nat) (k : TileState) : State :=
    tileS 11 (fun x => { Tile.updLaser 63 (fun l => { l with st := .operating, bias := b, set := b, margin := 300 }) x with st := k })
def rd (p : Nat) : LaserRead := { laser := 63, ppm := p, driverOk := true }
def pendS (c : Change) : State := updTile 11 (fun x => { x with pend := [c] }) (biasS 679 .dark)
def faultyS (l : List (Fin 67)) : State := tileS 11 (fun x => Tile.updCore 3 (fun c => { c with st := .held, faulty := l }) x)
def faultyP (l : List (Fin 67)) : State := { faultyS l with pats := [patOn 47, { patOn 44 with handle := 4 }] }
/-- A ring's table that needs more current the colder it is, and a constant one. -/
def warmRing : Ring := { table := [5000, 4000, 3000, 2000, 1000] }
def flatRing (n : Nat) (high : Bool) : Ring := { table := List.replicate 5 n, high := high }
def threadS : State := tileS 11 (fun x => { x with st := .threading, cal := { step := 2 }, temps := readsAt 4000, rings := [(ringKey 3 65 63, warmRing)] })
/-- The sweep of one ring: a peak of its own channel, of order 1, with the tone of that channel or of another. -/
def peakR (tone : Fin 4) : RingThread := { core := 3, row := 65, ch := 63, peaks := [{ tone := tone, place := 127, current := 5000 }] }
def withHeat (l : List (Nat × Ring)) : State := tileS 11 (fun x => { x with temps := readsAt 4000, heated := true, rings := l })
def sheetS (n : Word) : State :=
    tileS 11 (fun x => { x with csGen := n, dark := ~~~(1#64), rings := [(0, { dq := 100, eta := 30 })], cores := vecMap (fun i c => { c with rows := vecMap (fun j r => { r with quar := !(i == 0 && j == 0) }) c.rows }) x.cores })
def seamS (f g : Seam → Seam) : State := updTile 8 (Tile.updSeam 2 g) (tileS 3 (Tile.updSeam 0 f))
def actv (m : Seam) : Seam := { m with st := .active, groups := 0xF, rxSeq := 0xFFFF }
def flit (n : BitVec 16) (a b c : Bool) : Flit :=
    { seqNo := n, ackNo := 0, kind := 0, fecOk := a, crcOk := b, tagOk := c, corrected := 0, cls := 0, payload := [] }
def seamA : State := seamS actv actv
def lanes (g : BitVec 4) (dr : BitVec 4) : State := seamS (fun m => { actv m with groups := g, drop := dr }) actv
def retr : State := updTile 8 (fun x => { x with pend := [.retrain 2] }) (updTile 3 (fun x => { x with pend := [.retrain 0] }) (seamS (fun m => { actv m with drop := 1 }) (fun m => { actv m with drop := 8 })))
def lossS : State := { tileS 11 (fun x => { x with st := .fogged, fogCause := some .pll }) with mod := { live.mod with pllLost := [.hub 3] } }
def near : State := { live with mod := { live.mod with lockLoss := 254 } }
def rliS : State := { tileS 0 (fun x => { x with rli := true }) with mod := { live.mod with rliEn := true, rliStatus := 2 } }
def padTo (n : Nat) (l : List Byte) : List Byte := l ++ List.replicate (n - l.length) 0
/-- A pattern file of the given sections: type, records, bytes (R222). -/
def mkFile (dg : List Byte) (secs : List (Nat × Nat × List Byte)) : List Byte :=
  let head := (64 + 24 * secs.length + 63) / 64 * 64
  let r := secs.foldl (fun (a : List Byte × List Byte) x =>
    (a.1 ++ leBytes 2 x.1 ++ leBytes 2 0 ++ leBytes 4 x.2.1 ++ leBytes 8 (head + a.2.length) ++ leBytes 8 x.2.2.length,
     a.2 ++ padTo ((x.2.2.length + 63) / 64 * 64) x.2.2)) ([], [])
  leBytes 4 0x31465056 ++ leBytes 2 1 ++ leBytes 2 secs.length ++ leBytes 8 (head + r.2.length) ++ (dg ++ (padTo (head - 64) r.1 ++ r.2))
/-- A record of fields (bytes, value). -/
def fields (l : List (Nat × Nat)) : List Byte := (l.map fun x => leBytes x.1 x.2).flatten
/-- A piece record (R225): flags, numeric record, reduction, row groups, program, expert set, power, batch window. -/
def piece (flags num red groups vu set : Nat) : List Byte :=
  fields [(2, 0), (2, flags), (4, 0), (8, num), (4, red), (2, groups), (2, vu), (4, 0xFFFFFFFF), (4, 0xFFFFFFFF), (4, 0xFFFFFFFF), (2, set),
      (2, 1), (2, 1),
          (2, 5000), (4, 100), (1, 1), (15, 0)]
/-- A stream record (R228): producer, consumer, class, priority, escape buffer, bytes. -/
def stream (prod cons cls prio esc n : Nat) : List Byte :=
  fields [(2, prod), (2, cons), (1, cls), (1, prio), (2, 0), (4, 4096), (4, esc), (8, n), (8, 0)]
/-- One exact piece with INT8 activations and weights, RAW32 outputs, its weights from a stream. -/
def fileA (dg : List Byte) : List Byte :=
  mkFile dg [(1, 1, piece 1 0xFFFF000004000100 64 1 0xFFFF 0xFFFF),
    (7, 3, stream 0xFFFF 0 2 0 0 64 ++ stream 0xFFFF 0 0 0 0 640 ++ stream 0 0xFFFF 2 0 0 4)]
def zeroDg : List Byte := List.replicate 48 0
def dgOf (f : List Byte → List Byte) : List Byte := sha384 (f zeroDg)
def fileOk : List Byte := fileA (dgOf fileA)
/-- Memory that holds bytes from an address on. -/
def layout (k : Nat) : List Byte → Memory
  | [] => []
  | b :: bs => (k, b) :: layout (k + 1) bs

theorem memReadN_skip (a k n : Nat) (b : Byte) (m : Memory) (h : a < k) : memReadN ((a, b) :: m) k n = memReadN m k n := by
  induction n generalizing k with
  | zero => rfl
  | succ n ih => rw [memReadN, memReadN, ih (k + 1) (by omega), memRead, if_neg (by simp; omega)]

theorem memReadN_layout (f : List Byte) (k : Nat) : memReadN (layout k f) k f.length = f := by
  induction f generalizing k with
  | nil => rfl
  | cons b bs ih =>
    rw [layout, List.length_cons, memReadN, memRead, if_pos rfl, memReadN_skip _ _ _ _ _ (by omega), ih]

def loaded (f : List Byte) : Pattern := { handle := 3, ctx := 1, file := f, runnable := true, hot := 1, places := [{ piece := 0, cores := [0] }] }
def withPat (s : State) (p : Pattern) : State := { s with pats := [p] }
def libS (f : List Byte) : Spool :=
    { id := 7, ctx := some 1, fn := 0, label := 0, size := 1, length := f.length, gen := 0, inc := 1, data := layout 0 f }
def spoolIn (s : State) (l : List Spool) : State :=
    { s with vault := { s.vault with st := 2, spools := l, xact := 2 ^ 40 }, swatches := [(0, 1), (256, 1)] }
def loadS (sp n : Nat) (l : List Spool) : State := spoolIn (withCmd [(0, 1, 2), (24, 8, n), (32, 2, sp), (36, 4, 1)]) l
def loadA : State := loadS 7 fileOk.length [libS fileOk]
def loadE : Entry := (cmd [(0, 1, 2), (24, 8, fileOk.length), (32, 2, 7), (36, 4, 1)])
theorem digestOk : sha384 (digested fileOk) = fileN fileOk 16 48 := by
  have h1 : digested fileOk = fileA zeroDg := by decide +kernel
  have h2 : fileN fileOk 16 48 = dgOf fileA := by decide +kernel
  rw [h1, h2, dgOf]

theorem loadsOk : loadCheck loadA ctxA loadE.desc fileOk [] = none := by
  have h1 : headOk fileOk = true := by decide +kernel
  have h2 : contentOk fileOk = true := by decide +kernel
  have h3 : escapesOk fileOk = true := by decide +kernel
  have h4 : roomOk loadA ctxA fileOk loadE.desc = true := by decide +kernel
  have h5 : spoolGap loadA ctxA fileOk [] = none := by decide +kernel
  have h6 : (decide (256 ≤ loadA.pats.length) || decide (64 ≤ (loadA.pats.filter (·.ctx == ctxA.num)).length)) = false := by decide +kernel
  simp only [Bool.or_eq_false_iff, decide_eq_false_iff_not] at h6
  simp [loadCheck, h1, h2, h3, h4, h5, h6, digestOk]

theorem readsOk : readFile loadA ctxA loadE.desc .ok = .ok fileOk := by
  have h1 : desc16 loadE.desc 32 = 7 := by decide +kernel
  have h2 : desc64 loadE.desc 16 = 0 := by decide +kernel
  have h3 : desc64 loadE.desc 24 = fileOk.length := by decide +kernel
  have h4 : srcSpool loadA ctxA 7 0 fileOk.length = .ok (libS fileOk) := by
    have a : vaultRefuses loadA = false := by decide +kernel
    have b : loadA.spool? 7 = some (libS fileOk) := rfl
    simp [srcSpool, a, b, libS, ctxA, show loadA.vault.readHold = false from rfl]
  have h5 : readFails (vaultBad loadA 7 0 fileOk.length (some (0, .ok))) = false := by decide +kernel
  simp only [readFile, h1, h2, h3, h4]
  have h6 : memReadN (libS fileOk).data 0 fileOk.length = fileOk := memReadN_layout fileOk 0
  have h7 : (libS fileOk).id = 7 := rfl
  simp only [h6, h7, h5]
  rfl
def runE (inLen outLen : Nat) : Entry := cmd [(0, 1, 1), (16, 2, 3), (24, 8, 0x200000), (32, 8, inLen), (40, 8, 0x210000), (48, 8, outLen)]
def runS (inLen outLen : Nat) (f : List Byte) : State := withPat (withEntry (runE inLen outLen)) (loaded f)
/-- The same piece analog: CLEAR activations and weights, RAW32. -/
def fileN_ : List Byte :=
  mkFile zeroDg [(1, 1, piece 1 0xFFFF000004003401 64 1 0xFFFF 0xFFFF),
    (7, 3, stream 0xFFFF 0 2 0 0 64 ++ stream 0xFFFF 0 0 0 0 3200 ++ stream 0 0xFFFF 2 0 0 4)]
def darkS : State := { runS 7296 4 fileN_ with mod := { live.mod with mstate := .safelight } }
def copyE (src dst len ss ds : Nat) : Entry := cmd [(0, 1, 4), (16, 8, src), (24, 8, dst), (32, 8, len), (40, 2, ss), (42, 2, ds)]
def copyS (src dst len ss ds : Nat) : State := spoolIn (withEntry (copyE src dst len ss ds)) [{ libS [1, 2, 3] with length := 64 }]
def fillE (dst len v sp : Nat) : Entry := cmd [(0, 1, 5), (16, 8, dst), (24, 8, len), (32, 8, v), (40, 2, sp)]
def fillS (dst len v sp : Nat) : State := spoolIn (withEntry (fillE dst len v sp)) [libS (List.replicate 8 1)]
def held (s : State) : State := { s with vault := { s.vault with writeHold := true } }
theorem dvaReadN_length' (s : State) (c : Ctx) (a n : Nat) : (dvaReadN s c a n).length = n := by
  induction n generalizing a with
  | zero => rfl
  | succ n ih => rw [dvaReadN, List.length_cons, ih]
/-- Two tracker slots: N 4, D 2, LO −16, HI 15, INIT −3; N 1, D 1, LO 0, HI 0. -/
def fileT : List Byte := mkFile zeroDg [(5, 2, leBytes 4 (3 + 16 + 16 * 2 ^ 8 + 15 * 2 ^ 13 + 29 * 2 ^ 18) ++ leBytes 4 0)]
def scaleE (b1 b2 : Nat) : Entry := cmd [(0, 1, 9), (16, 2, 3), (18, 1, b1), (20, 4, b2)]
def scaleS (e : Entry) (frozen : Bool) : State :=
  { withPat (withEntry e) (loaded fileT) with
    tracks := [{ pat := 3, q := 1, frozen := frozen, count := if frozen then 9 else 1, slots := if frozen then [{ exps := [5] }, { exps := [0] }] else [{ exps := [-3, 4, 2], obs := [some 1] }, { exps := [0, 0] }] }] }
def setE (mask v : Nat) : Entry := cmd [(0, 1, 10), (16, 2, 3), (20, 4, mask), (24, 1, v)]
/-- Two experts of set 1: 48 MiB and 16 MiB of spool 0. -/
def fileX : List Byte :=
  mkFile zeroDg [(1, 1, piece 2 0xFFFF000004000100 64 1 0xFFFF 1),
    (7, 2, stream 0xFFFF 0 2 0 0 64 ++ stream 0 0xFFFF 2 0 0 4),
    (8, 2, fields [(4, 0), (2, 1), (2, 0), (8, 0), (8, 3 * 2 ^ 24), (8, 0), (4, 1), (2, 1), (2, 0), (8, 3 * 2 ^ 24), (8, 2 ^ 24), (8, 0)])]
def hintE (mode n : Nat) : Entry := cmd [(0, 1, 6), (16, 2, 3), (18, 1, mode), (20, 4, n), (24, 8, 0x100000), (32, 2, 1)]
def hintS (mode n : Nat) (idx : Byte) : State :=
    { spoolIn (withPat (withEntry (hintE mode n)) (loaded fileX)) [] with host := if idx = 0 then [] else [(0x40000, idx)] }
def fetchS (l : List ExpertReq) (hold : Bool) : State :=
  let s := spoolIn (withPat live { loaded fileX with fetches := l }) []
  { s with vault := { s.vault with readHold := hold } }
def reqX (n : Nat) : ExpertReq := { expert := n, prefetch := true, pin := true, waiters := [(1, 9)] }
def pinnedS : State := withPat (hintS 1 1 1) { loaded fileX with cache := [{ expert := 0, hot := true, pinned := true, lastUse := 0 }] }
def dogR (c t dm : Bool) : FdReq :=
    { id := 8, q := 1, seq := 5, ctx := 1, dva := 0x100000, off := 0, len := 64, target := 0, addr := 0x40000, demand := dm, cancelled := c, timedOut := t }
def workA (st : WorkStage) (k : List (Nat × Nat)) : Work :=
    { q := 1, seq := 5, ctx := 1, pat := 3, k := 0, exps := [], stage := st, toFetch := k }
def dogS (c t dm : Bool) : State :=
  { withPat (withEntry { runE 4736 4 with st := .begun }) (loaded (fileA zeroDg)) with reqs := [dogR c t dm], works := [workA .fetching []] }
def outE (dva n : Nat) : Entry := { cmd [(0, 1, 1), (16, 2, 3), (24, 8, 0x200000), (32, 8, 0x100000), (40, 8, dva), (48, 8, n)] with st := .begun }
def doneW (n : Nat) : Work := { workA .running [] with elems := (List.range n).map fun v => { piece := 0, vec := v, group := 0, value := 0x01020304 }, sat := 2 }
def outS (dva : Nat) : State := { withPat (withEntry (outE dva 4)) (loaded (fileA zeroDg)) with works := [doneW 1] }
def fileTwo : List Byte :=
  mkFile zeroDg [(1, 2, piece 4 0xFFFF000001000100 1 1 0 0xFFFF ++ piece 4 0xFFFF000001000100 1 1 0 0xFFFF),
    (6, 1, leBytes 4 0), (7, 4, stream 0xFFFF 0 2 0 0 1 ++ stream 0 0xFFFF 2 0 0 4 ++ stream 0xFFFF 1 2 0 0 1 ++ stream 1 0xFFFF 2 0 0 4)]
def outTwo : State := { withPat (withEntry (outE 0x100000 8192)) (loaded fileTwo) with works := [{ workA .running [] with vuDone := [0, 1] }] }
def outEnd : State := { outS 0x100000 with works := [{ doneW 1 with written := 1 }] }
def lastWrite : State := { outEnd with works := [{ doneW 1 with written := 1, stage := .writeOut }], power := { moving := some .off } }
/-- A piece whose weights are resident from block 0 on. -/
def pieceB (flags num red groups vu b0 : Nat) : List Byte :=
  fields [(2, 0), (2, flags), (4, 0), (8, num), (4, red), (2, groups), (2, vu), (4, b0), (4, 0xFFFFFFFF), (4, 0xFFFFFFFF), (2, 0xFFFF), (2,
      1), (2, 1),
          (2, 5000), (4, 100), (1, 1), (15, 0)]
/-- One exact piece with weights −128 in its one row group: the check values of each half are −4,096. -/
def blockB : List Byte := List.replicate 512 0 ++ (fields [(2, 0xF000), (2, 0xF000)] ++ List.replicate 124 0)
def fileB (afmt : Nat) : List Byte :=
  mkFile zeroDg [(1, 1, pieceB 0 (0xFFFF000004000000 + afmt * 256) 64 1 0xFFFF 0), (2, 1, blockB),
    (7, 2, stream 0xFFFF 0 2 0 0 64 ++ stream 0 0xFFFF 2 0 0 4)]
/-- The same analog: 64 codes of 0 in row 0 and everywhere. -/
def fileC : List Byte :=
  mkFile zeroDg [(1, 1, pieceB 0 0xFFFF000004003401 64 1 0xFFFF 0), (2, 1, List.replicate 3200 0), (7, 2,
      stream 0xFFFF 0 2 0 0 64 ++ stream 0 0xFFFF 2 0 0 4)]
/-- The work item with its piece dealt to core 0, and the buffer of its output stream. -/
def workD : Work := { workA .running [] with dealt := [{ piece := 0, cores := [0] }] }
def bufD : Buf := { q := 1, seq := 5, ctx := 1, pat := 3, stream := 1, cls := 2, credits := 1 }
def onCoreS (f : List Byte) (blk : Option Block) : State :=
  let s := withPat (withEntry { runE 4736 4 with st := .begun }) (loaded f)
  { updCore 0 (fun c => { c with current := some (1, 3), residents := [(1, 3)], block := blk, drive := 60000 }) s with
    works := [workD], bufs := [bufD] }
def zeros : List Byte := List.replicate 1072 4
def blkB : Block := blockOf (loaded (fileB 1)) 0 0 0 blockB
def coreZ : Core := {}
def noise : List Byte := List.replicate 1072 8

theorem decisions_flat (c : Core) (b : Block) (bytes : List Nat) (v : Byte) (hb : c.baste = none) (hr : c.rows = Vector.replicate 67 {}) :
    ∀ e ∈ decisions c b bytes (List.replicate 1072 v), (e.1, e.2.1) = decideLevel (thresholds {}) v.toNat := by
  intro e he
  simp only [decisions, List.mem_flatMap, List.mem_map, List.mem_range] at he
  obtain ⟨rh, hrh, k, hk, rfl⟩ := he
  have h1 : ∀ n h, (c.row n).half h = {} := by
    intro n h
    have : c.row n = {} := by unfold Core.row; split <;> simp [hr]
    rw [this, Row.half]; split <;> rfl
  have h2 : physRow c (rh / 2) = rh / 2 := by rw [physRow, hb]
  rw [h1, h2, List.getD_eq_getElem?_getD, List.getElem?_replicate_of_lt (by omega)]
  rfl

theorem flat_good (c : Core) (b : Block) (bytes : List Nat) (hb : c.baste = none) (hr : c.rows = Vector.replicate 67 {}) :
    parityOk (decisions c b bytes zeros) = true ∧ doubtful (decisions c b bytes zeros) = false := by
  have h := decisions_flat c b bytes 4 hb hr
  have hd : decideLevel (thresholds {}) (4 : Byte).toNat = (0, false) := by decide +kernel
  rw [hd] at h
  have hl : ∀ r i k, levelAt (decisions c b bytes zeros) r i k = 0 := by
    intro r i k
    unfold levelAt
    rw [List.getD_eq_getElem?_getD]
    cases hg : (decisions c b bytes zeros)[(2 * r + i) * 8 + k]? with
    | none => rfl
    | some e => exact (Prod.mk.inj (h e (List.mem_of_getElem? hg))).1
  constructor
  · simp only [parityOk, check64, check65, hl]; decide +kernel
  · simp only [doubtful, List.any_eq_false]
    exact fun e he => by simp [(Prod.mk.inj (h e he)).2]

theorem flat_bad (c : Core) (b : Block) (bytes : List Nat) (hb : c.baste = none) (hr : c.rows = Vector.replicate 67 {}) :
    doubtful (decisions c b bytes noise) = true := by
  have h := decisions_flat c b bytes 8 hb hr
  have hd : (decideLevel (thresholds {}) (8 : Byte).toNat).2 = true := by decide +kernel
  obtain ⟨e, he⟩ : ∃ e, e ∈ decisions c b bytes noise := by
    simp only [decisions, List.mem_flatMap, List.mem_map, List.mem_range]
    exact ⟨_, 0, by omega, 0, by omega, rfl⟩
  exact List.any_eq_true.mpr ⟨e, he, (congrArg Prod.snd (h e he)).trans hd⟩

def blkC : Block := { pat := 3, piece := 0, set := 0, pass := 0, analog := true, wb := 6, groups := 1, item := some (1, 5) }
def blkL : Block := { pat := 3, piece := 0, set := 0, pass := 0, analog := false, wb := 8, groups := 1 }
def fbS (f : List Byte) : State := { onCoreS f none with pats := [{ loaded f with places := [], onFallback := [0] }] }
/-- A stored check value that disagrees. -/
def fileD : List Byte :=
  mkFile zeroDg [(1, 1, pieceB 0 0xFFFF000004000100 64 1 0xFFFF 0), (2, 1, List.replicate 640 0), (7, 2,
      stream 0xFFFF 0 2 0 0 64 ++ stream 0 0xFFFF 2 0 0 4)]
def xsB : List Int := (List.range 64).map fun i => (4 * i : Nat) - 128
def dutyS (n : Nat) : State := updCore 0 (fun c => { c with drive := n }) (onCoreS (fileB 1) (some blkB))
def stripeF : List Byte := mkFile zeroDg [(9, 3, fields [(4, 2048), (4, 1024), (4, 512)])]
def stripeS (n : Nat) : State := { live with pats := [{ loaded stripeF with stripe := n }, { loaded stripeF with handle := 4 }] }
def fileS : List Byte :=
  mkFile zeroDg [(7, 3, stream 0 1 2 3 1 4096 ++ stream 1 0 2 3 1 4096 ++ stream 1 0 2 1 0 4096)]
def snagS (l : List Nat) : State := withPat live { loaded fileS with diverted := l }
def moveP : State :=
  { onCoreS (fileB 1) none with swatches := [(256, 1), (268, 1)], tailor := { live.tailor with rebalance := true, moved := [(3, 1)], freed := [4] } }
def turnsS (cur : Option (Nat × Nat)) : State :=
  { updCore 5 (fun c => { c with st := .running, residents := [(1, 2), (1, 3)], current := cur }) (onCoreS (fileB 1) none) with
    pats := [{ loaded (fileB 1) with places := [{ piece := 0, cores := [5] }] },
      { loaded (fileB 1) with handle := 2, places := [{ piece := 0, cores := [5] }] }]
    works := [{ workD with dealt := [{ piece := 0, cores := [5] }] },
      { workD with pat := 2, seq := 6, dealt := [{ piece := 0, cores := [5] }] }] }
def calE (tiles opts : Nat) : Entry := cmd [(0, 1, 11), (16, 2, tiles), (18, 1, opts)]
def calS (tiles opts : Nat) : State := withEntry (calE tiles opts)
def testE (tiles : Nat) : Entry := cmd [(0, 1, 12), (16, 2, tiles)]
def lit (s : State) : State := { s with mod := { s.mod with mstate := .safelight } }
/-- A measurement of a half-row at the nominal level centres, some of them moved by d. -/
def halfM (d : Int) : HalfMeas := { mu := (List.range 33).map fun k => levelCentre {} k * 4096 + d, sigma := List.replicate 33 1000 }
def rowM (d : Int) (resid : Nat) : RowMeas := { a := halfM 0, b := halfM d, resid := resid }
def nominal : Half × Half × Nat × Nat := (({} : Half), ({} : Half), 0, 0)
def stS : State := { updTile 11 (fun x => { x with testing := true, cal := { x.cal with step := 9 } }) live with selfTest := some { q := 1, seq := 5, tiles := 0xC00, tested := 0x400, failed := 0x400 }, queues := [queueA { testE 0xC00 with st := .begun }, Queue.zero] }
def stepS (n : Nat) (f : Cal → Cal) : State := tileS 11 (fun x => { x with st := .threading, cal := f { step := n } })
def noRes : CalResults := { rulerOk := true, badLasers := [], badRows := [], badChannels := [], runs := [], meanTemp := 4000 }
/-- Every row of one core left out, every other core retired: with these rows lost no core is left. -/
def lastCore (n : Nat) : State :=
    updTile 11 (fun x => { x with cores := vecMap (fun i c => if i = 3 then c else { c with st := .retired }) x.cores }) (stepS n id)
def badTwo : CalResults := { noRes with badRows := [(3, 65), (3, 66)] }
def run1 (d : Int) : CalResults := { noRes with runs := [(3, 66, rowM d 0)] }
def hasRun (n : Nat) (l : List Int) : State := updTile 11 (fun x => storeRun (l.map fun d => (3, 66, rowM d 0)) x) (stepS n id)
def calib (l : Nat) : State := { live with mod := { live.mod with mstate := .calibrating }, tiles := vecMap (fun i x => if i < l then x else { x with st := .threading }) live.tiles }
def slotS (f : Core → Core) : State := updCore 47 f live
def walkS (l : List RowMeas) (bad : Bool) : State :=
    slotS (fun c => Core.updRow 65 (fun r => { r with meas := l }) { c with walk := some 65, walkNext := 66, slotBad := bad, baste := some (65, false) })
def ringS (eta : Nat) : State := updTile 11 (fun x => { x with rings := [(ringKey 3 65 63, { eta := eta })] }) (walkS [] false)
def stuckS : State := slotS (fun c => { c with baste := some (3, true) })
def sweepS : State := slotS (fun c => { c with sweep := true })
def commitS (w : Bool) (f : Cal → Cal) : State :=
    { tileS 11 (fun x => { x with temps := readsAt 5500, cal := f x.cal }) with vault := { live.vault with st := 2, writeHold := !w } }
def inState (m : MState) : State := { live with mod := { live.mod with mstate := m } }
def hotHk : Hk := { live.hk with sensors := sensorsAt 7001, limit := 810 }
def slS (cause : BitVec 4) (ex : Bool) : State :=
  { live with mod := { live.mod with mstate := .safelight, slCause := cause, slExit := ex }, tiles := vecMap (fun _ x => { x with st := .dark }) live.tiles }
def coolHk : Hk := { live.hk with sensors := sensorsAt 4500, coolingFault := true }
def lostTwo : State := { inState .calibrating with tiles := vecMap (fun i x => if i < 10 then x else { x with st := .quarantined }) live.tiles }
def hotS : State := { live with hk := hotHk }
def laserS' : State := { slS 4 false with hk := { live.hk with laserSupplyOk := false } }
def coolS : State := { slS 1 false with hk := coolHk }
theorem goneCool (h : Hk) (hs : h.sensors = sensorsAt 4500) : coolingGone h = true := by
  have : ∀ n ∈ List.range 282, (4500 : Int) ≤ throttleAt n - 1000 := by decide +kernel
  simp only [coolingGone, List.all_eq_true]
  intro n hn
  rw [sensorsAt_at h 4500 hs, if_pos (List.mem_range.mp hn)]
  simp only [untrusted, sensorsAt_at h 4500 hs, if_pos (List.mem_range.mp hn), Sensor.failed]
  simpa using this n hn
def tslS : State := { updTile 11 (fun x => { x with safelight := true, st := .dark }) warm with power := { tilesUp := 0x7FF } }
def manyS : State := { live with queues := [{ queueA (cmd [(0, 1, 0)]) with entries := [cmd [(0, 1, 0)], { cmd [(0, 1, 1)] with seq := 6, st := .begun }, { cmd [(0, 1, 7)] with seq := 7 }, { cmd [(0, 1, 13)] with seq := 8 }] }, Queue.zero] }
def resetsS (p : Proc) (i n : Nat) (run : List (Proc × Nat)) : State :=
    { live with mod := { live.mod with resets := { history := (List.range n).map fun k => (p, i, 10 + k), running := run } } }
def xactS (n : Nat) : State := { live with queues := [queueA { cmd [(0, 1, 5)] with st := .begun }, Queue.zero], vault := { st := 2, spools := [{ libS [7, 7] with gen := 4 }], writes := [{ q := 1, seq := 5, spool := 7, off := 4096, len := 4096, data := [(4096, 3)], space := 4096, copies := n }], xact := 2 ^ 40 - 4096 } }
def mountS : State := { xactS 0 with vault := { (xactS 0).vault with st := 1, scrubbing := [{ spool := 9, left := 5, back := true }] } }
def holdS : State := { live with vault := { st := 2, tempMin := some 200, tempMax := some 7300, writeHold := true, readHold := true } }
def tierS : State := { live with vault := { st := 2, scrubbing := [{ spool := 9, left := 1, back := true }], free := 3 }, repairs := [{ tier := 2, addr := 0x1000, errs := 1 }], d2d := [(4, 0xFFFF, 2, false), (5, 7, 3, false)] }
def evA : Event := { source := 3, inst := 1, severity := 2, cls := 4, code := 9, params := 1, localCount := 0 }
def entryA (n : Nat) : LogEntry := { seq := some n, e := evA, rep := 0, at_ := 500, committed := false, unanchored := false, restart := false }
def logS (l : List LogEntry) : State := { commitS true id with mgmt := { live.mgmt with log := l, nextSeq := some 8, anchor := 3 } }
def bareS : State := { live with mgmt := { live.mgmt with up := true, log := [{ entryA 0 with seq := none }, { entryA 0 with seq := none, e := { evA with code := 1 } }], nextSeq := none } }
/-- A manifest's bytes (R405, R406): SVN, the handover version that every image accepts, REVOKE_MASK 0xF; image i in MiB i + 1. -/
def manifestBytes (svn hm : Nat) : List Byte :=
  padTo 8192 (fields ([(4, 0x31464D47), (2, 1), (1, 0), (1, 8), (8, svn), (4, 0xF), (4, 3), (40, 0)]
    ++ (List.range 8).flatMap fun i =>
      [(1, i + 1), (1, hm), (1, 1), (5, 0), (8, 2 ^ 20 * (i + 1)), (8, 4096), (8, 0), (64, i + 1)]))
def srcB (k : Nat) (fault : Bool) : BundleRead :=
  { bytes := manifestBytes k 1, pubDigest := 0, edOk := true, mldsaOk := true, digest := 9, fault := fault }
def manifestB (k : Nat) (hm : Nat) : Manifest := BundleRead.manifest { srcB k false with bytes := manifestBytes k hm }
def secS (f : Sec → Sec) : State := { live with sec := f live.sec }
def staged (hm : Nat) (x : Sec) : Sec := { x with slots := x.slots.set 1 { manifest := some (manifestB 2 hm) }, updLen := 5 }
def stagingS : State := secS fun x => { x with cmd := .stage (srcB 2 false) true, updState := 1 }
def actS (st : Nat) (hm n : Nat) (w : Option Nat) : State :=
    secS fun x => { staged hm x with cmd := .activate, updState := st, swapped := n, window := w }
/-- IOD sensors at a temperature. -/
def iodS (t : Int) (f : Sec → Sec) : State :=
  { secS f with hk := { live.hk with sensors := ((live.hk.sensors.set 248 { raw := some t }).set 249 { raw := some t }).set 250 { raw := some t } |>.set 251 { raw := some t } } }
/-- A token (R426): request and key slot, serial 0, challenge 0xAB. -/
def token (r : Nat) (f : Fin 4) : TokenRead :=
  { readOk := true, bytes := padTo 5392 (fields [(4, 0x31544447), (1, r), (1, f.val), (2, 0), (16, 0), (32, 0xAB)])
    pubDigest := 0, edOk := true, mldsaOk := true }
def subS (t : Int) (vd : Bool) : State :=
    { iodS t (fun x => { x with submit := some 0xAB, fuses := { x.fuses with vdDisable := vd, revoke := 8 } }) with hbm := [(0, 3)], lp := [(7, 3)] }
def negS (f : Sec → Sec) : State := secS fun x => f { x with versioned := true, negotiated := true }
def ideS (l : List Ide) : State := { (negS fun x => { x with sessions := [(1, true)] }) with link := { live.link with ide := l } }
def strm (n : Nat) (k : List Nat) (sec : Bool) : Ide := { id := n, keys := k, secure := sec, insecure := false }
def fiveS : State := ideS [strm 1 [] true, strm 2 [] true, strm 3 [] true, strm 4 [] true, strm 5 [] true]
def mg (f : Mgmt → Mgmt) : State := { live with mgmt := f { live.mgmt with up := true }, vault := { st := 2 } }
def acc (u : Nat) (r : Role) : Account := { user := u, role := r, password := 99 }
def conns (n : Nat) : List Conn := (List.range n).map fun i => { id := i + 1 }
def req1 : Req := { conn := 1, auth := .basic 7 99, ifMatch := none, second := 50 }
def tokR : Req := { req1 with auth := .token 5, ifMatch := some 0 }
def mgA (r : Role) (f : Mgmt → Mgmt) : State := mg fun m => f { m with accounts := [acc 7 r], conns := conns 1, sessions := [(5, 7)] }
def accF (n : Nat) : Account := { acc 7 .readOnly with fails := List.replicate n 0 |>.mapIdx fun i _ => 40 - i }
def mgOn (s : State) (r : Role) : State := { s with mgmt := (mgA r id).mgmt, vault := { st := 2 } }
def sensOne (x : Sensor) : State := { live with hk := { live.hk with sensors := live.hk.sensors.set 281 x } }
def alertS : State := { live with hk := { live.hk with coolingFault := true } }
def memS : State := { withCmd (signalAt 0x100008) with pending := [.signal 1 5], host := [(0x40008, 3)] }

/-! ### Light -/

/-- One core of a fogged tile holds an analog row; a probe pass with the codes that its rings' zero light gives, or with others. -/
def probing (n : Nat) : State := tileS 11 (fun x => { Tile.updCore 3 (fun c => { c with block := some blkC }) (lightUp x) with
  st := .fogged, fogCause := some .thermal, probeFails := n, mayProbe := true })
def probeP (v : Byte) : ProbePass := { core := 3, input := List.replicate 64 0, samples := List.replicate 1072 v }
def lossIod (d : Die) : State := { lossS with mod := { live.mod with pllLost := [d] } }
def flitRec (n : BitVec 16) (tries : Nat) : FlitRec := { seqNo := n, kind := 0, cls := 0, payload := [], tries := tries }
def ackS (tries : Nat) : State := seamS (fun m => { actv m with unacked := [flitRec 9 tries, flitRec 10 0], txSeq := 11 }) actv
def tagS : State := seamS (fun m => { actv m with tagSeq := 0xFFFF, tagFails := 3 }) actv

/-! ### Witnesses -/

theorem test_meets_NopFenceAndQueryComplete_1 :
    CmdTurn [] 0 ∧
    Turn (seeHost [] (withCmd [(0, 1, 7)])) 7 1 5 (queueA (cmd [(0, 1, 7)])) ctxA (cmd [(0, 1, 7)]) ∧
    Turn (seeHost fenceHs (withCmd (fenceAt 7))) 7 1 5 (queueA (cmd (fenceAt 7))) ctxA (cmd (fenceAt 7)) ∧
    descByte (descOfFields (fenceAt 7)) 16 ≠ 0 ∧
    rangeFault (seeHost fenceHs (withCmd (fenceAt 7))) ctxA 0x100008 8 false = none ∧
    hostWaits (seeHost fenceHs (withCmd (fenceAt 7))) ctxA 0x100008 8 = false ∧
    desc64 (descOfFields (fenceAt 7)) 32 ≤ leNat (dvaReadN (seeHost fenceHs (withCmd (fenceAt 7))) ctxA 0x100008 8) ∧
    Turn (seeHost fenceHs (withCmd (fenceAt 8))) 7 1 5 (queueA (cmd (fenceAt 8))) ctxA (cmd (fenceAt 8)) ∧
    descByte (descOfFields (fenceAt 8)) 16 ≠ 0 ∧
    rangeFault (seeHost fenceHs (withCmd (fenceAt 8))) ctxA 0x100008 8 false = none ∧
    hostWaits (seeHost fenceHs (withCmd (fenceAt 8))) ctxA 0x100008 8 = false ∧
    desc64 (descOfFields (fenceAt 8)) 32 = 1 + leNat (dvaReadN (seeHost fenceHs (withCmd (fenceAt 8))) ctxA 0x100008 8) ∧
    Turn (seeHost fenceHs (withEntry { cmd (fenceAt 7) with st := .begun })) 7 1 5 (queueA { cmd (fenceAt 7) with st := .begun }) ctxA { cmd (fenceAt 7) with st := .begun } :=
  ⟨turn_of_ok (by decide +kernel), turn_of_ok (by decide +kernel), turn_of_ok (by decide +kernel), by decide +kernel, by decide +kernel,
      by decide +kernel, by decide +kernel, turn_of_ok (by decide +kernel), by decide +kernel, by decide +kernel, by decide +kernel,
      by decide +kernel, turn_of_ok (by decide +kernel)⟩

theorem test_meets_NopFenceAndQueryComplete_2 :
    CmdTurn (queryAt 0 1) 13 ∧
    queryBlock (withCmd (queryAt 0 1)) (queueA (cmd (queryAt 0 1))) ctxA 0 1 = .ok (leBytes 8 6 ++ leBytes 8 5 ++ leBytes 4 1 ++ leBytes 1 7 ++ leBytes 1 0 ++ List.replicate 10 0) ∧
    (rangeFault (withCmd (queryAt 0 1)) ctxA 0x100000 32 true = none ∧ hostWaits (withCmd (queryAt 0 1)) ctxA 0x100000 32 = false) ∧
    (State.queue? (withCmd (queryAt 0 1)) 1 = some (queueA (cmd (queryAt 0 1))) ∧ ((queueA (cmd (queryAt 0 1)))).ctx = ctxA.num) ∧
    CmdTurn (queryAt 0 9) 13 ∧
    queryBlock (withCmd (queryAt 0 9)) (queueA (cmd (queryAt 0 9))) ctxA 0 9 = .error .accessFault ∧
    Turn { withCmd (queryAt 2 2) with vault := { spools := [spoolA] } } 13 1 5 (queueA (cmd (queryAt 2 2))) ctxA (cmd (queryAt 2 2)) ∧
    (State.spool? { withCmd (queryAt 2 2) with vault := { spools := [spoolA] } } 2 = some spoolA ∧ spoolA.ctx = some ctxA.num) :=
  ⟨turn_of_ok (by decide +kernel), rfl, by decide +kernel, by decide +kernel, turn_of_ok (by decide +kernel), rfl, turn_of_ok (by decide +kernel),
      by decide +kernel⟩

theorem test_meets_SignalWritesItsValue :
    CmdTurn (signalAt 1114104) 8 ∧
    State.pagesOk (withCmd (signalAt 1114104)) = true ∧
    State.memoryWf (withCmd (signalAt 1114104)) = true ∧
    (desc64 (descOfFields (signalAt 1114104)) 24 % 8 = 0 ∧ desc64 (descOfFields (signalAt 1114104)) 24 < 2 ^ 52) ∧
    (translate (withCmd (signalAt 1114104)) ctxA 1114104 true = some pageH ∧ pageH.target < 3) ∧
    (hostWaits (withCmd (signalAt 1114104)) ctxA 1114104 8 = false ∧ hostWaits (withCmd (signalAt 2097152)) ctxA 2097152 8 = false) ∧
    CmdTurn (signalAt 2097152) 8 ∧
    State.pagesOk (withCmd (signalAt 2097152)) = true ∧
    State.memoryWf (withCmd (signalAt 2097152)) = true ∧
    (desc64 (descOfFields (signalAt 2097152)) 24 % 8 = 0 ∧ desc64 (descOfFields (signalAt 2097152)) 24 < 2 ^ 52) ∧
    (translate (withCmd (signalAt 2097152)) ctxA 2097152 true = some pageB ∧ pageB.target < 3) ∧
    CmdTurn (signalAt 0x110000) 8 ∧
    translate (withCmd (signalAt 0x110000)) ctxA 0x110000 true = none :=
  ⟨turn_of_ok (by decide +kernel), by decide +kernel, by decide +kernel, by decide +kernel, by decide +kernel, by decide +kernel,
      turn_of_ok (by decide +kernel), by decide +kernel, by decide +kernel, by decide +kernel, by decide +kernel, turn_of_ok (by decide +kernel),
      by decide +kernel⟩

theorem test_meets_SlotsPagesAndNudges_1 :
    (seeHost (slot 69 5) served).queue? 1 = some idleQueue ∧
    (queueServed (seeHost (slot 69 5) served) idleQueue = true ∧ readsSlot (seeHost (slot 69 5) served) idleQueue = true) ∧
    slotAddr (seeHost (slot 69 5) served) idleQueue = 0x10000 ∧
    (countFrom 5 (leNat (memReadN (seeHost (slot 69 5) served).host 0x10000 4)) = 69 ∧
        countFrom 5 (leNat (memReadN (seeHost (slot 69 5) served).host 0x10004 4)) = 5) ∧
    69 - 5 ≤ 2 ^ idleQueue.sizeLog2 ∧
    cqFull { idleQueue with cqHead := 5 } = false ∧
    (seeHost (slot 69 5) (inFault served)).queue? 1 = some idleQueue ∧
    (queueServed (seeHost (slot 69 5) (inFault served)) idleQueue = true ∧
        readsSlot (seeHost (slot 69 5) (inFault served)) idleQueue = true) ∧
    slotAddr (seeHost (slot 69 5) (inFault served)) idleQueue = 0x10000 ∧
    countFrom 5 (leNat (memReadN (seeHost (slot 70 5) served).host 0x10000 4)) = 70 ∧
    (seeHost (slot 5 5) served).queue? 1 = some idleQueue ∧
    (queueServed (seeHost (slot 5 5) served) idleQueue = true ∧ readsSlot (seeHost (slot 5 5) served) idleQueue = true) ∧
    slotAddr (seeHost (slot 5 5) served) idleQueue = 0x10000 ∧
    countFrom 5 (leNat (memReadN (seeHost (slot 5 5) served).host 0x10000 4)) = 5 := by
  and_intros <;> decide +kernel

theorem test_meets_SlotsPagesAndNudges_2 :
    (State.queue? withMoved 1 = some moved ∧ moved.num = 1 ∧ queueServed withMoved moved = true ∧ moved.head ≠ moved.headOut) ∧
    (moved.coalTime ≠ 0 ∧ moved.pendInt ≠ 0) ∧
    (barUp withMoved (queueFn withMoved moved) = true ∧ moved.stopped = false ∧ moved.sleeping = true ∧
        withMoved.mod.mstate ≠ .fault) :=
  ⟨by decide +kernel, by decide +kernel, by decide +kernel⟩

theorem test_meets_SlotsPagesAndNudges_3 :
    (fspAddr dirty.funcs[(0 : Fin 64)] = some 0x9000 ∧ dirty.funcs[(0 : Fin 64)].dirty = true ∧ hostOk dirty 0 0x9000 4096 = true) ∧
    (State.ctx? dirty 1 = some { ctxA with dirty := true } ∧ ctxA.cspOn = true ∧ hostOk dirty ctxA.owner ctxA.csp 4096 = true) :=
  ⟨by decide +kernel, by decide +kernel⟩

theorem test_meets_DescriptorIsAdmitted :
    (seeHost (ringOf [(4, 4, 9)]) wantsOne).queue? 1 = some waiting ∧
    State.ctx? wantsOne 1 = some ctxA ∧
    (mayAdmit (seeHost (ringOf [(4, 4, 9)]) wantsOne) waiting = true ∧ inLine (seeHost (ringOf [(4, 4, 9)]) wantsOne) waiting = true) ∧
    descOf (memReadN (seeHost (ringOf [(4, 4, 9)]) wantsOne).host (waiting.ring + 64 * (5 % 64)) 64) = descOfFields [(4, 4, 9)] ∧
    (waiting.head + 1 - waiting.headOut < 16 ∧ waiting.doomed = []) ∧
    admitCheck (descOfFields [(4, 4, 9)]) waiting ctxA = none ∧
    (seeHost (ringOf [(4, 4, 9)]) (inFault wantsOne)).queue? 1 = some waiting ∧
    State.ctx? (inFault wantsOne) 1 = some ctxA ∧
    (mayAdmit (seeHost (ringOf [(4, 4, 9)]) (inFault wantsOne)) waiting = true ∧
        inLine (seeHost (ringOf [(4, 4, 9)]) (inFault wantsOne)) waiting = true) ∧
    descOf (memReadN (seeHost (ringOf [(4, 4, 9)]) (inFault wantsOne)).host (waiting.ring + 64 * (5 % 64)) 64) = descOfFields [(4, 4, 9)] ∧
    (waiting.head + 1 - waiting.headOut < 16 ∧ waiting.doomed = []) ∧
    admitCheck (descOfFields [(4, 4, 9)]) waiting ctxA = none ∧
    (seeHost (ringOf [(0, 1, 8)]) (inFault wantsOne)).queue? 1 = some waiting ∧
    State.ctx? (inFault wantsOne) 1 = some ctxA ∧
    (mayAdmit (seeHost (ringOf [(0, 1, 8)]) (inFault wantsOne)) waiting = true ∧
        inLine (seeHost (ringOf [(0, 1, 8)]) (inFault wantsOne)) waiting = true) ∧
    descOf (memReadN (seeHost (ringOf [(0, 1, 8)]) (inFault wantsOne)).host (waiting.ring + 64 * (5 % 64)) 64) = descOfFields [(0, 1, 8)] ∧
    (waiting.head + 1 - waiting.headOut < 16 ∧ waiting.doomed = []) ∧
    admitCheck (descOfFields [(0, 1, 8)]) waiting ctxA = none ∧
    (seeHost (ringOf [(0, 1, 14)]) wantsOne).queue? 1 = some waiting ∧
    State.ctx? wantsOne 1 = some ctxA ∧
    (mayAdmit (seeHost (ringOf [(0, 1, 14)]) wantsOne) waiting = true ∧ inLine (seeHost (ringOf [(0, 1, 14)]) wantsOne) waiting = true) ∧
    descOf (memReadN (seeHost (ringOf [(0, 1, 14)]) wantsOne).host (waiting.ring + 64 * (5 % 64)) 64) = descOfFields [(0, 1, 14)] ∧
    (waiting.head + 1 - waiting.headOut < 16 ∧ waiting.doomed = []) ∧
    operandSpans 14 = none ∧
    (seeHost (ringOf [(0, 1, 7), (16, 1, 2)]) wantsOne).queue? 1 = some waiting ∧
    State.ctx? wantsOne 1 = some ctxA ∧
    (mayAdmit (seeHost (ringOf [(0, 1, 7), (16, 1, 2)]) wantsOne) waiting = true ∧
        inLine (seeHost (ringOf [(0, 1, 7), (16, 1, 2)]) wantsOne) waiting = true) ∧
    descOf (memReadN (seeHost (ringOf [(0, 1, 7), (16, 1, 2)]) wantsOne).host (waiting.ring + 64 * (5 % 64)) 64) = descOfFields [(0, 1, 7),
        (16, 1, 2)] ∧
    (waiting.head + 1 - waiting.headOut < 16 ∧ waiting.doomed = []) ∧
    (∃ spans, operandSpans 7 = some spans ∧ rangesOk 7 (descOfFields [(0, 1, 7), (16, 1, 2)]) = false) ∧
    (seeHost (ringOf [(0, 1, 0x42), (19, 1, 6)]) wantsOne).queue? 1 = some waiting ∧
    State.ctx? wantsOne 1 = some ctxA ∧
    (mayAdmit (seeHost (ringOf [(0, 1, 0x42), (19, 1, 6)]) wantsOne) waiting = true ∧
        inLine (seeHost (ringOf [(0, 1, 0x42), (19, 1, 6)]) wantsOne) waiting = true) ∧
    descOf (memReadN (seeHost (ringOf [(0, 1, 0x42), (19, 1, 6)]) wantsOne).host (waiting.ring + 64 * (5 % 64)) 64) = descOfFields [(0, 1, 0x42),
        (19, 1, 6)] ∧
    (waiting.head + 1 - waiting.headOut < 16 ∧ waiting.doomed = []) ∧
    opAllowed 0x42 (waiting.num == 0) (ctxA.owner == 0) = false ∧
    (∃ spans, operandSpans 0x42 = some spans ∧ reservedOk (descOfFields [(0, 1, 0x42), (19, 1, 6)]) spans = true ∧
        rangesOk 0x42 (descOfFields [(0, 1, 0x42), (19, 1, 6)]) = true) ∧
    (seeHost (ringOf [(0, 1, 8)]) (withCtx .revoked)).queue? 1 = some waiting ∧
    State.ctx? (withCtx .revoked) 1 = some { ctxA with st := .revoked } ∧
    (mayAdmit (seeHost (ringOf [(0, 1, 8)]) (withCtx .revoked)) waiting = true ∧
        inLine (seeHost (ringOf [(0, 1, 8)]) (withCtx .revoked)) waiting = true) ∧
    descOf (memReadN (seeHost (ringOf [(0, 1, 8)]) (withCtx .revoked)).host (waiting.ring + 64 * (5 % 64)) 64) = descOfFields [(0, 1, 8)] ∧
    (waiting.head + 1 - waiting.headOut < 16 ∧ waiting.doomed = []) ∧
    (∃ spans, operandSpans 8 = some spans ∧ reservedOk (descOfFields [(0, 1, 8)]) spans = true ∧ rangesOk 8 (descOfFields [(0, 1, 8)]) = true) ∧
    (seeHost (ringOf [(0, 1, 8)]) (withCtx .faulted)).queue? 1 = some waiting ∧
    State.ctx? (withCtx .faulted) 1 = some { ctxA with st := .faulted } ∧
    (mayAdmit (seeHost (ringOf [(0, 1, 8)]) (withCtx .faulted)) waiting = true ∧
        inLine (seeHost (ringOf [(0, 1, 8)]) (withCtx .faulted)) waiting = true) ∧
    descOf (memReadN (seeHost (ringOf [(0, 1, 8)]) (withCtx .faulted)).host (waiting.ring + 64 * (5 % 64)) 64) = descOfFields [(0, 1, 8)] ∧
    (waiting.head + 1 - waiting.headOut < 16 ∧ waiting.doomed = []) := by
  and_intros <;> decide +kernel

theorem test_meets_CompletionRecordsAreWrittenInOrder_1 :
    (State.queue? doneS 1 = some (queueA doneE) ∧ (queueA doneE).entry? 64 = some doneE ∧ doneE.st = .finished) ∧
    queueServed doneS (queueA doneE) = true ∧
    ((queueA doneE).recs - (queueA doneE).cqHead < 2 ^ 6 ∧ Memory.wf doneS.host = true) :=
  ⟨by decide +kernel, by decide +kernel, by decide +kernel⟩

theorem test_meets_CompletionRecordsAreWrittenInOrder_2 :
    (State.queue? { live with queues := [fullQueue] } 1 = some fullQueue ∧ 2 ^ fullQueue.sizeLog2 ≤ fullQueue.recs - fullQueue.cqHead) ∧
    ((withCmd []).queue? 1 = some (queueA (cmd [])) ∧ ∀ e, (queueA (cmd [])).entry? 5 = some e → e.st ≠ .finished) :=
  ⟨by decide +kernel, ⟨by decide +kernel, fun _ h => by cases h; decide⟩⟩

theorem test_meets_ContextsAndQueuesComeAndGo_1 :
    AdminTurn [(0, 1, 64), (18, 1, 1), (19, 1, 3), (20, 4, 9), (24, 8, 20480), (32, 8, 24576)] 64 ∧
    (desc16 (descOfFields [(0, 1, 64), (18, 1, 1), (19, 1, 3), (20, 4, 9), (24, 8, 20480), (32, 8, 24576)]) 16 = (0 : Fin 64).val ∧
        live.funcs[(0 : Fin 64)].enabled = true) ∧
    freeNumber 0 1024 (live.ctxs.map (·.num)) = some 2 ∧
    AdminTurn [(0, 1, 64), (16, 2, 63), (19, 1, 3)] 64 ∧
    (desc16 (descOfFields [(0, 1, 64), (16, 2, 63), (19, 1, 3)]) 16 = (63 : Fin 64).val ∧ live.funcs[(63 : Fin 64)].enabled = false) ∧
    AdminTurn [(0, 1, 66), (16, 2, 9), (19, 1, 6)] 66 ∧
    live.ctx? 9 = none ∧
    AdminTurn2 [(0, 1, 66), (16, 2, 1), (18, 1, 63), (19, 1, 16), (20, 2, 5), (22, 1, 2), (23, 1, 4), (24, 8, 28672), (32, 8, 32768), (40, 2, 1)] 66 ∧
    (live.ctx? 1 = some ctxA ∧ freeNumber 1 4096 [0, 1] = some 2) ∧
    (([queueZ (cmd [(0, 1, 66), (16, 2, 1), (18, 1, 63), (19, 1, 16), (20, 2, 5), (22, 1, 2), (23, 1, 4), (24, 8, 28672), (32, 8, 32768),
        (40, 2, 1)]), idleQueue].any fun q => q.ctx == ctxA.num && q.slot == 63) = false) ∧
    hostOk live ctxA.owner (ctxA.dbPage + 64 * 63) 64 = true ∧
    AdminTurn2 [(0, 1, 66), (16, 2, 1), (18, 1, 0), (19, 1, 6)] 66 ∧
    (([queueZ (cmd [(0, 1, 66), (16, 2, 1), (18, 1, 0), (19, 1, 6)]), idleQueue].any fun q => q.ctx == ctxA.num && q.slot == 0) = true) :=
  ⟨turn_of_ok (by decide +kernel), by decide +kernel, by decide +kernel, turn_of_ok (by decide +kernel), by decide +kernel,
      turn_of_ok (by decide +kernel), by decide +kernel, turn_of_ok (by decide +kernel), by decide +kernel, by decide +kernel, by decide +kernel,
      turn_of_ok (by decide +kernel), by decide +kernel⟩

/-- A command of the admin queue beside queue 1. -/
def beside (e : Entry) (q : Queue) : State :=
  { live with admin := { en := true, running := true }, queues := [queueZ e, q] }
def begunZ (l : List (Nat × Nat × Nat)) : Entry := { cmd l with st := .begun }
abbrev BesideTurn (e : Entry) (q : Queue) (op : Nat) : Prop := Turn (beside e q) op 0 5 (queueZ e) Ctx.zero e

theorem test_meets_ContextsAndQueuesComeAndGo_2 :
    AdminTurn [(0, 1, 67)] 67 ∧
    BesideTurn (begunZ [(0, 1, 67), (16, 2, 1)]) idleQueue 67 ∧
    ((beside (begunZ [(0, 1, 67), (16, 2, 1)]) idleQueue).queue? 1 = some idleQueue ∧ idleQueue.num ≠ 0 ∧ queueDrained idleQueue = true) ∧
    BesideTurn (begunZ [(0, 1, 67), (16, 2, 1)]) busyQueue 67 ∧
    ((beside (begunZ [(0, 1, 67), (16, 2, 1)]) busyQueue).queue? 1 = some busyQueue ∧ queueDrained busyQueue = false) ∧
    BesideTurn (cmd [(0, 1, 67), (16, 2, 1)]) { idleQueue with tail := 6 } 67 ∧
    ((beside (cmd [(0, 1, 67), (16, 2, 1)]) { idleQueue with tail := 6 }).queue? 1 = some { idleQueue with tail := 6 } ∧
      (cmd [(0, 1, 67), (16, 2, 1)]).st ≠ .begun ∧ idleQueue.head < 6 ∧ idleQueue.stopped = false ∧ idleQueue.ringLost = false) ∧
    AdminTurn [(0, 1, 65)] 65 ∧
    BesideTurn (begunZ [(0, 1, 65), (16, 2, 1)]) idleQueue 65 ∧
    ((beside (begunZ [(0, 1, 65), (16, 2, 1)]) idleQueue).ctx? 1 = some ctxA ∧ ctxA.num ≠ 0 ∧
      (beside (begunZ [(0, 1, 65), (16, 2, 1)]) idleQueue).queues.all (fun q => q.ctx != 1 || queueDrained q) = true ∧
      (beside (begunZ [(0, 1, 65), (16, 2, 1)]) idleQueue).reqs = []) :=
  ⟨turn_of_ok (by decide +kernel), turn_of_ok (by decide +kernel), by decide +kernel, turn_of_ok (by decide +kernel), by decide +kernel,
    turn_of_ok (by decide +kernel), by decide +kernel, turn_of_ok (by decide +kernel), turn_of_ok (by decide +kernel), by decide +kernel⟩

theorem test_meets_PagesPrioritiesAndCancellation_1 :
    (State.ctx? (withAdmin [(0, 1, 68), (16, 2, 1), (18, 1, 48), (20, 4, 2), (24, 8, 1179648),
        (32, 8, 524288)]) (desc16 (descOfFields [(0, 1, 68), (16, 2, 1), (18, 1, 48), (20, 4, 2), (24, 8, 1179648),
        (32, 8, 524288)]) 16) = some ctxA ∧
        ctxA.num = desc16 (descOfFields [(0, 1, 68), (16, 2, 1), (18, 1, 48), (20, 4, 2), (24, 8, 1179648), (32, 8, 524288)]) 16) ∧
    AdminTurn [(0, 1, 68), (16, 2, 1), (18, 1, 48), (20, 4, 2), (24, 8, 1179648), (32, 8, 524288)] 68 ∧
    ((descPages (descOfFields [(0, 1, 68), (16, 2, 1), (18, 1, 48), (20, 4, 2), (24, 8, 1179648),
        (32, 8, 524288)])).all (fun p => !mapFault (withAdmin [(0, 1, 68), (16, 2, 1), (18, 1, 48), (20, 4, 2), (24, 8, 1179648),
        (32, 8, 524288)]) ctxA p) = true ∧
        descByte (descOfFields [(0, 1, 68), (16, 2, 1), (18, 1, 48), (20, 4, 2), (24, 8, 1179648), (32, 8, 524288)]) 18 / 2 % 4 < 2) ∧
    poolUsed (withAdmin [(0, 1, 68), (16, 2, 1), (18, 1, 48), (20, 4, 2), (24, 8, 1179648),
        (32, 8, 524288)]) + ((needTables ctxA (descPages (descOfFields [(0, 1, 68), (16, 2, 1), (18, 1, 48), (20, 4, 2), (24, 8, 1179648),
        (32, 8, 524288)]))).map fun t => tableSize t.1).foldl (· + ·) 0 ≤ 2 ^ 32 ∧
    AdminTurn [(0, 1, 68), (16, 2, 1), (18, 1, 48), (20, 4, 2), (24, 8, 983040), (32, 8, 524288)] 68 ∧
    ((descPages (descOfFields [(0, 1, 68), (16, 2, 1), (18, 1, 48), (20, 4, 2), (24, 8, 983040),
        (32, 8, 524288)])).find? (mapFault (withAdmin [(0, 1, 68), (16, 2, 1), (18, 1, 48), (20, 4, 2), (24, 8, 983040),
        (32, 8, 524288)]) ctxA)).map (·.dva) = some 0x100000 ∧
    AdminTurn [(0, 1, 69), (16, 2, 1), (20, 4, 2), (24, 8, 1048576)] 69 ∧
    ((descPages (descOfFields [(0, 1, 69), (16, 2, 1), (20, 4, 2), (24, 8, 1048576)])).all (isMapped ctxA) = true ∧
        reqUnder (withAdmin [(0, 1, 69), (16, 2, 1), (20, 4, 2),
            (24, 8, 1048576)]) 1 (descPages (descOfFields [(0, 1, 69), (16, 2, 1), (20, 4, 2), (24, 8, 1048576)])) = false) ∧
    AdminTurn [(0, 1, 69), (16, 2, 1), (20, 4, 3), (24, 8, 1048576)] 69 ∧
    (((descPages (descOfFields [(0, 1, 69), (16, 2, 1), (20, 4, 3),
        (24, 8, 1048576)])).find? (fun p => !isMapped ctxA p)).map (·.dva) = some 0x120000) :=
  ⟨by decide +kernel, turn_of_ok (by decide +kernel), by decide +kernel, by decide +kernel, turn_of_ok (by decide +kernel), by decide +kernel,
      turn_of_ok (by decide +kernel), by decide +kernel, turn_of_ok (by decide +kernel), by decide +kernel⟩

theorem test_meets_PagesPrioritiesAndCancellation_2 :
    AdminTurn2 [(0, 1, 71), (18, 2, 1), (20, 1, 2)] 71 ∧
    State.queue? (withAdmin2 [(0, 1, 71), (18, 2, 1), (20, 1, 2)]) 1 = some idleQueue ∧
    AdminTurn [(0, 1, 71), (16, 1, 1), (18, 2, 1), (20, 1, 255)] 71 ∧
    State.ctx? (withAdmin [(0, 1, 71), (16, 1, 1), (18, 2, 1), (20, 1, 255)]) 1 = some ctxA ∧
    AdminTurn [(0, 1, 72)] 72 ∧
    AdminTurn2 [(0, 1, 72), (16, 2, 1), (18, 1, 1)] 72 ∧
    (State.queue? (withAdmin2 [(0, 1, 72), (16, 2, 1), (18, 1, 1)]) 1 = some idleQueue ∧
        cancelNames (descOfFields [(0, 1, 72), (16, 2, 1), (18, 1, 1)]) idleQueue = [] ∧ idleQueue.stopped = false ∧ ctxA.st ≠ .faulted) ∧
    Turn { live with admin := { en := true, running := true }, queues := [queueZ { cmd [(0, 1, 72), (16, 2, 1), (18, 1, 1)] with st := .begun }, idleQueue], cancelling := some { seq := 5, q := 1, named := [], count := 3 } } 72 0 5 (queueZ { cmd [(0, 1, 72), (16, 2, 1), (18, 1, 1)] with st := .begun }) Ctx.zero { cmd [(0, 1, 72), (16, 2, 1), (18, 1, 1)] with st := .begun } ∧
    State.cancelling ({ live with admin := { en := true, running := true }, queues := [queueZ { cmd [(0, 1, 72), (16, 2, 1), (18, 1, 1)] with st := .begun }, idleQueue], cancelling := some { seq := 5, q := 1, named := [], count := 3 } }) = some { seq := 5, q := 1, named := [], count := 3 } :=
  ⟨turn_of_ok (by decide +kernel), by decide +kernel, turn_of_ok (by decide +kernel), by decide +kernel, turn_of_ok (by decide +kernel),
      turn_of_ok (by decide +kernel), by decide +kernel, turn_of_ok (by decide +kernel), by decide +kernel⟩

theorem test_meets_PartitionsAndSpools_1 :
    TurnOn live (part 0 0 254 2 0 0) 70 ∧
    partOk live (part 0 0 254 2 0 0) (fun _ d l => (partUnits d).all fun u => unitOwner l u == none || unitOwner l u == some 1) = true ∧
    TurnOn ownS (part 0 0 7 1 0 0) 70 ∧ partOk ownS (part 0 0 7 1 0 0) (fun _ d l => partUnits d == [7] && unitOwner l 7 == some 2) = true ∧
    TurnOn ownS (part 0 1 8 1 0 0) 70 ∧
    partOk ownS (part 0 1 8 1 0 0) (fun t d l => (partUnits d).all fun u => unitOwner l u == some 1 && !unitInUse t 0 u 1) = true ∧
    TurnOn live (part 2 1 1 1 0 0) 70 ∧ partOk live (part 2 1 1 1 0 0) (fun t d _ => partUnits d == [1] && unitInUse t 2 1 1) = true ∧
    TurnOn ownS (part 0 2 7 1 0 0) 70 ∧ partOk ownS (part 0 2 7 1 0 0) (fun _ d l => partUnits d == [7] && unitOwner l 7 == some 2) = true ∧
    (scrubS.scrubs = [{ seq := some 5, kind := 2, unit := 3, from_ := none, to_ := some 1 }] ∧
      scrubWaits scrubS { seq := some 5, kind := 2, unit := 3, from_ := none, to_ := some 1 } = false ∧ scrubS.sec.window ≠ some 21) :=
  ⟨turn_of_ok (by decide +kernel), by decide +kernel, turn_of_ok (by decide +kernel), by decide +kernel, turn_of_ok (by decide +kernel),
    by decide +kernel, turn_of_ok (by decide +kernel), by decide +kernel, turn_of_ok (by decide +kernel), by decide +kernel,
    by decide +kernel⟩

/-- A write in progress ends beyond one unit. -/
def endS : State :=
  { xactS 0 with
    ctxs := live.ctxs
    vault := { (xactS 0).vault with
      spools := [libS [7, 7]], free := 9
      writes := [{ q := 1, seq := 5, spool := 7, off := 2 ^ 26, len := 1, data := [], space := 0, copies := 0 }] } }

theorem test_meets_PartitionsAndSpools_2 :
    vaultRefuses spoolsS = false ∧
    TurnOn spoolsS (part 3 3 0 1 10 77) 70 ∧ freeNumber 1 4096 (spoolsS.vault.spools.map (·.id)) = some 1 ∧
    desc32 (descOfFields (part 3 3 0 1 10 77)) 28 ≤ spoolsS.vault.free ∧
    TurnOn spoolsS (part 3 4 2 1 13 0) 70 ∧ (spoolsS.spool? 2 = some spoolA ∧ spoolA.ctx = some 1 ∧ spoolA.length ≤ 13 * 2 ^ 26 ∧
      desc32 (descOfFields (part 3 4 2 1 13 0)) 28 ≤ spoolA.size + spoolsS.vault.free) ∧
    TurnOn endS (part 3 4 7 1 1 0) 70 ∧ (endS.spool? 7 = some (libS [7, 7]) ∧ (libS [7, 7]).length ≤ 1 * 2 ^ 26 ∧
      (endS.vault.writes.any fun w => w.spool == 7 && decide (2 ^ 26 < w.off + w.len)) = true) ∧
    TurnOn spoolsS (part 3 4 2 1 14 0) 70 ∧ spoolA.size + spoolsS.vault.free < desc32 (descOfFields (part 3 4 2 1 14 0)) 28 ∧
    TurnOn spoolsS (part 3 5 2 1 0 0) 70 ∧ spoolBusy spoolsS 2 = false ∧
    TurnOn { xactS 0 with ctxs := live.ctxs } (part 3 5 7 1 0 0) 70 ∧ spoolBusy (xactS 0) 7 = true ∧
    TurnOn spoolsS (part 3 6 3 1 0 7) 70 ∧ (spoolsS.spool? 3 = some { spoolA with id := 3, ctx := none } ∧
      spoolA.label = desc64 (descOfFields (part 3 6 3 1 0 7)) 32 ∧ spoolA.fn = ctxA.owner.val) :=
  ⟨by decide +kernel, turn_of_ok (by decide +kernel), by decide +kernel, by decide +kernel, turn_of_ok (by decide +kernel), by decide +kernel,
    turn_of_ok (by decide +kernel), by decide +kernel,
    turn_of_ok (by decide +kernel), by decide +kernel, turn_of_ok (by decide +kernel), by decide +kernel, turn_of_ok (by decide +kernel),
    by decide +kernel, turn_of_ok (by decide +kernel), by decide +kernel⟩

theorem test_meets_PfInterruptsAndMsix_1 :
    intOpen (withInt 0x401 0x1) 0 = true ∧
    (0x400#11) &&& ~~~(0x401#11) = 0 ∧
    (intOpen (withInt 0 0x7FF) 0 = true ∧ (0x400#11) &&& ~~~(0#11) &&& 0x7FF ≠ 0) ∧
    (intOpen (withInt 0 0) 0 = true ∧ (0x400#11) &&& ~~~(0#11) &&& 0 = 0) ∧
    (intOpen (withInt 1 0) 0 = true ∧ (1#11) &&& ~~~(0#11) &&& 1 ≠ 0) ∧
    (intOpen (withInt 1 1) 0 = true ∧ (1#11) &&& ~~~(1#11) &&& 1 = 0) := by
  and_intros <;> decide +kernel

theorem test_meets_PfInterruptsAndMsix_2 :
    ((withMsix false []).funcs[(0 : Fin 64)].maskedVec 2047 = false ∧
        hostOk (withMsix false []) 0 ((withMsix false []).funcs[(0 : Fin 64)].vector 2047).addr.toNat 4 = true) ∧
    ((withMsix true []).funcs[(0 : Fin 64)].maskedVec 2047 = true) ∧
    (barUp (withMsix true [2047]) 0 = true ∧ 2047 < vectorCount 0 ∧ (withMsix true [2047]).funcs[(0 : Fin 64)].fnMask = false ∧
        hostOk (withMsix true [2047]) 0 ((withMsix true [2047]).funcs[(0 : Fin 64)].vector 2047).addr.toNat 4 = true ∧
            (withMsix true [2047]).funcs[(0 : Fin 64)].pba = [2047]) :=
  ⟨by decide +kernel, by decide +kernel, by decide +kernel⟩

theorem test_meets_VfInterruptBitsStayInTheMask :
    live.vfIntOk = true := by decide +kernel

theorem test_meets_AdminQueueAndClearingReads_1 :
    (pfOpen (withAq false) 0x1000 = true ∧ (withAq false).admin.running = false ∧ (BitVec.ofNat 32 329217).toNat / 2 ^ 8 % 32 = 6 ∧
        (withAq false).ctx? 0 = some Ctx.zero ∧ hostOk (withAq false) 0 (pair (withAq false).admin.dbLo (withAq false).admin.dbHi) 64 = true) ∧
    (pfOpen (withAq false) 0x1000 = true ∧ (withAq false).admin.running = false ∧ (BitVec.ofNat 32 331777).toNat / 2 ^ 8 % 32 = 16 ∧
        (withAq false).ctx? 0 = some Ctx.zero ∧ hostOk (withAq false) 0 (pair (withAq false).admin.dbLo (withAq false).admin.dbHi) 64 = true) ∧
    (pfOpen (withAq true) 0x1000 = true ∧ (withAq true).admin.running = true ∧ (withAq true).queue? 0 = some Queue.zero) :=
  ⟨by decide +kernel, by decide +kernel, by decide +kernel⟩

theorem test_meets_AdminQueueAndClearingReads_2 :
    (counted.link.cfgUp = true ∧ linkUsable counted = true ∧ counted.sec.recovery = false ∧ counted.funcs[(0 : Fin 64)].d3 = false ∧
        counted.mod.mstate ≠ .fault ∧ (2 : Nat) ≠ 0 ∧ 0x40006 / 4 * 4 = 0x40004 ∧ 0x30014 / 4 * 4 = 0x30014 ∧ 0x4B / 4 * 4 = 0x48) ∧
    (linkUsable inD3 = true ∧ inD3.funcs[(0 : Fin 64)].d3 = true) :=
  ⟨by decide +kernel, by decide +kernel⟩

theorem test_meets_RegisterWritesSetTheirFields_1 :
    (barUp live 0 = true ∧ live.mod.mstate ≠ .fault ∧ live.admin.running = false) ∧
    (withAq true).admin.running = true ∧
    ((0xFFFFFFFD#32).toNat % 8 = 5 ∧ 5 < (0xFFFFFFFE#32).toNat % 8 ∧ live.mod.rails = true ∧ live.mod.perst = false) ∧
    (({ live with mod := { live.mod with rails := false } } : State).mod.rails = false) := by
  and_intros <;> decide +kernel

theorem test_meets_RegisterWritesSetTheirFields_2 :
    (pfOpen { live with mod := { live.mod with mstate := .calibrating } } 0x40 = true ∧ (0xB1#32).toNat % 4 = 1) ∧
    (pfOpen live 0x40 = true ∧ (0xF0#32).toNat % 4 ≠ 1 ∧ (0xF0#32).toNat % 4 ≠ 3 ∧ (0xF0#32).toNat / 16 % 16 = 15) ∧
    ((0xB1#32).toNat % 4 = 1 ∧ (0xB1#32).toNat / 16 % 16 = (11 : Fin 12).val ∧ live.mod.mstate = .ready ∧ reserveFit live 11 = true ∧
        live.tailor.reserveNow ≠ some 11) :=
  ⟨by decide +kernel, by decide +kernel, by decide +kernel⟩

theorem test_meets_ResetAndStartOfTheTimeline_1 :
    60 ≤ 60 := by decide +kernel

theorem test_meets_ResetAndStartOfTheTimeline_2 :
    State.reset.mod.perst = true ∧ State.reset.mod.auxOn = true ∧ State.reset.mod.mainOn = true ∧ State.reset.mod.thermtrip = false ∧
        chooseSlot (moduleReset { State.reset with mod := { State.reset.mod with perst := false } }) none = some (0, false) ∧
        slotDigest true false 0 = true := by decide +kernel

theorem test_meets_ResetAndStartOfTheTimeline_3 :
    offS.mod.perst = false ∧ offS.power.current = .off ∧ offS.mod.auxOn = true ∧ offS.mod.mainOn = true ∧ offS.mod.thermtrip = false ∧
        chooseSlot (moduleReset offS) none = some (0, false) ∧ 99 < 100 ∧ 100 ≤ 100 := by decide +kernel

theorem test_meets_LinkTrainingConfigurationAndD3hot_1 :
    (live.mod.rails = true ∧ live.mod.perst = false ∧ live.mod.mstate ≠ .powerup ∧ live.sec.recovery = false) ∧
    ((training 6 254).link.training = true ∧ (training 6 254).link.speed = 6 ∧ (training 6 254).link.width = 8) ∧
    ((training 6 254).link.speed ≠ 0 ∧ (training 6 254).link.speed ≠ 5 ∧ (training 6 254).link.retrains < 255) ∧
    linkUsable live = true := by
  and_intros <;> decide +kernel

theorem test_meets_LinkTrainingConfigurationAndD3hot_2 :
    (linkUsable early = true ∧ early.link.cfgUp = false ∧ 79 < 80) ∧
    ((63 : Fin 64) ≠ 0 ∧ withVf.funcs[(63 : Fin 64)].enabled = true ∧ live.funcs[(63 : Fin 64)].enabled = false ∧
        withVf.link.cfgUp = true) ∧
    (cfgAccess 0 (.read 0x2C) live = { live with reply := .word (configWord live 0 0x2C) } ∧ cfgField live 5 .totalVfs = 63 ∧
        (cfgAccess 5 (.write (.pasid true)) live).funcs[(5 : Fin 64)].pasidEn = true ∧
        (cfgAccess 5 (.write (.msix true)) live).funcs[(5 : Fin 64)].fnMask = true ∧ live.funcs[(5 : Fin 64)].pba = []) ∧
    (vfD3.funcs[(63 : Fin 64)].d3 = true ∧ vfD3.queues = [Queue.zero] ∧ Queue.zero.sleeping = false ∧ Queue.zero.cqWait = false ∧
        vfD3.funcs[(63 : Fin 64)].pba = [] ∧ vfD3.works = []) :=
  ⟨by decide +kernel, by decide +kernel, ⟨rfl, by decide +kernel, by decide +kernel, by decide +kernel, by decide +kernel⟩, by decide +kernel⟩

theorem test_meets_FunctionsResetAndAppear_1 :
    ((63 : Fin 64) ≠ 0 ∧ vfCtx.funcs[(63 : Fin 64)].enabled = true ∧ vfCtx.link.vfEnable = true) ∧
    (live.link.cfgUp = true ∧ linkUsable live = true ∧ live.link.vfEnable = false) :=
  ⟨by decide +kernel, by decide +kernel⟩

theorem test_meets_FunctionsResetAndAppear_2 :
    linkUsable placed = true ∧ placed.link.cfgUp = true ∧
    (linkUsable stagingS = true ∧ stagingS.link.cfgUp = true ∧ stagingS.sec.cmd = .stage (srcB 2 false) true) ∧
    (linkUsable (subS 3000 false) = true ∧ (subS 3000 false).sec.submit = some 0xAB) :=
  ⟨by decide +kernel, by decide +kernel, ⟨by decide +kernel, by decide +kernel, rfl⟩, by decide +kernel⟩

theorem test_meets_AtsDoeAndIde_1 :
    (barUp withAtc 0 = true ∧ withAtc.funcs[(0 : Fin 64)].ats = true ∧ withAtc.works = [] ∧ withAtc.link.xlats = [] ∧
        (2, 0x9000, true, true) ∈ withAtc.funcs[(0 : Fin 64)].atc ∧ 2 * 4096 + 4096 ≤ 0x3000) ∧
    (withInv.funcs[(0 : Fin 64)].invs = [(0x2000, 0x1000, [])] ∧ stillOut withInv [] = false) :=
  ⟨by decide +kernel, by decide +kernel⟩

theorem test_meets_AtsDoeAndIde_2 :
    (live.link.cfgUp = true ∧ linkUsable live = true) ∧
    (withIde.link.ide = [{ id := 1, keys := [], secure := true, insecure := false }] ∧
        withIde.queues.all (fun q => q.entries.all fun e => e.op != 1) = true) :=
  ⟨by decide +kernel, by decide +kernel⟩

/-- An invalidation waits for the request under it. -/
def invWait : State :=
  { live with
    funcs := live.funcs.set 0 { enabled := true, invs := [(0x2000, 0x1000, [4])] }
    reqs := [{ id := 4, q := 1, seq := 5, ctx := 1, dva := 0x100000, off := 0, len := 16, target := 0, addr := 0x2000, demand := true }] }

theorem test_meets_AtsDoeAndIde_3 :
    invWait.funcs[(0 : Fin 64)].invs = [(0x2000, 0x1000, [4])] ∧ stillOut invWait [4] = true := by decide +kernel

theorem test_meets_TripAndThermalRestart_1 :
    (warm.mod.auxOn = true ∧ warm.mod.thermtrip = false ∧ shutdownAt 0 ≤ shutdownAt (0 : Fin 282).val ∧
        warm.hk.sensors[(0 : Fin 282)].beyond = false) ∧
    (({ overOnce with mod := { overOnce.mod with thermtrip := true } } : State).hk.sensors[(281 : Fin 282)].beyond = true ∧
        ({ overOnce with mod := { overOnce.mod with thermtrip := true } } : State).mod.auxOn = true ∧ shutdownAt 281 < shutdownAt 281 + 1) ∧
    (overOnce.hk.sensors[(281 : Fin 282)].beyond = true ∧ overOnce.hk.sensors[(281 : Fin 282)].tripped = false ∧
        shutdownAt 281 < shutdownAt 281 + 1) :=
  ⟨by decide +kernel, by decide +kernel, by decide +kernel⟩

theorem test_meets_TripAndThermalRestart_2 :
    ((tripped false).mod.thermtrip = true ∧ (tripped false).mod.thermRestart = false) ∧
    coolEnough (tripped false).hk = true ∧
    coolEnough (tripped true).hk = true ∧
    ((tripped true).mod.thermRestart = true ∧ (tripped true).mod.perst = false ∧ (tripped true).mod.auxOn = true ∧
        (tripped true).mod.mainOn = true ∧ chooseSlot (moduleReset (tripped true)) none = some (0, false) ∧
        slotDigest true true 0 = true) :=
  ⟨by decide +kernel, cool _ rfl, cool _ rfl, by decide +kernel⟩

theorem test_meets_ThermalLimitFallsAndRises :
    worst (hkAt 7001 811 (some 0)) = some (252, 1) ∧
    (810 < (hkAt 7001 811 (some 0)).limit ∧ (hkAt 7001 811 (some 0)).lastFall = some 0 ∧ 10 ≤ 10 - 0) ∧
    worst (hkAt 6700 2699 (some 0)) = some (252, -300) ∧
    ((hkAt 6700 2699 (some 0)).relaxHold = false ∧ (hkAt 6700 2699 (some 0)).limit < 2700 ∧ (hkAt 6700 2699 (some 0)).lastChange = some 0 ∧
        100 ≤ 100 - 0) :=
  ⟨worst_of _ 7001 rfl _ (by decide +kernel), by decide +kernel, worst_of _ 6700 rfl _ (by decide +kernel), by decide +kernel⟩

theorem test_meets_ThermalLimitStaysInRange :
    810 ≤ live.hk.limit ∧ live.hk.limit ≤ 2700 := by decide +kernel

theorem test_meets_RoundsTileSafelightAndHoldup_1 :
    (roundsRun warm = true ∧ warm.mod.rails = true ∧ warm.mod.perst = false ∧
        (List.finRange 12).all (fun t => !warm.tiles[t].slReturn) = true) ∧
    (∀ n : Fin 282, warm.hk.sensors[n].raw = some 4500 ∧ warm.hk.sensors[n].status = 0) ∧
    (∀ n, disagrees warm.hk n 4500 = false) ∧
    failedOne.hk.sensors[(7 : Fin 282)].failed = true ∧ 1000 ≤ failedOne.hk.sensors[(7 : Fin 282)].passed ∧
        warm.hk.sensors[(7 : Fin 282)].passed < 1000 :=
  ⟨by decide +kernel, by intro n; simp [warm, sensorsAt], agrees _ _ rfl, by decide +kernel⟩

theorem test_meets_RoundsTileSafelightAndHoldup_2 :
    (tslS.tiles[(11 : Fin 12)].safelight = true ∧ tslS.mod.mstate = .ready) ∧
    (∀ n, n < 282 → sensorTile n = some (11 : Fin 12).val → (tslS.hk.at n).failed = false) :=
  ⟨by decide +kernel, by
    intro n h _
    rw [sensorsAt_at tslS.hk 4500 rfl, if_pos h]; rfl⟩

theorem test_meets_MonitorConverters_1 :
    ((monOn {  }).hk.mon[(1 : Fin 2)].en = true ∧ (monOn {  }).hk.mon[(1 : Fin 2)].seqBusy = false ∧
        (monOn {  }).hk.mon[(1 : Fin 2)].conv = none) ∧
    (0x12F#32).getLsbD 8 = true ∧
    ((monOn { seqBusy := true, overlap := 0xFFFE, injDropped := 0xFFFE, conv := some (5, false, false), valid := true }).hk.mon[(1 : Fin 2)].en = true ∧
        (monOn { seqBusy := true, overlap := 0xFFFE, injDropped := 0xFFFE, conv := some (5, false, false), valid := true }).hk.mon[(1 : Fin 2)].seqBusy = true ∧
        (monOn { seqBusy := true, overlap := 0xFFFE, injDropped := 0xFFFE, conv := some (5, false, false), valid := true }).hk.mon[(1 : Fin 2)].overlap < 0xFFFF ∧
        (monOn { seqBusy := true, overlap := 0xFFFE, injDropped := 0xFFFE, conv := some (5, false, false), valid := true }).hk.mon[(1 : Fin 2)].injDropped < 0xFFFF ∧
        (monOn { seqBusy := true, overlap := 0xFFFE, injDropped := 0xFFFE, conv := some (5, false, false), valid := true }).hk.mon[(1 : Fin 2)].conv = some (5, false, false) ∧
        (monOn { seqBusy := true, overlap := 0xFFFE, injDropped := 0xFFFE, conv := some (5, false, false), valid := true }).hk.mon[(1 : Fin 2)].seqPos < (monOn { seqBusy := true, overlap := 0xFFFE, injDropped := 0xFFFE, conv := some (5, false, false), valid := true }).hk.mon[(1 : Fin 2)].seqLen) ∧
    ((monOn { conv := some (47, true, true) }).hk.mon[(1 : Fin 2)].en = true ∧
        (monOn { conv := some (47, true, true) }).hk.mon[(1 : Fin 2)].conv = some (47, true, true) ∧
        (monOn { conv := some (47, true, true) }).hk.mon[(1 : Fin 2)].seqBusy = false) := by
  and_intros <;> decide +kernel

theorem test_meets_MonitorConverters_2 :
    (live.mod.auxOn = true ∧ roundS.hk.refEn = true ∧ 100 ≤ roundS.hk.goodInRow ∧ roundsRun roundS = true ∧ roundS.mod.rails = true ∧
        roundS.hk.mon[0].en = true ∧ roundS.hk.mon[1].en = true ∧ roundS.hk.mon[0].seqBusy = false ∧ roundS.hk.mon[1].seqBusy = false) ∧
    12 < (((codesA 32771).getD 24 0 : Nat) - ((codesB 32758).getD 23 0 : Nat) : Int).natAbs ∧
    ((((codesA 32771).getD 24 0 : Nat) - ((codesB 32759).getD 23 0 : Nat) : Int).natAbs ≤ 12 ∧ roundS.hk.refSettled = true ∧
        roundS.hk.mon[0].valid = false ∧ roundS.hk.mon[1].valid = false ∧ roundS.hk.mon[0].overrun = false ∧
        roundS.hk.mon[1].overrun = false) :=
  ⟨by decide +kernel, by decide +kernel, by decide +kernel⟩

theorem test_meets_PowerTargetsCapsAndTransitions_1 :
    (pfOpen live 0x30000 = true ∧ pstateOf ((0xFF03#32).toNat % 8) = some .deep ∧ (0xFF03#32).toNat / 2 ^ 8 % 256 ≠ 0 ∧
        live.mod.served = true ∧ live.power.moving = none ∧ PState.deep ≠ live.power.current) ∧
    ((secS fun x => { x with window := some 19 }).sec.window = some 19 ∧ pstateOf ((0x0004#32).toNat % 8) = some .off) ∧
    (movingS.power.moving.isSome = true ∧ pfOpen movingS 0x30000 = true) ∧
    (pstateOf ((0x0007#32).toNat % 8) = none ∧ (0x0007#32).toNat / 2 ^ 8 % 256 = 0) ∧
    (pfOpen live 0x30008 = true ∧ 81 ≤ (81#32).toNat % 2 ^ 9 ∧ (270#32).toNat % 2 ^ 9 ≤ 270) ∧
    ((80#32).toNat % 2 ^ 9 < 81 ∧ 270 < (271#32).toNat % 2 ^ 9) := by
  and_intros <;> decide +kernel

/-- A work item runs while the module moves to DEEP. -/
def deepS : State :=
  { withEntry { cmd [(0, 1, 1)] with st := .begun } with
    power := { moving := some .deep }
    works := [{ q := 1, seq := 5, ctx := 1, pat := 0, k := 0, exps := [] }] }

theorem test_meets_PowerTargetsCapsAndTransitions_2 :
    ((moveS .idle none).power.moving = some .idle ∧ (moveS .idle none).power.pending = none) ∧
    (deepS.power.moving = some .deep ∧
        (deepS.works.any fun w => !itemEnded deepS w.q w.seq) = true) ∧
    (moveS .deep (some .run)).power.pending = some .run ∧
    ((moveS .off none).power.moving = some .off ∧ recordsDue (moveS .off none) = false) ∧
    (lastWrite.power.moving = some .off ∧ lastWrite.works.any Work.inWriteOut = true) := by
  and_intros <;> decide +kernel

theorem test_meets_DomainsAndInputs_1 :
    (domainsUp (atRest false [.lpddr]) = true ∧ (atRest false [.lpddr]).power.lpUp = false ∧ (atRest false [.lpddr]).power.wakes < 255) ∧
    (restingDown (atRest true [.hbm 3]) = true ∧ (atRest true [.hbm 3]).power.current = .sleep ∧ (atRest true [.hbm 3]).power.lpUp = true ∧
        domainBusy (atRest true [.hbm 3]) .lpddr = false ∧ Domain.hbm 3 ∈ (atRest true [.hbm 3]).power.draining ∧
            Domain.hbm 3 ∈ (atRest true [.hbm 3]).power.retrying ∧
        domainBusy (atRest true [.hbm 3]) (.hbm 3) = false ∧ (atRest true [.hbm 3]).power.retries < 255) ∧
    (domainsUp busyLp = true ∧ restingDown busyLp = true ∧ domainBusy busyLp .lpddr = true ∧ Domain.lpddr ∉ busyLp.power.draining) :=
  ⟨by decide +kernel, by decide +kernel, by decide +kernel⟩

theorem test_meets_DomainsAndInputs_2 :
    ((inputs true true false).mod.mainOn = true ∧ (inputs true true false).mod.auxOn = true) ∧
    ((inputs true false true).mod.mainOn = false ∧ (inputs true false true).mod.auxOn = true ∧
        (inputs true false true).mod.thermtrip = false ∧ (inputs true false true).mod.rails = false ∧
        (inputs true false true).mod.perst = true) ∧
    ((inputs true false false).mod.perst = false ∧ chooseSlot (moduleReset (inputs true false false)) none = some (0, false)) ∧
    ((inputs false true true).mod.auxOn = false ∧ (inputs false true true).mod.mainOn = true ∧
        (inputs false true true).mod.rails = false) := by
  and_intros <;> decide +kernel

theorem test_meets_SensorsHeatersFogAndProbes_1 :
    (tilePowered (jumpS true) 11 = true ∧ (jumpS true).tiles[(11 : Fin 12)].heated = false ∧
      jumped (jumpS true).tiles[(11 : Fin 12)].temps (readsAt 4010) = false) ∧
    (jumped (jumpS true).tiles[(11 : Fin 12)].temps (readsAt 4011) = true ∧ (jumpS true).tiles[(11 : Fin 12)].st = .locked) ∧
    (tilePowered (withHeat [(0, flatRing 64000 true)]) 11 = true ∧ (withHeat [(0, flatRing 64000 true)]).tiles[(11 : Fin 12)].heated = true ∧
      jumped (withHeat [(0, flatRing 64000 true)]).tiles[(11 : Fin 12)].temps (readsAt 4000) = false ∧
      ∀ p ∈ (withHeat [(0, flatRing 64000 true)]).tiles[(11 : Fin 12)].rings,
        (driveRing p.2 (ringTemp (readsAt 4000) (p.1 / 4288) (p.1 / 64 % 67) (p.1 % 64))).2 = false) :=
  ⟨by decide +kernel, by decide +kernel, by decide +kernel⟩

theorem test_meets_SensorsHeatersFogAndProbes_2 :
    ((fogged .thermal 0).tiles[(11 : Fin 12)].st = .fogged ∧ (fogged .thermal 0).tiles[(11 : Fin 12)].fogCause = some .thermal) ∧
    ((probing 1).tiles[(11 : Fin 12)].st = .fogged ∧ (probing 1).tiles[(11 : Fin 12)].mayProbe = true ∧
        (probing 1).tiles[(11 : Fin 12)].waitRetry = false ∧
      pllGood (probing 1) 11 = true ∧ allServed (probing 1).tiles[(11 : Fin 12)] = true) ∧
    (probesPass (probing 1).tiles[(11 : Fin 12)] [probeP 4] = true ∧ (probing 1).tiles[(11 : Fin 12)].pend = [] ∧
      ∀ c : Fin 4, (probing 1).tiles[(11 : Fin 12)].cores[c].faulty = []) ∧
    (probesPass (probing 1).tiles[(11 : Fin 12)] [probeP 60] = false ∧ (probing 1).tiles[(11 : Fin 12)].probeFails < 2) ∧
    (2 ≤ (probing 2).tiles[(11 : Fin 12)].probeFails ∧ probesPass (probing 2).tiles[(11 : Fin 12)] [probeP 60] = false) ∧
    ({ coreZ with block := some blkC } : Core).block = some blkC ∧
    blkC.analog = true ∧ probeOk { coreZ with block := some blkC } (probeP 4) = true ∧ 0 < blkC.groups ∧
    ({ coreZ with block := some blkL } : Core).block = some blkL ∧
    blkL.analog = false := by
  and_intros <;> decide +kernel

theorem test_meets_SensorsHeatersFogAndProbes_3 :
    fogPat.tiles[(11 : Fin 12)].st = .fogged := by decide +kernel

theorem test_meets_RowsLeaveService_1 :
    (tilePowered (suspectS false) 11 = true ∧ hot.unstable = false ∧ (suspectS false).tiles[(11 : Fin 12)].heated = true ∧
      mismatch ((suspectS false).tiles[(11 : Fin 12)].ring (ringKey hot.core.val hot.row.val hot.ch.val)) hot.nanoamps = true ∧
      (hot.core, hot.row, hot.ch) ∉ (suspectS false).tiles[(11 : Fin 12)].suspect) ∧
    (tilePowered live 11 = true ∧ live.tiles[(11 : Fin 12)].heated = false ∧ 10000 < hot.nanoamps) ∧
    (mismatch ((suspectS true).tiles[(11 : Fin 12)].ring (ringKey hot.core.val hot.row.val hot.ch.val)) hot.nanoamps = true ∧
      (hot.core, hot.row, hot.ch) ∈ (suspectS true).tiles[(11 : Fin 12)].suspect) ∧
    (mismatch ((suspectS true).tiles[(11 : Fin 12)].ring (ringKey calm.core.val calm.row.val calm.ch.val)) calm.nanoamps = false ∧
      (calm.core, calm.row, calm.ch) ∈ (suspectS true).tiles[(11 : Fin 12)].suspect) := by
  and_intros <;> decide +kernel

theorem test_meets_RowsLeaveService_2 :
    (15200000 < heaterCurrent (flatRing 15201 false) 0 ∧ (flatRing 15201 false).high = false) ∧
    (heaterCurrent (flatRing 13599 true) 0 < 13600000 ∧ (flatRing 13599 true).high = true) ∧
    (13600000 ≤ heaterCurrent (flatRing 13600 true) 0 ∧ heaterCurrent (flatRing 15200 false) 0 ≤ 15200000) ∧
    64000000 < heaterCurrent (flatRing 64001 true) 0 := by
  and_intros <;> decide +kernel

theorem test_meets_RowsLeaveService_3 :
    (((faultyS [65]).core 47).st ≠ .retired ∧ ((faultyS [65]).core 47).slotBad = false ∧ (faultyS [65]).tiles[coreTile 47].st = .locked ∧
      ((faultyS [65]).core 47).faulty = [65] ∧ ((faultyS [65]).core 47).rows[(65 : Fin 67)].quar = false ∧
      ((faultyS [65]).core 47).baste = none ∧ ((faultyS [65]).core 47).rows[(66 : Fin 67)].quar = false ∧
      ((faultyS [65]).core 47).walk = none ∧ ((faultyS [65]).core 47).gateShut = false ∧ ((faultyS [65]).core 47).barred = 0) ∧
    (((faultyP [65, 66]).core 47).st ≠ .retired ∧ ((faultyP [65, 66]).core 47).slotBad = false ∧
      ((faultyP [65, 66]).core 47).faulty = [65, 66] ∧ (65 : Fin 67) ≠ 66 ∧
      ((faultyP [65, 66]).core 47).rows[(65 : Fin 67)].quar = false ∧ ((faultyP [65, 66]).core 47).rows[(66 : Fin 67)].quar = false) :=
  ⟨by decide +kernel, by decide +kernel⟩

theorem test_meets_LasersAreSwappedAndLevelled_1 :
    ((laserS .warmHold).tiles[(11 : Fin 12)].st = .locked ∧ (laserS .warmHold).tiles[(11 : Fin 12)].rli = false ∧
      (laserS .warmHold).tiles[(11 : Fin 12)].dark.getLsbD (63 : Fin 64).val = false ∧
      (laserS .warmHold).tiles[(11 : Fin 12)].lasers[workingOf 63].st = .operating ∧
      (laserS .warmHold).tiles[(11 : Fin 12)].lasers[workingOf 63].serving = true ∧
      (laserS .warmHold).tiles[(11 : Fin 12)].lasers[spareOf (groupOf 63)].serving = false ∧
      (laserS .warmHold).tiles[(11 : Fin 12)].lasers[spareOf (groupOf 63)].st = .warmHold) ∧
    ((laserS .failed).tiles[(11 : Fin 12)].lasers[spareOf (groupOf 63)].st = .failed ∧ (laserS .failed).tiles[(11 : Fin 12)].st = .locked ∧
      ∀ d : Fin 64, d ≠ 63 → channelServed (laserS .failed).tiles[(11 : Fin 12)] d = true) :=
  ⟨by decide +kernel, by decide +kernel⟩

theorem test_meets_LasersAreSwappedAndLevelled_2 :
    (tuning'.tiles[(11 : Fin 12)].st = .locked ∧ tuning'.tiles[(11 : Fin 12)].lasers[spareOf 7].st = .tuning ∧
        tuning'.tiles[(11 : Fin 12)].swapping = [] ∧ tuning'.tiles[(11 : Fin 12)].pend = [] ∧
        laserChan tuning'.tiles[(11 : Fin 12)] (spareOf 7) = 63) ∧
    (readyS.tiles[(11 : Fin 12)].st = .locked ∧ readyS.tiles[(11 : Fin 12)].swapping = [(7, 63)] ∧
        readyS.tiles[(11 : Fin 12)].pend = [.swap 7] ∧ readyS.tiles[(11 : Fin 12)].lasers[workingOf 63].st = .fading ∧
        readyS.tiles[(11 : Fin 12)].isDim = false ∧ readyS.tiles[(11 : Fin 12)].lasers[spareOf 7].set < 680 ∧
        ∀ c : Fin 4, readyS.tiles[(11 : Fin 12)].cores[c].faulty = []) :=
  ⟨by decide +kernel, by decide +kernel⟩

theorem test_meets_LasersAreSwappedAndLevelled_3 :
    ((biasS 679 .locked).tiles[(11 : Fin 12)].lasers[(rd 499999).laser].st = .operating ∧ (rd 499999).ppm < 500000) ∧
    ((biasS 679 .locked).tiles[(11 : Fin 12)].lasers[(63 : Fin 72)].bias < 680 ∧ (rd 500000).driverOk = true ∧ 500000 ≤ (rd 500000).ppm ∧
      (rd 998999).ppm < 999000) ∧
    (0 < (biasS 1 .dark).tiles[(11 : Fin 12)].lasers[(63 : Fin 72)].bias ∧ 1001000 < (rd 1001001).ppm) ∧
    (999000 ≤ (rd 999000).ppm ∧ (rd 1001000).ppm ≤ 1001000) ∧
    ((pendS (.bias 63 true)).tiles[(11 : Fin 12)].pend = [.bias 63 true] ∧
        (pendS (.bias 63 true)).tiles[(11 : Fin 12)].lasers[(63 : Fin 72)].st = .operating ∧
      (pendS (.bias 63 true)).tiles[(11 : Fin 12)].lasers[(63 : Fin 72)].bias < 680 ∧
      (pendS (.bias 63 true)).tiles[(11 : Fin 12)].dark.getLsbD (laserChan (pendS (.bias 63 true)).tiles[(11 : Fin 12)] 63).val = false ∧
      ∀ c : Fin 4, (pendS (.bias 63 true)).tiles[(11 : Fin 12)].cores[c].faulty = []) ∧
    ((pendS .seed).tiles[(11 : Fin 12)].pend = [.seed] ∧ ∀ c : Fin 4, (pendS .seed).tiles[(11 : Fin 12)].cores[c].faulty = []) := by
  and_intros <;> decide +kernel

theorem test_meets_ThreadingFibreAndRootPlls_1 :
    (threadS.tiles[(11 : Fin 12)].st = .threading ∧ threadS.tiles[(11 : Fin 12)].cal.step = 2 ∧
        threadS.tiles[(11 : Fin 12)].cores[(2 : Fin 4)].st ≠ .retired ∧
        assignPeak threadS.tiles[(11 : Fin 12)].temps (peakR 3) (threadS.tiles[(11 : Fin 12)].ring (ringKey 3 65 63))
          = some { tone := 3, place := 127, current := 5000 } ∧
        assignPeak threadS.tiles[(11 : Fin 12)].temps (peakR 2) (threadS.tiles[(11 : Fin 12)].ring (ringKey 3 65 63)) = none) ∧
    ((sheetS 0xFFFFFFFE).tiles[(11 : Fin 12)].st = .locked ∧ ((sheetS 0xFFFFFFFE).tiles[(11 : Fin 12)].csGen + 1).getLsbD 0 = true) ∧
    (((sheetS 0xFFFFFFFF).tiles[(11 : Fin 12)].csGen + 1).getLsbD 0 = false ∧ (sheetS 0xFFFFFFFF).tiles[(11 : Fin 12)].st = .locked) :=
  ⟨by decide +kernel, by decide +kernel, by decide +kernel⟩

theorem test_meets_ThreadingFibreAndRootPlls_2 :
    (Die.hub 3 ∉ near.mod.pllLost ∧ near.mod.rails = true ∧ near.mod.lockLoss < 255 ∧ near.tiles[(11 : Fin 12)].st = .locked ∧
        (11 : Fin 12) ∈ dieTiles (.hub 3)) ∧
    (lossS.mod.pllLost = [.hub 3] ∧ lossS.tiles[(11 : Fin 12)].st = .fogged ∧ lossS.tiles[(11 : Fin 12)].fogCause = some .pll) ∧
    (lossS.mod.mstate ≠ .fault ∧ Die.hub 3 ∈ lossS.mod.pllLost) ∧
    ((lossIod .iod).mod.pllLost = [Die.iod] ∧ (lossIod .iod).mod.mstate ≠ .fault) ∧
    ((lossIod (.converter 11)).mod.pllLost = [Die.converter 11] ∧ (lossIod (.converter 11)).tiles[(11 : Fin 12)].st = .fogged) := by
  and_intros <;> decide +kernel

theorem test_meets_ThreadingFibreAndRootPlls_3 :
    rliS.tiles[(0 : Fin 12)].rli = true ∧ rliS.tiles[(0 : Fin 12)].st = .locked := by decide +kernel

theorem test_meets_SeamsAndSwitch_1 :
    ((3 : Fin 12) ≠ 8 ∧ farEnd seamA 3 3 0 = some (8, 2) ∧ seamA.tiles[(3 : Fin 12)].seams[(0 : Fin 4)].st = .active ∧
        seamA.tiles[(3 : Fin 12)].seams[(0 : Fin 4)].halted = false ∧ seamA.tiles[(3 : Fin 12)].through 0 = none) ∧
    ((flit 0xFFFF true true true).seqNo = seamA.tiles[(3 : Fin 12)].seams[(0 : Fin 4)].rxSeq ∧
        Seam.sent (flit 0xFFFF true true true) seamA.tiles[(8 : Fin 12)].seams[(2 : Fin 4)] =
      some seamA.tiles[(8 : Fin 12)].seams[(2 : Fin 4)]) ∧
    ((flit 0 true true true).seqNo ≠ seamA.tiles[(3 : Fin 12)].seams[(0 : Fin 4)].rxSeq ∧
        (Seam.sent (flit 0 true true true) seamA.tiles[(8 : Fin 12)].seams[(2 : Fin 4)]).isSome = true) ∧
    ((flit 0xFFFF true false true).crcOk = false ∧ (flit 0xFFFF false true true).fecOk = false) ∧
    ((tagS.tiles[(3 : Fin 12)].seams[(0 : Fin 4)]).tagSeq = (flit 0xFFFF true true false).seqNo ∧
      (tagS.tiles[(3 : Fin 12)].seams[(0 : Fin 4)]).tagFails = 3 ∧ (tagS.tiles[(3 : Fin 12)].seams[(0 : Fin 4)]).st = .active ∧
      farEnd tagS 3 3 0 = some (8, 2) ∧ partner 3 0 = some (8, 2)) ∧
    ((ackS 6).tiles[(3 : Fin 12)].seams[(0 : Fin 4)].st = .active ∧
      (ackS 6).tiles[(3 : Fin 12)].seams[(0 : Fin 4)].unacked = [flitRec 9 6, flitRec 10 0] ∧ (flitRec 9 6).tries < 7 ∧
      (flitRec 10 0).seqNo ≠ (flitRec 9 6).seqNo) ∧
    ((ackS 7).tiles[(3 : Fin 12)].seams[(0 : Fin 4)].unacked = [flitRec 9 7, flitRec 10 0] ∧ 7 ≤ (flitRec 9 7).tries) := by
  and_intros <;> decide +kernel

theorem test_meets_SeamsAndSwitch_2 :
    (partner 3 0 = some (8, 2) ∧ (lanes 0xF 0x8).tiles[(3 : Fin 12)].seams[(0 : Fin 4)].st = .active ∧
      (lanes 0xF 0x8).tiles[(3 : Fin 12)].seams[(0 : Fin 4)].groups.getLsbD ((11 : Fin 16).val / 4) = true ∧
          (marked (lanes 0xF 0x8) 3 0).getLsbD ((11 : Fin 16).val / 4) = false ∧
      2 < groupCount ((lanes 0xF 0x8).tiles[(3 : Fin 12)].seams[(0 : Fin 4)].groups &&& ~~~marked (lanes 0xF 0x8) 3 0)) ∧
    (groupCount ((lanes 0x3 0).tiles[(3 : Fin 12)].seams[(0 : Fin 4)].groups &&& ~~~marked (lanes 0x3 0) 3 0) ≤ 2 ∧
      (lanes 0x3 0).tiles[(3 : Fin 12)].seams[(0 : Fin 4)].groups.getLsbD ((7 : Fin 16).val / 4) = true ∧
          (marked (lanes 0x3 0) 3 0).getLsbD ((7 : Fin 16).val / 4) = false) ∧
    (retr.tiles[(8 : Fin 12)].seams[(2 : Fin 4)].groups = retr.tiles[(3 : Fin 12)].seams[(0 : Fin 4)].groups ∧
        retr.tiles[(8 : Fin 12)].seams[(2 : Fin 4)].st = .active ∧
      retr.tiles[(3 : Fin 12)].pend = [.retrain 0] ∧ retr.tiles[(8 : Fin 12)].pend = [.retrain 2] ∧
          retr.tiles[(3 : Fin 12)].seams[(0 : Fin 4)].st = .active ∧
      ∀ c : Fin 4, retr.tiles[(3 : Fin 12)].cores[c].faulty = [] ∧ retr.tiles[(8 : Fin 12)].cores[c].faulty = []) ∧
    2 ≤ groupCount (retr.tiles[(3 : Fin 12)].seams[(0 : Fin 4)].groups &&& ~~~(retr.tiles[(3 : Fin 12)].seams[(0 : Fin 4)].drop ||| retr.tiles[(8 : Fin 12)].seams[(2 : Fin 4)].drop)) := by
  and_intros <;> decide +kernel

theorem test_meets_SeamsAndSwitch_3 :
    (pathsOk live 4 [(0, 2)] = true ∧ pathBusy live 4 ([(0, 2)] ++ live.tiles[(4 : Fin 12)].paths) = false ∧
      ∀ c ∈ live.tiles[(4 : Fin 12)].pend, c.order ≠ 4) ∧
    (pathsOk (ackS 0) 3 [(0, 4)] = true ∧ pathBusy (ackS 0) 3 ([(0, 4)] ++ (ackS 0).tiles[(3 : Fin 12)].paths) = true) ∧
    (((3, 0) : Fin 6 × Fin 6) ∈ [((3, 0) : Fin 6 × Fin 6)] ∧ endPort 3 = some 3 ∧ unpartnered (4 : Fin 12).val (3 : Fin 4).val = true) :=
  ⟨by decide +kernel, by decide +kernel, by decide +kernel⟩

theorem test_meets_UnpartneredPortsStayShut :
    live.portsOk = true ∧
    step live = .next live :=
  ⟨by decide +kernel, rfl⟩

theorem test_meets_PatternsAndWorkItems_1 :
    Turn (loadA) 0x02 1 5 (queueA loadE) ctxA loadE ∧
    (∀ p ∈ loadA.pats, p.byQueue = 1 → p.bySeq = 5 → p.runnable = true) ∧
    (vaultRefuses loadA = false ∧ desc16 loadE.desc 32 ≠ 0 ∧ descByte loadE.desc 34 = 0 ∧ beforeReady loadA = false) ∧
    readFile loadA ctxA loadE.desc .ok = .ok fileOk ∧
    spoolList loadA ctxA loadE.desc = .ok [] ∧
    loadCheck loadA ctxA loadE.desc fileOk [] = none ∧
    ((admitPattern 1 5 ctxA loadE.desc fileOk [] loadA).pats.any (fun p => p.byQueue == 1 && p.bySeq == 5 && !p.runnable) = true) ∧
    Turn (loadS 8 64 [libS fileOk]) 0x02 1 5 (queueA (cmd [(0, 1, 2), (24, 8, 64), (32, 2, 8), (36, 4, 1)])) ctxA (cmd [(0, 1, 2), (24, 8, 64),
        (32, 2, 8), (36, 4, 1)]) ∧
    Turn (loadS 7 64 [libS fileOk]) 0x02 1 5 (queueA (cmd [(0, 1, 2), (24, 8, 64), (32, 2, 7), (36, 4, 1)])) ctxA (cmd [(0, 1, 2), (24, 8, 64),
        (32, 2, 7), (36, 4, 1)]) ∧
    Turn ({ loadS 7 64 [] with vault := { st := 4 } }) 0x02 1 5 (queueA (cmd [(0, 1, 2), (24, 8, 64), (32, 2, 7), (36, 4, 1)])) ctxA (cmd [(0, 1,
        2), (24, 8, 64), (32, 2, 7), (36, 4, 1)]) ∧
    vaultRefuses ({ loadS 7 64 [] with vault := { st := 4 } }) = true ∧
    Turn ({ loadA with mod := { live.mod with mstate := .calibrating, served := false } }) 0x02 1 5 (queueA loadE) ctxA loadE ∧
    beforeReady ({ loadA with mod := { live.mod with mstate := .calibrating, served := false } }) = true ∧
    Turn (withPat (withCmd [(0, 1, 3), (16, 2, 3)]) (loaded (fileA zeroDg))) 0x03 1 5 (queueA (cmd [(0, 1, 3), (16, 2, 3)])) ctxA (cmd [(0, 1, 3),
        (16, 2, 3)]) ∧
    (withPat (withCmd [(0, 1, 3), (16, 2, 3)]) (loaded (fileA zeroDg))).pat? 1 3 = some (loaded (fileA zeroDg)) ∧
    Turn (withCmd [(0, 1, 3), (16, 2, 3)]) 0x03 1 5 (queueA (cmd [(0, 1, 3), (16, 2, 3)])) ctxA (cmd [(0, 1, 3), (16, 2, 3)]) ∧
    (withCmd [(0, 1, 3), (16, 2, 3)]).pat? 1 3 = none :=
  ⟨turn_of_ok (by decide +kernel), by decide +kernel, by decide +kernel, readsOk, by
    simp only [spoolList, show descByte loadE.desc 34 = 0 by decide +kernel]; rfl, loadsOk, by decide +kernel, turn_of_ok (by decide +kernel),
        turn_of_ok (by decide +kernel), turn_of_ok (by decide +kernel), by decide +kernel, turn_of_ok (by decide +kernel), by decide +kernel,
        turn_of_ok (by decide +kernel), by decide +kernel, turn_of_ok (by decide +kernel), by decide +kernel⟩

theorem test_meets_PatternsAndWorkItems_2 :
    Turn (runS 4736 4 (fileA zeroDg)) 0x01 1 5 (queueA (runE 4736 4)) ctxA (runE 4736 4) ∧
    ((runE 4736 4).st ≠ .begun ∧ inputSize (fileA zeroDg) = 4736 ∧ outputSize (fileA zeroDg) = 4 ∧
        (runS 4736 4 (fileA zeroDg)).mod.mstate ≠ .safelight) ∧
    Turn (runS 4735 4 (fileA zeroDg)) 0x01 1 5 (queueA (runE 4735 4)) ctxA (runE 4735 4) ∧
    Turn (runS 4736 3 (fileA zeroDg)) 0x01 1 5 (queueA (runE 4736 3)) ctxA (runE 4736 3) ∧
    Turn (darkS) 0x01 1 5 (queueA (runE 7296 4)) ctxA (runE 7296 4) ∧
    (darkS.mod.mstate = .safelight ∧ patAnalog fileN_ = true ∧ inputSize fileN_ ≤ 7296 ∧ outputSize fileN_ ≤ 4) ∧
    Turn (withEntry (runE 64 4)) 0x01 1 5 (queueA (runE 64 4)) ctxA (runE 64 4) ∧
    (withEntry (runE 64 4)).pat? 1 (runE 64 4).handle = none :=
  ⟨turn_of_ok (by decide +kernel), by decide +kernel, turn_of_ok (by decide +kernel), turn_of_ok (by decide +kernel),
      turn_of_ok (by decide +kernel), by decide +kernel, turn_of_ok (by decide +kernel), by decide +kernel⟩

def loadL : List (Nat × Nat × Nat) := [(0, 1, 2), (24, 8, fileOk.length), (32, 2, 7), (34, 1, 1), (36, 4, 1), (40, 8, 0x130000)]
def loadM : State := spoolIn (withCmd loadL) [libS fileOk]
/-- A spool list that is not mapped; inputs and outputs whose address is no DVA. -/
theorem test_meets_PatternsAndWorkItems_3 :
    Turn loadM 0x02 1 5 (queueA (cmd loadL)) ctxA (cmd loadL) ∧
    readFile loadM ctxA (cmd loadL).desc .ok = .ok fileOk ∧ spoolList loadM ctxA (cmd loadL).desc = .error (.accessFault, 0x130000) ∧
    Turn (withPat (withCmd [(0, 1, 1), (16, 2, 3), (24, 8, 2 ^ 52)]) (loaded (fileA zeroDg))) 0x01 1 5
      (queueA (cmd [(0, 1, 1), (16, 2, 3), (24, 8, 2 ^ 52)])) ctxA (cmd [(0, 1, 1), (16, 2, 3), (24, 8, 2 ^ 52)]) ∧
    Turn (withPat (withCmd [(0, 1, 1), (16, 2, 3), (24, 8, 2 ^ 52 - 1), (40, 8, 2 ^ 52)]) (loaded (fileA zeroDg))) 0x01 1 5
      (queueA (cmd [(0, 1, 1), (16, 2, 3), (24, 8, 2 ^ 52 - 1), (40, 8, 2 ^ 52)])) ctxA
      (cmd [(0, 1, 1), (16, 2, 3), (24, 8, 2 ^ 52 - 1), (40, 8, 2 ^ 52)]) :=
  ⟨turn_of_ok (by decide +kernel), by
    have h1 : desc16 (cmd loadL).desc 32 = 7 := by decide +kernel
    have h2 : desc64 (cmd loadL).desc 16 = 0 := by decide +kernel
    have h3 : desc64 (cmd loadL).desc 24 = fileOk.length := by decide +kernel
    have h4 : srcSpool loadM ctxA 7 0 fileOk.length = .ok (libS fileOk) := by
      have a : vaultRefuses loadM = false := by decide +kernel
      have b : loadM.spool? 7 = some (libS fileOk) := rfl
      simp [srcSpool, a, b, libS, ctxA, show loadM.vault.readHold = false from rfl]
    have h5 : readFails (vaultBad loadM 7 0 fileOk.length (some (0, .ok))) = false := by decide +kernel
    have h6 : memReadN (libS fileOk).data 0 fileOk.length = fileOk := memReadN_layout fileOk 0
    have h7 : (libS fileOk).id = 7 := rfl
    simp only [readFile, h1, h2, h3, h4, h6, h7, h5]
    rfl, by
    simp only [spoolList, show descByte (cmd loadL).desc 34 = 1 by decide +kernel,
      show desc64 (cmd loadL).desc 40 = 0x130000 by decide +kernel,
      show rangeFault loadM ctxA 0x130000 (2 * 1) false = some 0x130000 by decide +kernel]; rfl, turn_of_ok (by decide +kernel),
          turn_of_ok (by decide +kernel)⟩

theorem test_meets_CopyFillAndSpoolWrites_1 :
    Turn (copyS 0x100000 0x100001 2 0 0) 0x04 1 5 (queueA (copyE 0x100000 0x100001 2 0 0)) ctxA (copyE 0x100000 0x100001 2 0 0) ∧
    (0x100000 < 0x100001 + 2 ∧ 0x100001 < 0x100000 + 2) ∧
    Turn (seeHost [(0x40000, 9), (0x40003,
        7)] (copyS 0x100000 0x100004 4 0 0)) 0x04 1 5 (queueA (copyE 0x100000 0x100004 4 0 0)) ctxA (copyE 0x100000 0x100004 4 0 0) ∧
    (0x100000 + 4 ≤ 0x100004 ∧ hostWaits (seeHost [(0x40000, 9), (0x40003, 7)] (copyS 0x100000 0x100004 4 0 0)) ctxA 0x100000 4 = false ∧
        hostWaits (seeHost [(0x40000, 9), (0x40003, 7)] (copyS 0x100000 0x100004 4 0 0)) ctxA 0x100004 4 = false) ∧
    (∀ k, k * segBytes < 4 → segError (seeHost [(0x40000, 9),
        (0x40003, 7)] (copyS 0x100000 0x100004 4 0 0)) ctxA true 0x100000 0x100004 (k * segBytes) (min segBytes (4 - k * segBytes)) none k = none) ∧
    Turn (copyS 0x100000 0x110000 4 0 0) 0x04 1 5 (queueA (copyE 0x100000 0x110000 4 0 0)) ctxA (copyE 0x100000 0x110000 4 0 0) ∧
    (segError (copyS 0x100000 0x110000 4 0 0) ctxA true 0x100000 0x110000 0 (min segBytes 4) none 0 = some (.accessFault, 0x110000) ∧
        hostWaits (copyS 0x100000 0x110000 4 0 0) ctxA 0x110000 4 = false) ∧
    segError (copyS 0x100000 0x110000 4 0 0) ctxA true 0x100000 0x100004 0 (min segBytes 4) (some (3, .poisoned)) 0 = some (.dataUncorrectable, 0) ∧
    Turn (copyS 0 0x100000 64 7 0) 0x04 1 5 (queueA (copyE 0 0x100000 64 7 0)) ctxA (copyE 0 0x100000 64 7 0) ∧
    hostWaits (copyS 0 0x100000 64 7 0) ctxA 0x100000 64 = false ∧
    srcSpool (copyS 0 0x100000 64 7 0) ctxA 7 0 64 = .ok { libS [1, 2, 3] with length := 64 } ∧
    (∀ k, k * segBytes < 64 → segError (copyS 0 0x100000 64 7 0) ctxA false 0 0x100000 (k * segBytes) (min segBytes (64 - k * segBytes)) none k = none) ∧
    Turn (fillS 0x200000 16 0x0807060504030201 0) 0x05 1 5 (queueA (fillE 0x200000 16 0x0807060504030201 0)) ctxA (fillE 0x200000 16 0x0807060504030201 0) ∧
    hostWaits (fillS 0x200000 16 0x0807060504030201 0) ctxA 0x200000 16 = false ∧
    (∀ k, k * segBytes < 16 → segError (fillS 0x200000 16 0x0807060504030201 0) ctxA false 0 0x200000 (k * segBytes) (min segBytes (16 - k * segBytes)) none k = none) :=
  ⟨turn_of_ok (by decide +kernel), by decide +kernel, turn_of_ok (by decide +kernel), by decide +kernel, by
    intro k hk; have : k = 0 := by simp only [segBytes] at hk; omega
    subst this; decide +kernel, turn_of_ok (by decide +kernel), by decide +kernel, by decide +kernel, turn_of_ok (by decide +kernel),
        by decide +kernel, rfl, by
    intro k hk; have : k = 0 := by simp only [segBytes] at hk; omega
    subst this; decide +kernel, turn_of_ok (by decide +kernel), by decide +kernel, by
    intro k hk; have : k = 0 := by simp only [segBytes] at hk; omega
    subst this; decide +kernel⟩

theorem test_meets_CopyFillAndSpoolWrites_2 :
    Turn (fillS 0 4096 1 7) 0x05 1 5 (queueA (fillE 0 4096 1 7)) ctxA (fillE 0 4096 1 7) ∧
    (vaultRefuses (fillS 0 4096 1 7) = false ∧ ((fillS 0 4096 1 7).spool? 7).map (·.ctx) = some (some 1) ∧
        (fillS 0 4096 1 7).vault.writeHold = false ∧ (fillS 0 4096 1 7).vault.st ≠ 3 ∧ (fillS 0 4096 1 7).vault.holdup = true ∧
        min 8 (0 + 4096) - min 8 0 ≤ (fillS 0 4096 1 7).vault.xact * 2 ^ 26 ∧ 0 % 4096 = 0 ∧ 4096 % 4096 = 0 ∧ 0 + 4096 ≤ 1 * 2 ^ 26) ∧
    (fillBytes 1 4096).length = 4096 ∧
    Turn (held (fillS 0 4096 1 7)) 0x05 1 5 (queueA (fillE 0 4096 1 7)) ctxA (fillE 0 4096 1 7) ∧
    Turn (copyS 0x100000 4096 4096 0 7) 0x04 1 5 (queueA (copyE 0x100000 4096 4096 0 7)) ctxA (copyE 0x100000 4096 4096 0 7) ∧
    hostWaits (copyS 0x100000 4096 4096 0 7) ctxA 0x100000 4096 = false ∧
    srcDva (copyS 0x100000 4096 4096 0 7) ctxA 0x100000 4096 none = .ok (dvaReadN (copyS 0x100000 4096 4096 0 7) ctxA 0x100000 4096) ∧
    (dvaReadN (copyS 0x100000 4096 4096 0 7) ctxA 0x100000 4096).length = 4096 ∧
    Turn (held (copyS 0x100000 4096 4096 0 7)) 0x04 1 5 (queueA (copyE 0x100000 4096 4096 0 7)) ctxA (copyE 0x100000 4096 4096 0 7) :=
  ⟨turn_of_ok (by decide +kernel), by decide +kernel, by decide +kernel, turn_of_ok (by decide +kernel), turn_of_ok (by decide +kernel),
      by decide +kernel, by
    rw [srcDva, show rangeFault (copyS 0x100000 4096 4096 0 7) ctxA 0x100000 4096 false = none by decide +kernel], dvaReadN_length' _ _ _ _,
        turn_of_ok (by decide +kernel)⟩

/-- Another command's write to spool 7 runs. -/
def afterOne (s : State) : State :=
  { s with vault := { s.vault with writes := [{ q := 2, seq := 1, spool := 7, off := 0, len := 4096, data := [], space := 0, copies := 0 }] } }
/-- A fill of no DVA; copies into the spool from the spool itself, and from another place of it while writes are held. -/
theorem test_meets_CopyFillAndSpoolWrites_3 :
    Turn (fillS (2 ^ 52) 16 1 0) 0x05 1 5 (queueA (fillE (2 ^ 52) 16 1 0)) ctxA (fillE (2 ^ 52) 16 1 0) ∧
    Turn (afterOne (fillS 0 4096 1 7)) 0x05 1 5 (queueA (fillE 0 4096 1 7)) ctxA (fillE 0 4096 1 7) ∧
    (afterOne (fillS 0 4096 1 7)).vault.writes.all (fun v => v.spool == 7) = true ∧
    (let s := spoolIn (withEntry (copyE 0 4096 4096 7 7)) [{ libS [1, 2, 3] with length := 4096 }]
     Turn s 0x04 1 5 (queueA (copyE 0 4096 4096 7 7)) ctxA (copyE 0 4096 4096 7 7) ∧
     Turn (held s) 0x04 1 5 (queueA (copyE 0 4096 4096 7 7)) ctxA (copyE 0 4096 4096 7 7) ∧
     Turn (afterOne s) 0x04 1 5 (queueA (copyE 0 4096 4096 7 7)) ctxA (copyE 0 4096 4096 7 7) ∧
     (afterOne s).vault.writes.all (fun v => v.spool == 7) = true ∧ 0 + 4096 ≤ 4096 ∧
         srcSpool s ctxA 7 0 4096 = .ok { libS [1, 2, 3] with length := 4096 }) :=
  ⟨turn_of_ok (by decide +kernel), turn_of_ok (by decide +kernel), by decide +kernel, turn_of_ok (by decide +kernel),
      turn_of_ok (by decide +kernel), turn_of_ok (by decide +kernel), by decide +kernel, by decide, rfl⟩

theorem test_meets_TrackersAndExperts_1 :
    Turn (scaleS (scaleE 1 0) true) 0x09 1 5 (queueA (scaleE 1 0)) ctxA (scaleE 1 0) ∧
    (((scaleS (scaleE 1 0) true).pat? 1 3).map (·.runnable) = some true ∧ (trackerOf (scaleS (scaleE 1 0) true) fileT 3 1).frozen = true) ∧
    Turn (scaleS (scaleE 0 0) false) 0x09 1 5 (queueA (scaleE 0 0)) ctxA (scaleE 0 0) ∧
    (((scaleS (scaleE 0 0) false).pat? 1 3).map (·.runnable) = some true ∧
        (trackerOf (scaleS (scaleE 0 0) false) fileT 3 1).frozen = false) ∧
    Turn (scaleS (scaleE 1 0) false) 0x09 1 5 (queueA (scaleE 1 0)) ctxA (scaleE 1 0) ∧
    (((scaleS (scaleE 1 0) false).pat? 1 3).map (·.runnable) = some true ∧
        (trackerOf (scaleS (scaleE 1 0) false) fileT 3 1).frozen = false) ∧
    Turn (scaleS (scaleE 0 0) true) 0x09 1 5 (queueA (scaleE 0 0)) ctxA (scaleE 0 0) ∧
    (((scaleS (scaleE 0 0) true).pat? 1 3).map (·.runnable) = some true ∧ (trackerOf (scaleS (scaleE 0 0) true) fileT 3 1).frozen = true) ∧
    Turn (scaleS (setE 1 15) false) 0x0A 1 5 (queueA (setE 1 15)) ctxA (setE 1 15) ∧
    (scaleSetOk fileT (setE 1 15).desc = true ∧ (trackerOf (scaleS (setE 1 15) false) fileT 3 1).frozen = false) ∧
    Turn (scaleS (setE 1 240) true) 0x0A 1 5 (queueA (setE 1 240)) ctxA (setE 1 240) ∧
    (scaleSetOk fileT (setE 1 240).desc = true ∧ (trackerOf (scaleS (setE 1 240) true) fileT 3 1).frozen = true) ∧
    Turn (scaleS (setE 1 16) false) 0x0A 1 5 (queueA (setE 1 16)) ctxA (setE 1 16) ∧
    scaleSetOk fileT (setE 1 16).desc = false ∧
    Turn (scaleS (setE 4 0) false) 0x0A 1 5 (queueA (setE 4 0)) ctxA (setE 4 0) ∧
    scaleSetOk fileT (setE 4 0).desc = false :=
  ⟨turn_of_ok (by decide +kernel), by decide +kernel, turn_of_ok (by decide +kernel), by decide +kernel, turn_of_ok (by decide +kernel),
      by decide +kernel, turn_of_ok (by decide +kernel), by decide +kernel, turn_of_ok (by decide +kernel), by decide +kernel,
      turn_of_ok (by decide +kernel), by decide +kernel, turn_of_ok (by decide +kernel), by decide +kernel, turn_of_ok (by decide +kernel),
      by decide +kernel⟩

theorem test_meets_TrackersAndExperts_2 :
    Turn (hintS 0 1 1) 0x06 1 5 (queueA (hintE 0 1)) ctxA (hintE 0 1) ∧
    (((hintS 0 1 1).pat? 1 3).map (·.fetches) = some [] ∧ hostWaits (hintS 0 1 1) ctxA 0x100000 4 = false ∧
        rangeFault (hintS 0 1 1) ctxA 0x100000 4 false = none ∧ expertRec fileX 1 (leNat (dvaReadN (hintS 0 1 1) ctxA 0x100000 4)) = some 1 ∧
        expertHot (loaded fileX) 1 = false ∧ isPinned (loaded fileX) 1 = false) ∧
    Turn (hintS 1 1 0) 0x06 1 5 (queueA (hintE 1 1)) ctxA (hintE 1 1) ∧
    (((hintS 1 1 0).pat? 1 3).map (·.fetches) = some [] ∧ hostWaits (hintS 1 1 0) ctxA 0x100000 4 = false ∧
        rangeFault (hintS 1 1 0) ctxA 0x100000 4 false = none ∧ expertRec fileX 1 (leNat (dvaReadN (hintS 1 1 0) ctxA 0x100000 4)) = some 0 ∧
        expertHot (loaded fileX) 0 = false ∧ isPinned (loaded fileX) 0 = false ∧
        4 * (pinnedBytes (loaded fileX) + expertLen fileX 0) ≤ 3 * (1 * 2 ^ 26)) ∧
    Turn (pinnedS) 0x06 1 5 (queueA (hintE 1 1)) ctxA (hintE 1 1) ∧
    (pinnedS.pats.all (fun p => 3 * (p.hot * 2 ^ 26) < 4 * (pinnedBytes p + expertLen p.file 1)) = true) ∧
    Turn (hintS 0 65536 1) 0x06 1 5 (queueA (hintE 0 65536)) ctxA (hintE 0 65536) ∧
    rangeFault (hintS 0 65536 1) ctxA 0x100000 (4 * 65536) false = some 0x120000 ∧
    ((fetchS [reqX 1] true).pats.map (·.fetches) = [[reqX 1]] ∧ vaultRefuses (fetchS [reqX 1] true) = false ∧
        vaultPending (fetchS [reqX 1] true) = false ∧ (fetchS [reqX 1] true).vault.readHold = true ∧
        (fetchS [reqX 1] true).pats.all (·.cache.isEmpty) = true) ∧
    ((fetchS [reqX 1] false).pats.map (·.fetches) = [[reqX 1]] ∧ vaultRefuses (fetchS [reqX 1] false) = false ∧
        vaultPending (fetchS [reqX 1] false) = false ∧ (fetchS [reqX 1] false).vault.readHold = false ∧
        (fetchS [reqX 1] false).pats.all (·.cache.isEmpty) = true) ∧
    ((fetchS [reqX 0] false).pats.map (·.fetches) = [[reqX 0]] ∧ vaultRefuses (fetchS [reqX 0] false) = false ∧
        vaultPending (fetchS [reqX 0] false) = false ∧ (fetchS [reqX 0] false).vault.readHold = false ∧
        (fetchS [reqX 0] false).pats.all (·.cache.isEmpty) = true ∧ tierBytes (loaded fileX) true + expertLen fileX 0 ≤ 1 * 2 ^ 26) :=
  ⟨turn_of_ok (by decide +kernel), by decide +kernel, turn_of_ok (by decide +kernel), by decide +kernel, turn_of_ok (by decide +kernel),
      by decide +kernel, turn_of_ok (by decide +kernel), by decide +kernel, by decide +kernel, by decide +kernel, by decide +kernel⟩

/-- A fetch while the vault refuses its commands. -/
theorem test_meets_TrackersAndExperts_3 :
    let s := { fetchS [reqX 1] false with vault := { st := 4 } }
    s.pats.map (·.fetches) = [[reqX 1]] ∧ vaultRefuses s = true ∧ s.pats.all (·.cache.isEmpty) = true := by
  decide +kernel

theorem test_meets_FeedDogsAndWriteOut_1 :
    ((dogS true false true).reqs.find? (·.id == 8) = some (dogR true false true) ∧
        ((dogR true false true).cancelled || (dogR true false true).timedOut) = true) ∧
    ((dogS false true true).reqs.find? (·.id == 8) = some (dogR false true true) ∧
        ((dogR false true true).cancelled || (dogR false true true).timedOut) = true) ∧
    ((dogS false false true).reqs.find? (·.id == 8) = some (dogR false false true) ∧ (dogS false false true).ctx? 1 = some ctxA ∧
        (dogR false false true).target = 0) :=
  ⟨by decide +kernel, by decide +kernel, by decide +kernel⟩

theorem test_meets_FeedDogsAndWriteOut_2 :
    ((outS 0x100000).work? 1 5 = some (doneW 1) ∧ (outS 0x100000).queue? 1 = some (queueA (outE 0x100000 4)) ∧
        (outS 0x100000).pat? 1 3 = some (loaded (fileA zeroDg)) ∧ (outS 0x100000).ctx? 1 = some ctxA ∧
        (queueA (outE 0x100000 4)).entry? 5 = some (outE 0x100000 4) ∧ (outE 0x100000 4).st = .begun ∧ (doneW 1).stage = .running ∧
        (doneW 1).rerun = false ∧ workDone (loaded (fileA zeroDg)).file (doneW 1) = true ∧ (doneW 1).toFetch = [] ∧
        (outS 0x100000).reqs = []) ∧
    (outFault (outS 0x100000) ctxA (fileA zeroDg) 0x100000 = none ∧ (outChunks (fileA zeroDg))[0]? = some (2, 0, 0, 4) ∧
        hostWaits (outS 0x100000) ctxA (0x100000 + 0) 4 = false ∧ rangeFault (outS 0x100000) ctxA (0x100000 + 0) 4 true = none ∧
        0 + 1 = (outChunks (fileA zeroDg)).length) ∧
    ((outS 0x110000).work? 1 5 = some (doneW 1) ∧ (outS 0x110000).queue? 1 = some (queueA (outE 0x110000 4)) ∧
        (outS 0x110000).pat? 1 3 = some (loaded (fileA zeroDg)) ∧ (outS 0x110000).ctx? 1 = some ctxA ∧
        (queueA (outE 0x110000 4)).entry? 5 = some (outE 0x110000 4) ∧ (outE 0x110000 4).st = .begun ∧ (doneW 1).stage = .running ∧
        (doneW 1).rerun = false ∧ workDone (loaded (fileA zeroDg)).file (doneW 1) = true ∧ (doneW 1).toFetch = [] ∧
        (outS 0x110000).reqs = []) ∧
    outFault (outS 0x110000) ctxA (fileA zeroDg) 0x110000 = some 0x110000 ∧
    ((outTwo).work? 1 5 = some ({ workA .running [] with vuDone := [0, 1] }) ∧ (outTwo).queue? 1 = some (queueA (outE 0x100000 8192)) ∧
        (outTwo).pat? 1 3 = some (loaded fileTwo) ∧ (outTwo).ctx? 1 = some ctxA ∧
        (queueA (outE 0x100000 8192)).entry? 5 = some (outE 0x100000 8192) ∧ (outE 0x100000 8192).st = .begun ∧
        ({ workA .running [] with vuDone := [0, 1] }).stage = .running ∧ ({ workA .running [] with vuDone := [0, 1] }).rerun = false ∧
        workDone (loaded fileTwo).file ({ workA .running [] with vuDone := [0, 1] }) = true ∧
        ({ workA .running [] with vuDone := [0, 1] }).toFetch = [] ∧ (outTwo).reqs = []) ∧
    ((outChunks fileTwo)[0]? = some (1, 0, 0, 4) ∧ 0 + 1 < (outChunks fileTwo).length ∧ outFault outTwo ctxA fileTwo 0x100000 = none ∧
        rangeFault outTwo ctxA (0x100000 + 0) 4 true = none) ∧
    ({ outS 0x100000 with funcs := live.funcs.set 0 { enabled := true, ats := true } } : State).works = (outS 0x100000).works ∧
    outFault { outS 0x100000 with funcs := live.funcs.set 0 { enabled := true, ats := true } } ctxA (fileA zeroDg) 0x100000 = none ∧
    outWanted { outS 0x100000 with funcs := live.funcs.set 0 { enabled := true, ats := true } } ctxA (fileA zeroDg) 0x100000 = some (0x100000, 64) ∧
    (outEnd.work? 1 5 = some { doneW 1 with written := 1 } ∧ (outChunks (fileA zeroDg)).length ≤ 1) := by
  and_intros <;> decide +kernel

/-- A run-ahead response. -/
theorem test_meets_FeedDogsAndWriteOut_3 :
    (dogS false false false).reqs.find? (·.id == 8) = some (dogR false false false) := by decide +kernel

theorem test_meets_LoadsPassesAndFallback_1 :
    ((onCoreS (fileB 1) none).pats.find? (·.handle == 3) = some (loaded (fileB 1)) ∧
        mayLoad (onCoreS (fileB 1) none) (loaded (fileB 1)) 0 = true ∧ hostsSet (loaded (fileB 1)) 0 0 0 0 = true ∧
        batchOpen (onCoreS (fileB 1) none) (loaded (fileB 1)) 0 none = true ∧ 0 < nPasses (fileB 1) 0 ∧ 0 < nSets (fileB 1) 0 ∧
        pieceDynamic (fileB 1) 0 = false ∧ pieceExpert (fileB 1) 0 = false) ∧
    blockSource (loaded (fileB 1)) none none 0 0 0 = some blockB ∧
    (loadMatches (loaded (fileB 1)) 0 0 0 (flipBytes [] blockB) = true ∧ loadMatches (loaded (fileB 1)) 0 0 0 (flipBytes [(511, 128)] blockB) = true ∧
        loadMatches (loaded (fileB 1)) 0 0 0 (flipBytes [(0, 1)] blockB) = false ∧
        loadMatches (loaded (fileB 1)) 0 0 0 (flipBytes [(515, 0)] blockB) = false) :=
  ⟨by decide +kernel, by decide +kernel, by decide +kernel⟩

def blkZ : Block := { blkC with item := none }
def dynS : State := { onCoreS fileN_ (some blkC) with bufs := [{ bufD with stream := 2 }] }
theorem test_meets_LoadsPassesAndFallback_2 :
    ((onCoreS (fileB 1) (some blkL)).work? 1 5 = some workD ∧ ((onCoreS (fileB 1) (some blkL)).core 0).block = some blkL ∧
        (onCoreS (fileB 1) (some blkL)).pat? 1 3 = some (loaded (fileB 1)) ∧
        passReady (onCoreS (fileB 1) (some blkL)) (loaded (fileB 1)) workD blkL 0 0 0 0 0 = true ∧ blkL.analog = false) ∧
    (parityOk (decisions ((onCoreS (fileB 1) (some blkL)).core 0) blkL (operandBytes (fileB 1) 0 (pieceInput (fileB 1) workD 0) 0 0) zeros) = true ∧
        doubtful (decisions ((onCoreS (fileB 1) (some blkL)).core 0) blkL (operandBytes (fileB 1) 0 (pieceInput (fileB 1) workD 0) 0 0) zeros) = false) ∧
    ((onCoreS fileC (some blkZ)).work? 1 5 = some workD ∧ ((onCoreS fileC (some blkZ)).core 0).block = some blkZ ∧
        (onCoreS fileC (some blkZ)).pat? 1 3 = some (loaded fileC) ∧
        passReady (onCoreS fileC (some blkZ)) (loaded fileC) workD blkZ 0 0 0 0 0 = true ∧ blkZ.analog = true) ∧
    (dynS.work? 1 5 = some workD ∧ (dynS.core 0).block = some blkC ∧ dynS.pat? 1 3 = some (loaded fileN_) ∧
        passReady dynS (loaded fileN_) workD blkC 0 0 0 0 0 = true ∧ pieceDynamic fileN_ 0 = true) :=
  ⟨by decide +kernel, flat_good _ _ _ rfl rfl, by decide +kernel, by decide +kernel⟩

/-- A group's scale word with a wrong tag. -/
def fileG : List Byte :=
  mkFile zeroDg [(1, 1, fields [(2, 0), (2, 0), (4, 0), (8, 0xFFFF000004080100), (4, 64), (2, 1), (2, 0xFFFF), (4, 0), (4, 0),
    (4, 0xFFFFFFFF), (2, 0xFFFF), (2, 1), (2, 1), (2, 5000), (4, 100), (1, 1), (15, 0)]), (2, 1, blockB), (3, 1, leBytes 4 (2 ^ 24)),
    (7, 2, stream 0xFFFF 0 2 0 0 64 ++ stream 0 0xFFFF 2 0 0 4)]
def vecP (f : List Byte) : Pattern := { loaded f with places := [], onFallback := [0] }
/-- The hypotheses of the fallback's clauses, of piece 0 without an expert. -/
def fbOk (f : List Byte) : Bool :=
  (fbS f).work? 1 5 == some workD && (fbS f).pat? 1 3 == some (vecP f) && decide (0 < nPieces f) && onVector (vecP f) 0
    && pieceReady f workD 0 && !pieceDone f workD 0 && granted (fbS f) f workD 0 && shuttleRuns (fbS f) 1
    && !(vuExperts (vecP f) workD 0).isEmpty && !pieceExpert f 0 && !pieceDynamic f 0 && pieceWeights f 0
theorem test_meets_LoadsPassesAndFallback_3 :
    fbOk (fileB 1) = true ∧ (fbS (fileB 1)).work? 1 5 = some workD ∧ (fbS (fileB 1)).pat? 1 3 = some (vecP (fileB 1)) ∧
    (fbS fileD).pat? 1 3 = some (vecP fileD) ∧ (fbS fileG).pat? 1 3 = some (vecP fileG) ∧ badBlock (vecP (fileB 1)) workD 0 = none ∧
    (directPiece (vecP (fileB 1)) 0 workD).isOk = true ∧
    fbOk fileD = true ∧ badBlock (vecP fileD) workD 0 = some (none, 0, 0) ∧
    fbOk fileG = true ∧ badBlock (vecP fileG) workD 0 = none ∧
    (match directPiece (vecP fileG) 0 workD with | .error e => e.1 == .scaleSkew | .ok _ => false) = true := by
  and_intros <;> decide +kernel

theorem test_meets_FourFailedAttemptsHoldTheCore :
    doubtful (decisions coreZ blkB (List.replicate 64 0) noise) = true ∧
    parityOk (decisions coreZ blkB (List.replicate 64 0) zeros) = true ∧
    doubtful (decisions coreZ blkB (List.replicate 64 0) zeros) = false :=
  ⟨flat_bad coreZ blkB _ rfl rfl, flat_good coreZ blkB _ rfl rfl⟩

theorem test_meets_ExactPassesComputeTheDirectSum :
    (numAnalog (pieceNum (fileB 1) 0) = false ∧ numAFmt (pieceNum (fileB 1) 0) = 1 ∧ numWFmt (pieceNum (fileB 1) 0) < 3 ∧
        0 ∈ vecsOf (fileB 1) 0 0 ∧ 0 < setRows (fileB 1) 0 0 ∧ setRows (fileB 1) 0 0 * blkB.wb ≤ 64 ∧ pieceRed (fileB 1) 0 = 64) ∧
    ((passElems (fileB 1) 0 xsB 0 0).all (fun e => decide (-128 ≤ e ∧ e < 128)) = true) ∧
    (∀ r k, r < 64 → k < 8 → levelAt [] r 1 k = popHalf (sliceOf (operandBytes (fileB 1) 0 xsB 0 0) k &&& blkB.row r) 1) :=
  ⟨by decide +kernel, by decide +kernel, by
    intro r k hr hk
    have : ∀ i : Fin 64, blkB.row i.val = 0 := by decide +kernel
    rw [this ⟨r, hr⟩, show (sliceOf (operandBytes (fileB 1) 0 xsB 0 0) k &&& 0) = (0 : BitVec 64) from BitVec.and_zero]; rfl⟩

def stripeW (l : List Work) : State := { live with pats := [{ loaded stripeF with stripeWant := some 1 }], works := l }
theorem test_meets_StripesSnagsAndResidents_1 :
    (pieceBatches fileN_ 0 = true ∧ (loaded fileN_).batchDue.contains 0 = false ∧ (onCoreS fileN_ none).pats = [loaded fileN_] ∧
      (waitsAt (onCoreS fileN_ none) (loaded fileN_) 0).isEmpty = false ∧
      (waitsAt { onCoreS fileN_ none with works := [] } (loaded fileN_) 0).isEmpty = true) ∧
    ((stripeS 0).pats.length = 2 ∧ (stripeS 2).pats.length = 2) ∧
    (stripeW []).pats = [{ loaded stripeF with stripeWant := some 1 }] ∧ (stripeW [workA .running []]).works.length = 1 ∧
    ((dutyS 9999).tiles[(0 : Fin 12)].st = .locked ∧ ((dutyS 9999).core 0).drive = 9999 ∧ coreFull (dutyS 9999) 0 = 60000) ∧
    (biasS 300 .dark).tiles[(11 : Fin 12)].st ≠ .locked :=
  by decide +kernel

/-- Two streams of pattern 3 that have waited on each other for n scans. -/
def snagE (n : Nat) : State := { snagS [] with edges := [⟨(3, 0), (3, 1), n⟩, ⟨(3, 1), (3, 0), n⟩] }
theorem test_meets_StripesSnagsAndResidents_2 :
    (∀ e ∈ (snagE 9).edges, e.scans < 10) ∧ (snagE 10).pats = [loaded fileS] ∧ (0 : Nat) ≠ 1 ∧ 10 ≤ 10 ∧
    (snagE 10).edges = [⟨((loaded fileS).handle, 0), ((loaded fileS).handle, 1), 10⟩, ⟨((loaded fileS).handle, 1), ((loaded fileS).handle, 0), 10⟩] ∧
    divertOf (snagE 10) [((loaded fileS).handle, 1), ((loaded fileS).handle, 0)] = some ((loaded fileS).handle, 1) ∧
    (loaded fileS).diverted = [] := by decide +kernel

def holdP : State := { moveP with works := [workD] }
def placeA : Place := { piece := 0, cores := [4], from_ := [0] }
/-- A former Tailor whose standby has begun to take over, with a tile that has not yet followed. -/
def tailorS (t : Fin 12) (l : List Change) : State :=
    { updTile t (fun x => { x with pend := l }) live with tailor := { live.tailor with takeover := true } }
theorem test_meets_StripesSnagsAndResidents_3 :
    (moveP.pats.find? (·.handle == 3) = some (loaded (fileB 1)) ∧ moveP.mod.mstate = .ready ∧
        { piece := 0, cores := [0] } ∈ (loaded (fileB 1)).places ∧ moveShape moveP (loaded (fileB 1)) 0 [0] [4] = true ∧
        moveCause moveP (loaded (fileB 1)) { piece := 0, cores := [0] } [4] = true) ∧
    (∀ c ∈ [(4 : Fin 48)], mayPlace moveP 1 (fileB 1) 0 c = true ∨ c ∈ [(0 : Fin 48)]) ∧
    holdsWork holdP (loaded (fileB 1)) placeA.piece placeA.from_ = true ∧
    (((turnsS (some (1, 3))).core 5).st = .running ∧ nextResident (turnsS (some (1, 3))) 5 = some (1, 2) ∧
        nextResident (turnsS (some (1, 2))) 5 = some (1, 3) ∧
        nextResident (turnsS none) 5 = some (1, 2)) ∧
    live.tailor.standbyUp = true ∧
    ((tailorS 11 []).tailor.takeover = true ∧ (∀ t : Fin 12, (tailorS 11 []).tiles[t].st = .locked → .takeover ∉ (tailorS 11 []).tiles[t].pend)) ∧
    ((tailorS 11 [.takeover]).tiles[(11 : Fin 12)].st = .locked ∧ .takeover ∈ (tailorS 11 [.takeover]).tiles[(11 : Fin 12)].pend) := by
  and_intros <;> decide +kernel

theorem test_meets_CalibrateAndSelfTest_1 :
    Turn (lit (calS 0xFFF 7)) 0x0B 1 5 (queueA (calE 0xFFF 7)) ctxA (calE 0xFFF 7) ∧
    (lit (calS 0xFFF 7)).mod.mstate = .safelight ∧
    Turn (calS 0 7) 0x0B 1 5 (queueA (calE 0 7)) ctxA (calE 0 7) ∧
    ((calS 0 7).mod.mstate ≠ .safelight ∧ (calS 0 7).calib = none ∧
        (BitVec.ofNat 12 (desc16 (calE 0 7).desc 16) = 0 ∨ BitVec.ofNat 3 (descByte (calE 0 7).desc 18) = 0)) ∧
    Turn (calS 4095 0) 0x0B 1 5 (queueA (calE 4095 0)) ctxA (calE 4095 0) ∧
    ((calS 4095 0).mod.mstate ≠ .safelight ∧ (calS 4095 0).calib = none ∧
        (BitVec.ofNat 12 (desc16 (calE 4095 0).desc 16) = 0 ∨ BitVec.ofNat 3 (descByte (calE 4095 0).desc 18) = 0)) ∧
    Turn (calS 0x800 1) 0x0B 1 5 (queueA (calE 0x800 1)) ctxA (calE 0x800 1) ∧
    (BitVec.ofNat 12 (desc16 (calE 0x800 1).desc 16) = 1#12 <<< (11 : Fin 12).val ∧ BitVec.ofNat 3 (descByte (calE 0x800 1).desc 18) = 1 ∧
        (calS 0x800 1).tiles[(11 : Fin 12)].st = .locked ∧ (calS 0x800 1).tiles[(11 : Fin 12)].testing = false ∧
        (calS 0x800 1).tiles[(11 : Fin 12)].cal.restore = false ∧ (calS 0x800 1).tiles[(11 : Fin 12)].cores[(3 : Fin 4)].canWalk = true) :=
  ⟨turn_of_ok (by decide +kernel), by decide +kernel, turn_of_ok (by decide +kernel), by decide +kernel, turn_of_ok (by decide +kernel),
      by decide +kernel, turn_of_ok (by decide +kernel), by decide +kernel⟩

theorem test_meets_CalibrateAndSelfTest_2 :
    Turn (lit (withEntry (testE 0xC00))) 0x0C 1 5 (queueA (testE 0xC00)) ctxA (testE 0xC00) ∧
    Turn (withEntry (testE 0xC00)) 0x0C 1 5 (queueA (testE 0xC00)) ctxA (testE 0xC00) ∧
    ((withEntry (testE 0xC00)).calib = none ∧ (withEntry (testE 0xC00)).selfTest = none ∧
        (∀ t : Fin 12, (withEntry (testE 0xC00)).tiles[t].testing = false) ∧
        (List.finRange 12).find? (fun t => (BitVec.ofNat 12 (desc16 (testE 0xC00).desc 16)).getLsbD t.val && (withEntry (testE 0xC00)).tiles[t].st == .locked && !tileUsed (withEntry (testE 0xC00)) t) = some 10) ∧
    (stS.selfTest = some { q := 1, seq := 5, tiles := 0xC00, tested := 0x400, failed := 0x400 } ∧ stS.tiles[(11 : Fin 12)].testing = true ∧
        stS.calib = none ∧ (0xC00#12) &&& ~~~(0x400 ||| (1#12 <<< (11 : Fin 12).val)) = 0 ∧ (0xE#4) ≠ 0xF ∧ (0xE#4) ≠ 0 ∧ ∀ u : Fin 12, u ≠ 11 →
            stS.tiles[u].testing = false) :=
  ⟨turn_of_ok (by decide +kernel), turn_of_ok (by decide +kernel), by decide +kernel, by decide +kernel⟩

/-- A run over tile 11 in progress for queue 1's command, or for another one; a test of tiles 10 and 11 with tile 11 under test. -/
def runK (w : BitVec 12) : Calibrate := { by_ := [(1, 9)], tiles := 0x800, opts := 1, skipped := 0, busy := 0x800, waiting := w }
def mergeS : State := { calS 0xC00 3 with calib := some (runK 0) }
def beginS : State := { withEntry { calE 0x800 1 with st := .begun } with calib := some (runK 0) }
def busyTest : State := { stS with selfTest := some { q := 1, seq := 5, tiles := 0xC00 } }
def busyOther : State := { withEntry (testE 0) with selfTest := some { q := 1, seq := 9, tiles := 1 } }
def waitStop : State := { stS with calib := some (runK 0x800) }
theorem test_meets_CalibrateAndSelfTest_3 :
    Turn mergeS 0x0B 1 5 (queueA (calE 0xC00 3)) ctxA (calE 0xC00 3) ∧ mergeS.calib = some (runK 0) ∧
    Turn beginS 0x0B 1 5 (queueA { calE 0x800 1 with st := .begun }) ctxA { calE 0x800 1 with st := .begun } ∧
    Turn (withEntry (testE 0)) 0x0C 1 5 (queueA (testE 0)) ctxA (testE 0) ∧
    Turn busyOther 0x0C 1 5 (queueA (testE 0)) ctxA (testE 0) ∧ busyOther.selfTest ≠ none ∧
    (busyTest.tiles[(11 : Fin 12)].testing = true ∧ (0xC00#12) &&& ~~~(0 ||| (1#12 <<< (11 : Fin 12).val)) ≠ 0) ∧
    (waitStop.calib = some (runK 0x800) ∧ (runK 0x800).waiting.getLsbD (11 : Fin 12).val = true ∧
      waitStop.tiles[(11 : Fin 12)].testing = true) :=
  ⟨turn_of_ok (by decide +kernel), rfl, turn_of_ok (by decide +kernel), turn_of_ok (by decide +kernel), turn_of_ok (by decide +kernel),
   by decide +kernel, by decide +kernel, by decide +kernel⟩

def badRuler : CalResults := { noRes with rulerOk := false }
def dark8 : State := { stepS 8 id with mod := { live.mod with pllLost := [.converter 11] } }
theorem test_meets_CalibrationStepsAndDeadlines_1 :
    (([stepS 1 id, stepS 2 id, stepS 3 id, stepS 4 id, stepS 5 id, stepS 6 id, stepS 7 id,
        stepS 8 id].map fun s => s.tiles[(11 : Fin 12)].cal.step) = [1, 2, 3, 4, 5, 6, 7, 8] ∧
        ((stepS 8 id).tiles[(11 : Fin 12)].calLose []).allRetired = false) ∧
    (badRuler.rulerOk = false ∧ noRes.rulerOk = true) ∧
    (pllGood (stepS 8 id) 11 = true ∧ pllGood dark8 11 = false) ∧
    (((lastCore 2).tiles[(11 : Fin 12)].calLose badTwo.badRows).allRetired = true ∧ (lastCore 8).tiles[(11 : Fin 12)].cal.step = 8 ∧
        ((lastCore 8).tiles[(11 : Fin 12)].calLose badTwo.badRows).allRetired = true) ∧
    (storeRun (run1 0).runs ((hasRun 4 []).tiles[(11 : Fin 12)].calLose [])).allRetired = false ∧
    ((stepS 8 (fun c => { c with probed := true })).tiles[(11 : Fin 12)].cal.probed = true ∧
        (stepS 8 id).tiles[(11 : Fin 12)].cal.probed = false) ∧
    (undecided { storeRun (run1 0).runs ((hasRun 6 [0]).tiles[(11 : Fin 12)].calLose []) with cal := { (storeRun (run1 0).runs ((hasRun 6 [0]).tiles[(11 : Fin 12)].calLose [])).cal with meanTemp := 16 * 4000 } } = [] ∧
        undecided { storeRun (run1 16385).runs ((hasRun 6 [0]).tiles[(11 : Fin 12)].calLose []) with cal := { (storeRun (run1 16385).runs ((hasRun 6 [0]).tiles[(11 : Fin 12)].calLose [])).cal with meanTemp := 16 * 4000 } } = [(3, 66)]) := by
  and_intros <;> decide +kernel

theorem test_meets_CalibrationStepsAndDeadlines_2 :
    ((calib 11).mod.mstate = .calibrating ∧ 11 ≤ tilesLocked (calib 11) ∧ tilesLocked (calib 10) < 11) ∧
    (live.mod.mstate ≠ .calibrating ∧ (stepS 7 id).tiles[(11 : Fin 12)].st = .threading ∧ (stepS 7 id).mod.mstate ≠ .calibrating ∧
        live.tiles[(11 : Fin 12)].st ≠ .threading) :=
  ⟨by decide +kernel, by decide +kernel⟩

/-- Core 47 with row 65 in its slot, measured and judged or found bad. -/
def nextS (bad : Bool) : State := walkS [rowM 0 5] bad
def bigRing : RingCentre := { ch := 63, dq := 1000001, again := some 1100001 }
def farRing : RingCentre := { ch := 63, dq := 1000001, again := some 1100002 }
theorem test_meets_RecalibrationSweepsAndSets_1 :
    ((slotS (fun c => { c with walkNext := 65 })).tiles[coreTile 47].st = .locked ∧
        (slotS (fun c => { c with walkNext := 65 })).tiles[coreTile 47].rest = .run ∧
        (slotS (fun c => { c with walkNext := 65 })).tiles[coreTile 47].pend = [] ∧
        (slotS (fun c => { c with walkNext := 65 })).sec.window ≠ some (coreTile 47).val ∧
        (∀ k : Fin 4, (slotS (fun c => { c with walkNext := 65 })).tiles[coreTile 47].cores[k].faulty = []) ∧
        ((slotS (fun c => { c with walkNext := 65 })).core 47).canWalk = true ∧
        ((slotS (fun c => { c with walkNext := 65 })).core 47).walk = none ∧
        ((slotS (fun c => { c with walkNext := 65 })).core 47).baste = none) ∧
    ([nextS false, nextS true].all fun s => s.tiles[coreTile 47].st == .locked && s.tiles[coreTile 47].pend == [] && (s.core 47).walk == some 65) ∧
    ([(nextS false, false), (nextS true, true)].all fun x => (x.1.core 47).slotBad == x.2) ∧
    (∀ b ∈ [false, true], (nextS b).tiles[coreTile 47].st = .locked ∧ (nextS b).tiles[coreTile 47].rest = .run ∧
        (nextS b).tiles[coreTile 47].pend = [] ∧ ((nextS b).core 47).st ≠ .retired ∧ ((nextS b).core 47).sweep = false ∧
        ((nextS b).core 47).faulty = [] ∧ ((nextS b).core 47).walk = some 65 ∧ ((nextS b).core 47).walkNext ≠ 65 ∧
        ((nextS b).core 47).slotBad = b) ∧
    (((ringS 1000).core 47).walk = some 65 ∧
        ((ringS 1000).tiles[(11 : Fin 12)].ring (ringKey 3 65 63)).eta * ((1000000 : Int) - ((ringS 1000).tiles[(11 : Fin 12)].ring (ringKey 3 65 63)).dq).natAbs = 1000000000) ∧
    (1000000000 < ((ringS 1000).tiles[(11 : Fin 12)].ring (ringKey 3 65 63)).eta * (bigRing.dq - ((ringS 1000).tiles[(11 : Fin 12)].ring (ringKey 3 65 63)).dq).natAbs ∧
        ((ringS 1000).tiles[(11 : Fin 12)].ring (ringKey 3 65 63)).eta * ((1100001 : Int) - bigRing.dq).natAbs = 100000000 ∧
        100000000 < ((ringS 1000).tiles[(11 : Fin 12)].ring (ringKey 3 65 63)).eta * ((1100002 : Int) - farRing.dq).natAbs) ∧
    ((walkS [] false).tiles[coreTile 47].st = .locked ∧ ((walkS [] false).core 47).walk = some 65 ∧
        (((walkS [] false).core 47).row 65).meas = []) ∧
    ((((walkS [rowM 0 5] false).core 47).row 65).meas = [rowM 0 5] ∧ halvesAgree (rowM 0 5).b (rowM 0 5).b = true ∧
        halvesAgree (rowM 0 5).b (rowM 16384 5).b = true ∧ halvesAgree (rowM 0 5).b (rowM 16385 5).b = false) ∧
    ((judgeRow (adoptHalf (rowM 0 5).a (rowM 0 5).a) (adoptHalf (rowM 0 5).b (rowM 16384 45875).b) 45875).isSome = true ∧
        (judgeRow (adoptHalf (rowM 0 5).a (rowM 0 5).a) (adoptHalf (rowM 0 5).b (rowM 16384 45876).b) 45876).isNone = true) ∧
    ((((walkS [rowM 0 5, rowM 20000 5] false).core 47).row 65).meas = [rowM 0 5, rowM 20000 5] ∧
        ((walkS [rowM 0 5, rowM 20000 5] false).core 47).slotBad = false ∧
        (pickPair RowMeas.b (rowM 0 5) (rowM 20000 5) (rowM 40000 5)).isNone = true ∧
        (pickPair RowMeas.b (rowM 0 5) (rowM 20000 5) (rowM 0 5)).isSome = true) := by
  and_intros <;> decide +kernel

theorem test_meets_RecalibrationSweepsAndSets_2 :
    (stuckS.tiles[coreTile 47].st = .locked ∧ (stuckS.core 47).st ≠ .retired ∧ (stuckS.core 47).sweep = false ∧
        (stuckS.core 47).canWalk = false) ∧
    ((sweepS.core 47).sweep = true ∧ (sweepS.core 47).st ≠ .retired) :=
  ⟨by decide +kernel, by decide +kernel⟩

theorem test_meets_RecalibrationSweepsAndSets_3 :
    ((commitS true id).sec.debug = 0 ∧ (commitS true id).tiles[(11 : Fin 12)].st = .locked ∧ vaultWritable (commitS true id) = true ∧
        vaultWritable (commitS false id) = false) ∧
    ((commitS true (fun c => { c with retryDue := true })).tiles[(11 : Fin 12)].cal.retryDue = true) ∧
    ((commitS true (fun c => { c with mirrorDue := true })).tiles[(11 : Fin 12)].cal.mirrorDue = true ∧ (commitS true id).mod.wasReady = true ∧
        isStaging (commitS true id) = false) :=
  ⟨by decide +kernel, by decide +kernel, by decide +kernel⟩

/-- Row 65 under RESTORE with one measurement; a retired core in its sweep. -/
def backS : State := slotS (Core.updRow 65 (fun r => { r with quar := true, restoreDue := true, meas := [rowM 0 5] }))
def deadS : State := slotS (fun c => { c with st := .retired, sweep := true })
def allGood : List (Fin 67 × RowMeas × RowMeas) := (List.finRange 67).map fun r => (r, rowM 0 5, rowM 0 5)
theorem test_meets_RecalibrationSweepsAndSets_4 :
    ((backS.core 47).walk ≠ some 65 ∧ ((backS.core 47).row 65).restoreDue = true ∧ ((backS.core 47).row 65).quar = true ∧
      (backS.core 47).st ≠ .retired ∧ ((backS.core 47).row 65).meas = [rowM 0 5] ∧ halvesAgree (rowM 0 5).a (rowM 0 5).a = true ∧
      (judgeRow (adoptHalf (rowM 0 5).a (rowM 0 5).a) (adoptHalf (rowM 0 5).b (rowM 0 5).b) 5).isSome = true) ∧
    ((deadS.core 47).st = .retired ∧ (deadS.core 47).sweep = true ∧ (sweepFails (deadS.core 47).sweepBad allGood).length ≤ 1 ∧
        1 < (sweepFails (deadS.core 47).sweepBad []).length) :=
  by decide +kernel

def debugS : State := { commitS true id with sec := { live.sec with debug := 1 } }
theorem test_meets_RecalibrationSweepsAndSets_5 : debugS.sec.debug ≠ 0 ∧ debugS.tiles[(11 : Fin 12)].st = .locked := by decide +kernel

theorem test_meets_SafelightIsEnteredAndLeft_1 :
    ((inState .ready).mod.mstate = .ready ∧ lostTwo.mod.mstate = .calibrating ∧ pfOpen (inState .ready) 0x58 = true ∧
        2 ≤ lostCount lostTwo) ∧
    worst hotHk = some (252, 1) ∧
    (hotS.hk.limit = 810 ∧ hotS.hk.coolingFault = false) ∧
    ((slS 1 false).mod.mstate = .safelight ∧ (slS 1 false).mod.slExit = false ∧ pfOpen (slS 1 false) 0x58 = true) ∧
    (inState .fault).mod.mstate = .fault :=
  ⟨by decide +kernel, worst_of _ 7001 rfl _ (by decide +kernel), by decide +kernel, by decide +kernel, by decide +kernel⟩

/-- In housekeeping's own swap window. -/
def swapS (s : State) : State := { s with sec := { s.sec with window := some 19 } }
theorem test_meets_SafelightIsEnteredAndLeft_2 :
    (pfOpen (inState .ready) 0x58 = true ∧ (inState .ready).mod.mstate = .ready) ∧
    ((slS 5 false).mod.mstate = .safelight ∧ (slS 5 false).mod.slExit = false ∧ pfOpen (slS 5 false) 0x58 = true ∧
        ((slS 5 false).mod.slCause.getLsbD 0 || (slS 5 false).mod.slCause.getLsbD 2) = true) ∧
    ((swapS (inState .ready)).sec.window = some 19 ∧ pfOpen (swapS (inState .ready)) 0x58 = true ∧ (swapS (slS 1 false)).sec.window = some 19) ∧
    ((slS 10 false).mod.slCause.getLsbD 0 = false ∧ (slS 10 false).mod.slCause.getLsbD 2 = false) ∧
    (coolS.hk.coolingFault = true ∧ coolS.mod.slCause = 1 ∧ laserS'.hk.laserSupplyOk = false ∧ laserS'.mod.slCause = 4) ∧
    coolingGone coolHk = true ∧
    ((slS 0 true).mod.slExit = true ∧ tilesLocked (slS 0 true) < 11 ∧ 11 ≤ tilesLocked { slS 0 true with tiles := live.tiles }) :=
  ⟨by decide +kernel, by decide +kernel, by decide +kernel, by decide +kernel, by decide +kernel, goneCool _ rfl, by decide +kernel⟩

theorem test_meets_FaultAndPartialResets_1 :
    (manyS.mod.rails = true ∧ manyS.mod.perst = false ∧ manyS.mod.mstate ≠ .fault) ∧
    ((inState .fault).mod.mstate = .fault ∧ (inState .fault).mod.rails = true ∧ (inState .fault).mod.perst = false) :=
  ⟨by decide +kernel, by decide +kernel⟩

theorem test_meets_FaultAndPartialResets_2 :
    (booted (resetsS .shuttle 3 2 []) = true ∧ (resetsS .shuttle 3 2 []).mod.rails = true ∧ (resetsS .shuttle 3 2 []).mod.perst = false ∧
        (resetsS .shuttle 3 2 []).power.hubsUp.getLsbD 3 = true ∧ (resetsS .shuttle 3 2 []).mod.resets.running.contains (.shuttle, 3) = false ∧
            recentResets (resetsS .shuttle 3 2 []) .shuttle 3 3609 < 3) ∧
    (3 ≤ recentResets (resetsS .shuttle 3 3 []) .shuttle 3 3609 ∧ (resetsS .shuttle 3 3 []).mod.mstate ≠ .fault) ∧
    (recentResets (resetsS .housekeeping 0 3 []) .housekeeping 0 3610 < 3 ∧
        (resetsS .housekeeping 0 3 []).mod.resets.running.contains (.housekeeping, 0) = false) ∧
    3 ≤ recentResets (resetsS .vault 0 3 []) .vault 0 100 ∧
    (recentResets (resetsS .tile 11 0 []) .tile 11 100 < 3 ∧ (resetsS .tile 11 0 []).power.tilesUp.getLsbD 11 = true ∧
        (resetsS .tile 11 0 []).tiles[(11 : Fin 12)].st = .locked ∧ 3 ≤ recentResets (resetsS .tile 11 3 []) .tile 11 100) ∧
    ((resetsS .hubDie 3 0 []).power.hubsUp.getLsbD 3 = true ∧ recentResets (resetsS .hubDie 3 0 []) .hubDie 3 100 < 3) ∧
    (Proc.hubDie, 3) ∈ (resetsS .hubDie 3 0 [(.hubDie, 3)]).mod.resets.running ∧
    recentResets (resetsS .management 0 0 []) .management 0 100 < 3 ∧
    (Proc.shuttle, 3) ∈ (resetsS .shuttle 3 0 [(.tile, 1), (.shuttle, 3)]).mod.resets.running := by
  and_intros <;> decide +kernel

/-- What a mount reads: two programmed copies of spool 7's latest record are bad, or one. -/
def readsA : MountReads := { credentialOk := true, bad := [(7, 0), (7, 1)] }
def readsB : MountReads := { credentialOk := true, bad := [(7, 0)] }
/-- A record that stands in two copies. -/
def recA : CommitRec := { recordOf { q := 1, seq := 5, spool := 7, off := 0, len := 2, data := [], space := 2, copies := 0 } (libS [7, 7]) with copies := 2 }
def beforeA : Committed := { record := none, length := 1, gen := 0, data := [(0, 4)] }
def keptA : Spool := { libS [7, 7] with gen := 1, record := some recA, prev := some beforeA }
theorem test_meets_VaultCommitsScrubsAndDieLinks_1 :
    ((xactS 0).vault.st = 2 ∧ (xactS 0).vault.writes = [{ q := 1, seq := 5, spool := 7, off := 4096, len := 4096, data := [(4096, 3)], space := 4096, copies := 0 }] ∧
        (xactS 0).vault.spools = [{ libS [7, 7] with gen := 4 }] ∧ (xactS 0).vault.owed = []) ∧
    (vaultRefuses mountS = false ∧ mountS.vault.st < 2 ∧ mountS.mod.rails = true ∧ mountS.mod.resets.running.contains (.vault, 0) = false ∧
        mountS.vault.holdupFault = false ∧ 0 < 99 ∧ 99 ≤ 100 ∧ readsA.credentialOk = true) ∧
    (keptA.record = some recA ∧ keptA.prev = some beforeA ∧ (∃ k, k < recA.copies ∧ (keptA.id, k) ∉ readsB.bad) ∧
        ∀ k, k < recA.copies → (keptA.id, k) ∈ readsA.bad) :=
  ⟨by decide +kernel, by decide +kernel, rfl, rfl, ⟨1, by decide⟩, by decide⟩

/-- The 48 V input is gone; one copy is still programming (R283). -/
def darkX : State := { xactS 0 with mod := { live.mod with rails := false }, vault := { (xactS 0).vault with st := 0 } }
theorem test_meets_VaultCommitsScrubsAndDieLinks_2 :
    ((darkX.mod.rails = false ∧ darkX.vault.writes = (xactS 0).vault.writes) ∧ (xactS 0).vault.writes.map (·.copies) = [0] ∧
        (xactS 1).vault.writes.map (·.copies) = [1]) ∧
    (holdS.vault.tempMin = some 200 ∧ holdS.vault.tempMax = some 7300) :=
  ⟨by decide +kernel, by decide +kernel⟩

theorem test_meets_VaultCommitsScrubsAndDieLinks_3 :
    tierS.vault.st = 2 ∧ tierS.vault.writeHold = false ∧ tierS.vault.readHold = false ∧
        tierS.power.lpUp = true ∧ tierS.repairs.find? (fun r => r.tier == 2 && r.addr == 256 * 16) = some { tier := 2, addr := 0x1000, errs := 1 } ∧
            0 < 76 ∧ tierS.d2d.find? (·.1 == 4) = some (4, 0xFFFF, 2, false) ∧ tierS.d2d.find? (·.1 == 5) = some (5, 7, 3, false) := by decide +kernel

/-- A fetch that reads spool 7 stands in progress while a write to it waits. -/
def readerS : State := { xactS 0 with pats := [{ loaded fileX with spools := [7], fetches := [{ reqX 1 with begun := true }] }] }
theorem test_meets_VaultCommitsScrubsAndDieLinks_4 :
    readersOf readerS 7 = [(3, 1)] ∧ readerS.vault.writes.map (·.copies) = [0] ∧
    (flit 0xFFFF true true true).seqNo = 0xFFFF ∧ (flit 7 true true false).tagOk = false ∧
    (4, (0xFFFF : BitVec 16), 2, false) ∈ tierS.d2d ∧ (5, (7 : BitVec 16), 3, false) ∈ tierS.d2d := by decide +kernel

theorem test_meets_EventsAreLoggedAndCommitted :
    (evA.severity ≠ 3 ∧ ((logS [entryA 7]).mgmt.log.filter committable).length < 1023 ∧ (logS [entryA 7]).mgmt.log.length < 16384 ∧
        (logS [entryA 7]).mgmt.dropped = 0 ∧ (logS [entryA 7]).mgmt.conns = []) ∧
    ((logS [entryA 7]).mgmt.log.any (folds evA 1501) = false ∧ folds evA 1500 (entryA 7) = true ∧ (logS [entryA 7]).mgmt.log = [entryA 7]) ∧
    (vaultWritable (logS [entryA 7]) = true ∧ vaultWritable (commitS false id) = false) ∧
    (bareS.mgmt.up = true ∧ bareS.vault.st ≠ 2 ∧ bareS.vault.st ≠ 3 ∧ bareS.mgmt.nextSeq = none ∧ bareS.mgmt.conns = []) := by
  and_intros <;> decide +kernel

def evC : Event := { evA with severity := 3 }
theorem test_meets_EventsAreLoggedAndCommitted_2 :
    evC.severity = 3 ∧ vaultWritable (logS [entryA 7]) = true ∧ (logS [entryA 7]).mgmt.nextSeq = some 8 ∧
    (logS [entryA 7]).mgmt.unanchored = false ∧ (logS [entryA 7]).mgmt.dropped = 0 := by decide +kernel

theorem test_meets_UpdatesAndSwapWindows_1 :
    (pfOpen live 0x50014 = true ∧ live.sec.window = none ∧ live.sec.cmd = .none ∧ live.sec.updLen = 0) ∧
    (pfOpen stagingS 0x50014 = true ∧ stagingS.sec.window = none ∧ stagingS.sec.cmd ≠ .none ∧
        stagingS.sec.cmd = .stage (srcB 2 false) true) ∧
    ((secS fun x => { x with updLen := 5, fuses := { svn := 2 } }).sec.updLen ≠ 0 ∧
        (secS fun x => { x with updLen := 5, fuses := { svn := 2 } }).sec.cmd = .none ∧
        manifestAccepted (srcB 1 false).manifest (secS fun x => { x with updLen := 5, fuses := { svn := 2 } }) = false ∧
        manifestAccepted (srcB 2 false).manifest (secS fun x => { x with updLen := 5, fuses := { svn := 2 } }) = true) ∧
    ((secS (staged 1)).sec.recovery = false ∧ otherCode (secS (staged 1)) = 1 ∧ otherCode live ≠ 1) ∧
    ((actS 3 1 0 none).sec.cmd = .activate ∧ (actS 3 1 0 none).sec.updState = 3 ∧ manifestOf (actS 3 1 0 none) 0 = some factoryManifest ∧
        manifestOf (actS 3 1 0 none) (otherSlot (actS 3 1 0 none)) = some (manifestB 2 1) ∧
        handoverOk factoryManifest (manifestB 2 1) = true) ∧
    (manifestOf (actS 3 2 0 none) (otherSlot (actS 3 2 0 none)) = some (manifestB 2 2) ∧
        handoverOk factoryManifest (manifestB 2 2) = false) :=
  ⟨by decide +kernel, ⟨by decide +kernel, by decide +kernel, (fun h => by cases h), rfl⟩, by decide +kernel, by decide +kernel, by decide +kernel,
      by decide +kernel⟩

theorem test_meets_UpdatesAndSwapWindows_2 :
    (pfOpen (actS 4 1 0 none) 0x50014 = true ∧ (actS 4 1 0 none).sec.window = none ∧ (actS 4 1 0 none).sec.swapped = 0 ∧
        (actS 4 1 1 none).sec.swapped ≠ 0 ∧ (actS 4 1 1 none).sec.cmd = .activate) ∧
    (live.sec.cmd = .none ∧ live.sec.rolling = false) ∧
    (pfOpen (iodS 8501 id) 0x50014 = true ∧ iodCool (iodS 8501 id) = false ∧ iodCool (iodS 8500 id) = true ∧ iodCool (iodS 0 id) = true ∧
        manifestOf (iodS 8500 id) (iodS 8500 id).sec.running = some factoryManifest ∧ (iodS 8500 id).sec.recovery = false ∧
        (iodS 8500 id).sec.window = none ∧ (iodS 8500 id).sec.cmd = .none) :=
  ⟨by decide +kernel, by decide +kernel, by decide +kernel⟩

theorem test_meets_UpdatesAndSwapWindows_3 :
    ((actS 4 1 12 none).sec.cmd = .activate ∧ (actS 4 1 12 none).sec.rolling = false ∧ (actS 4 1 12 none).sec.updState = 4 ∧
        (actS 4 1 12 none).sec.window = none ∧ nextDomain (actS 4 1 12 none) 12 = some 12) ∧
    ((actS 4 1 21 none).sec.cmd = .activate ∧ (actS 4 1 21 none).sec.rolling = false ∧ (actS 4 1 21 none).sec.updState = 4 ∧
        (actS 4 1 21 none).sec.window = none ∧ nextDomain (actS 4 1 21 none) 21 = some 21) ∧
    nextDomain (actS 4 1 11 none) (actS 4 1 11 none).sec.swapped = some (11 : Fin 12).val ∧
    ((actS 4 1 20 (some 20)).sec.deferred = [] ∧ (actS 4 1 20 (some 20)).sec.heldReports = [] ∧ (actS 4 1 20 (some 20)).sec.swapped ≠ 0 ∧
        (actS 4 1 20 (some 20)).sec.window = some 20) ∧
    (actS 4 1 17 (some 17)).sec.window = some 17 ∧
    ((actS 4 1 21 (some 21)).sec.window = some 21 ∧ (actS 4 1 21 (some 21)).sec.cmd = .activate ∧
        (actS 4 1 21 (some 21)).sec.rolling = false) := by
  and_intros <;> decide +kernel

/-- Housekeeping's window with what it was asked; an ACTIVATE that rolls back. -/
def askedS (a : Asked) : State := { actS 4 1 19 (some 19) with sec := { (actS 4 1 19 (some 19)).sec with asked := [a] } }
def rollS (ab : Bool) (d : Nat) : State := { actS 5 1 d (some d) with sec := { (actS 5 1 d (some d)).sec with rolling := true, aborting := ab } }
/-- A STAGE whose erasure still waits for NOR's temperature (R281). -/
def stagingN : State := { stagingS with sec := { stagingS.sec with norDue := true } }
theorem test_meets_UpdatesAndSwapWindows_4 :
    (srcB 2 true).fault = true ∧
    (stagingN.sec.cmd = .stage (srcB 2 false) true ∧ stagingN.sec.norDue = true ∧ stagingS.sec.norDue = false ∧
      pfOpen stagingN 0x50014 = true ∧ stagingN.sec.window = none ∧ (askedS .enter).hk.halted = false) ∧
    ((askedS (.power .sleep)).sec.window = some 19 ∧ (askedS (.power .sleep)).sec.asked = [.power .sleep] ∧
      (askedS .enter).sec.window = some 19 ∧ (askedS .enter).sec.asked = [.enter] ∧ (askedS .enter).sec.cmd = .activate ∧
      (askedS .enter).sec.rolling = false) ∧
    ((rollS true 0).sec.rolling = true ∧ (rollS true 0).sec.window = some 0 ∧ (rollS false 0).sec.aborting = false ∧
      (rollS false 21).sec.window = some 21 ∧ (rollS false 12).sec.window = some 12 ∧ (rollS false 12).sec.cmd = .activate) := by
  exact ⟨rfl, ⟨rfl, by decide +kernel, by decide +kernel, by decide +kernel, by decide +kernel, by decide +kernel⟩, by decide +kernel,
      by decide +kernel⟩

theorem test_meets_DebugTokensChangeTheState :
    (pfOpen live 0xF000C = true ∧ live.sec.window = none ∧ live.sec.cmd = .none ∧ live.sec.challenge = none ∧
        (secS fun x => { x with challenge := some 0xAB }).sec.challenge = some 0xAB) ∧
    ((secS fun x => { x with cmd := .activate }).sec.cmd ≠ .none ∧ pfOpen (secS fun x => { x with cmd := .activate }) 0xF000C = true) ∧
    ((subS 8500 false).sec.submit = some 0xAB ∧ tokenValid (subS 8500 false) 0xAB (token 1 3) = false ∧
        tokenValid (subS 8500 false) 0xAB (token 0 2) = false ∧ tokenValid (subS 8500 false) 0xAB (token 1 2) = true ∧
        tokenValid (subS 8500 false) 0xAB (token 2 2) = true ∧ tokenValid (subS 8500 false) 0xAB (token 3 2) = true) ∧
    ((subS 8500 true).sec.fuses.vdDisable = true ∧ (subS 8500 false).sec.fuses.vdDisable = false ∧ (subS 8500 false).sec.debug ≠ 2 ∧
        iodCool (subS 8501 false) = false ∧ iodCool (subS 8500 false) = true ∧ tokenValid (subS 8500 true) 0xAB (token 1 2) = true ∧
        tokenValid (subS 8501 false) 0xAB (token 2 2) = true) := by
  and_intros <;> decide +kernel

theorem test_meets_SpdmAnswersMeasuresAndKeys_1 :
    (live.doeOpen = true ∧ (negS id).doeOpen = true) ∧
    (live.sec.versioned = false ∧ live.sec.negotiated = false) ∧
    ((negS id).sec.versioned = true ∧ (negS id).sec.negotiated = true ∧ (negS id).sec.debug ≠ 2 ∧
        (SummaryHash.tcb : SummaryHash) ≠ .other) ∧
    ((negS fun x => { x with debug := 2 }).sec.debug = 2) ∧
    ((negS fun x => { x with chunks := some (9, 3, [1]) }).sec.chunks = some (9, 3, [1])) ∧
    ((negS fun x => { x with largeAns := some (9, 1, [2, 3]) }).sec.largeAns = some (9, 1, [2, 3])) ∧
    ((negS fun x => { x with largeAns := some (9, 1, zeros ++ List.replicate 16384 1) }).sec.largeAns.map (·.2.2.length) = some 17456) := by
  and_intros <;> decide +kernel

theorem test_meets_SpdmAnswersMeasuresAndKeys_2 :
    ((negS id).doeOpen = true ∧ (negS id).sec.versioned = true ∧ (negS id).sec.negotiated = true ∧ (negS id).sec.debug ≠ 2) ∧
    ((negS fun x => { x with window := some 3 }).doeOpen = true ∧ (negS fun x => { x with window := some 3 }).sec.window.isSome = true ∧
        reportSize (negS fun x => { x with window := some 3 }) ≤ 16384 ∧ (negS id).sec.window = none ∧ reportSize (negS id) ≤ 16384) ∧
    ((negS fun x => { x with sessions := [(1, true), (2, false)] }).sec.sessions.length = 2) ∧
    ((negS id).sec.sessions.length < 2 ∧ (negS id).sec.hybridReq = true ∧ kemPending (negS id) = false) ∧
    ((negS fun x => { x with kem := some ([1], some [2]) }).sec.kem = some ([1], some [2]) ∧
        (negS fun x => { x with hybridReq := false }).sec.hybridReq = false) ∧
    ((negS fun x => { x with kem := some ([1], none) }).sec.kem = some ([1], none)) ∧
    ((negS fun x => { x with sessions := [(1, false)] }).sec.sessions = [(1, false)]) ∧
    ((1, true) ∈ (negS fun x => { x with sessions := [(1, true), (2, false)] }).sec.sessions) := by
  and_intros <;> decide +kernel

theorem test_meets_SpdmAnswersMeasuresAndKeys_3 :
    (live.doeOpen = true ∧ (1, true) ∉ live.sec.sessions) ∧
    ((ideS []).doeOpen = true ∧ (1, true) ∈ (ideS []).sec.sessions ∧ (ideS []).link.flit = true ∧ (∀ i ∈ (ideS []).link.ide, i.id ≠ 7) ∧
        (ideS []).link.ide.length < 5) ∧
    ((∀ i ∈ fiveS.link.ide, i.id ≠ 7) ∧ 5 ≤ fiveS.link.ide.length) ∧
    ((ideS [strm 7 [0] false]).link.ide = [strm 7 [0] false] ∧ (strm 7 [0] false).id = 7 ∧ 0 ∈ (strm 7 [0] false).keys ∧
        (strm 7 [0] false).secure = false) := by
  and_intros <;> decide +kernel

/-- A module with 40 contexts: its report comes in chunks. -/
def manyCtx : State := { negS id with ctxs := (List.range 40).map fun i => { ctxA with num := i }, bolts := (List.range 40).map fun i => (i, i) }
theorem test_meets_SpdmAnswersMeasuresAndKeys_4 :
    manyCtx.sec.window = none ∧ 16384 < reportSize manyCtx ∧ manyCtx.sec.debug ≠ 2 ∧ manyCtx.doeOpen = true := by decide +kernel

theorem test_meets_ManagementSessionsAndProvisioning_1 :
    (booted live = true ∧ live.mod.rails = true ∧ live.mod.perst = false ∧ live.mgmt.dead = false ∧ live.mgmt.up = false ∧
        live.mgmt.credential = true ∧ live.sec.debug ≠ 2 ∧ mgmtServes live = false) ∧
    (({ live with mgmt := { live.mgmt with credential := false } } : State).mgmt.credential = false ∧
        booted { live with mgmt := { live.mgmt with credential := false } } = true) ∧
    (mgmtServes (mg fun m => { m with accounts := [acc 7 .operator], conns := conns 3, startup := true, authorities := [4] }) = true ∧
        (∀ c ∈ (mg fun m => { m with accounts := [acc 7 .operator], conns := conns 3, startup := true, authorities := [4] }).mgmt.conns, c.id ≠ 9) ∧
            (mg fun m => { m with accounts := [acc 7 .operator], conns := conns 3, startup := true, authorities := [4] }).mgmt.accounts ≠ [] ∧
        (mg fun m => { m with accounts := [acc 7 .operator], conns := conns 3, startup := true, authorities := [4] }).mgmt.conns.length < (if (mg fun m => { m with accounts := [acc 7 .operator], conns := conns 3, startup := true, authorities := [4] }).mgmt.startup then 4 else 16) ∧
        credOk (mg fun m => { m with accounts := [acc 7 .operator], conns := conns 3, startup := true, authorities := [4] }) (.certificate 4) = true) ∧
    ((if (mg fun m => { m with accounts := [acc 7 .operator], conns := conns 4, startup := true, authorities := [4] }).mgmt.startup then 4 else 16) ≤ (mg fun m => { m with accounts := [acc 7 .operator], conns := conns 4, startup := true, authorities := [4] }).mgmt.conns.length) ∧
    (credOk (mg fun m => { m with accounts := [acc 7 .operator], conns := conns 3, startup := true, authorities := [4] }) (.certificate 5) = false) ∧
    ((mg fun m => { m with provision := true }).mgmt.conns = [] ∧ (mg fun m => { m with provision := true }).mgmt.accounts = [] ∧
        (mg fun m => { m with provision := true }).mgmt.provision = true ∧ mgmtServes (mg fun m => { m with provision := true }) = true) ∧
    (isStage (mg fun m => { m with accounts := [acc 7 .operator], conns := conns 3, startup := true, authorities := [4] }) = false) := by
  and_intros <;> decide +kernel

theorem test_meets_ManagementSessionsAndProvisioning_2 :
    (mgmtServes (mg fun m => { m with provision := true, conns := [{ id := 9, prov := true }, { id := 2 }] }) = true ∧
        (mg fun m => { m with provision := true, conns := [{ id := 9, prov := true }, { id := 2 }] }).mgmt.provision = true ∧
        (mg fun m => { m with provision := true, conns := [{ id := 9, prov := true }, { id := 2 }] }).mgmt.accounts = [] ∧
        ((mg fun m => { m with provision := true, conns := [{ id := 9, prov := true }, { id := 2 }] }).mgmt.conns.any fun c => c.id == 9 && c.prov) = true ∧
        (mg fun m => { m with provision := true, conns := [{ id := 9, prov := true }, { id := 2 }] }).vault.st = 2 ∧
        (mg fun m => { m with provision := true, conns := [{ id := 9, prov := true }, { id := 2 }] }).vault.writeHold = false) ∧
    (mgmtServes (mgA .readOnly id) = true ∧ (mgA .readOnly id).mgmt.conns.find? (·.id == req1.conn) = some { id := 1 } ∧
        withinRate { id := 1 } req1.second (mgA .readOnly id).mgmt = true ∧
        (mgA .readOnly id).account? (acc 7 .readOnly).user = some (acc 7 .readOnly) ∧ (acc 7 .readOnly).locked = false ∧
        98 ≠ (acc 7 .readOnly).password) ∧
    ((mgA .readOnly fun m => { m with accounts := [accF 4] }).account? (accF 4).user = some (accF 4) ∧ (accF 4).locked = false) ∧
    ((5, (acc 7 .readOnly).user) ∈ (mgA .readOnly id).mgmt.sessions ∧
        (∀ x ∈ (mgA .readOnly id).mgmt.sessions, x.1 = 5 → x.2 = (acc 7 .readOnly).user)) := by
  and_intros <;> decide +kernel

theorem test_meets_ManagementSessionsAndProvisioning_3 :
    Granted (mgA .readOnly id) 0 .sessions tokR { id := 1 } (acc 7 .readOnly) := granted_of_ok rfl (by decide +kernel)

theorem test_meets_AccountsCertificatesAndNetwork_1 :
    ((mgA .administrator id).vault.st = 2 ∧ (mgA .administrator id).vault.writeHold = false) ∧
    Granted (mgA .administrator id) 2 .accounts req1 { id := 1 } (acc 7 .administrator) ∧
    ((mgA .administrator id).account? 8 = none ∧ (mgA .administrator id).mgmt.accounts.length < 8 ∧
        4 ∉ (mgA .administrator id).mgmt.authorities) ∧
    (Granted (mgA .administrator fun m => { m with accounts := m.accounts ++ (List.range 7).map fun i => acc (20 + i) .readOnly }) 2 .accounts req1 { id := 1 } (acc 7 .administrator)) :=
  ⟨by decide +kernel, granted_of_ok rfl (by decide +kernel), by decide +kernel, granted_of_ok rfl (by decide +kernel)⟩

theorem test_meets_AccountsCertificatesAndNetwork_2 :
    (8 ≤ (mgA .administrator fun m => { m with accounts := m.accounts ++ (List.range 7).map fun i => acc (20 + i) .readOnly }).mgmt.accounts.length ∧
        (mgA .administrator fun m => { m with accounts := m.accounts ++ (List.range 7).map fun i => acc (20 + i) .readOnly }).account? 8 = none) ∧
    (Granted (mgA .administrator fun m => { m with accounts := m.accounts ++ [acc 8 .administrator], sessions := m.sessions ++ [(6, 8)] }) 2 .accounts req1 { id := 1 } (acc 7 .administrator)) ∧
    (((mgA .administrator fun m => { m with accounts := m.accounts ++ [acc 8 .administrator], sessions := m.sessions ++ [(6, 8)] }).account? 8).isSome = true ∧
        lastAdmin (mgA .administrator fun m => { m with accounts := m.accounts ++ [acc 8 .administrator], sessions := m.sessions ++ [(6, 8)] }) 8 = false ∧ lastAdmin (mgA .administrator id) 7 = true ∧
        ((mgA .administrator id).account? 7).isSome = true ∧ Role.operator ≠ .administrator) ∧
    Granted (mgA .administrator id) 2 .certificates req1 { id := 1 } (acc 7 .administrator) :=
  ⟨by decide +kernel, granted_of_ok rfl (by decide +kernel), by decide +kernel, granted_of_ok rfl (by decide +kernel)⟩

theorem test_meets_AccountsCertificatesAndNetwork_3 :
    Granted (mgA .administrator id) 2 .network req1 { id := 1 } (acc 7 .administrator) ∧
    ((mgA .administrator fun m => { m with networkNext := some 6 }).mgmt.networkNext = some 6 ∧
        isStage (mgA .administrator fun m => { m with networkNext := some 6 }) = false) :=
  ⟨granted_of_ok rfl (by decide +kernel), by decide +kernel⟩

theorem test_meets_ManagementActionsUpdatesAndReads_1 :
    Granted (mgOn (live) .operator) 1 .powerLimit req1 { id := 1 } (acc 7 .operator) ∧
    ((mgOn (live) .operator).vault.st = 2 ∧ (mgOn (live) .operator).vault.writeHold = false ∧ (mgOn (live) .operator).mod.mstate = .ready ∧
        (mgOn (live) .operator).mod.rliEn = false ∧ (mgOn (live) .operator).tiles[(0 : Fin 12)].safelight = false) ∧
    ((405 : Nat) ≤ 1350 ∧ (404 : Nat) < 405 ∧ (1350 : Nat) < 1351) ∧
    Granted (mgOn live .readOnly) 0 .powerLimit req1 { id := 1 } (acc 7 .readOnly) ∧
    roleLevel (acc 7 .readOnly).role = 0 :=
  ⟨granted_of_ok rfl (by decide +kernel), by decide +kernel, by decide, granted_of_ok rfl (by decide +kernel), by decide +kernel⟩

theorem test_meets_ManagementActionsUpdatesAndReads_2 :
    Granted (mgOn (live) .operator) 1 .housekeeping req1 { id := 1 } (acc 7 .operator) ∧
    Granted (mgOn (slS 8 false) .operator) 1 .manager req1 { id := 1 } (acc 7 .operator) ∧
    ((mgOn (slS 8 false) .operator).mod.mstate = .safelight ∧ (mgOn (slS 8 false) .operator).mod.slExit = false ∧
        (mgOn (slS 8 false) .operator).mod.slCause = 8) ∧
    (mgOn (slS 9 false) .operator).mod.slCause.getLsbD 0 = true :=
  ⟨granted_of_ok rfl (by decide +kernel), granted_of_ok rfl (by decide +kernel), by decide +kernel, by decide +kernel⟩

/-- Housekeeping is away: its swap window is open, or its watchdog halted it. -/
def winH : State := { live with sec := { live.sec with window := some 19 } }
def haltH : State := { live with hk := { live.hk with halted := true } }
theorem test_meets_ManagementActionsUpdatesAndReads_3 :
    Granted (mgOn (slS 9 false) .operator) 1 .manager req1 { id := 1 } (acc 7 .operator) ∧
    Granted (mgOn (live) .operator) 1 .manager req1 { id := 1 } (acc 7 .operator) ∧
    Granted (mgOn (live) .operator) 1 (.tile 0) req1 { id := 1 } (acc 7 .operator) ∧
    Granted (mgOn (rliS) .operator) 1 (.tile 0) req1 { id := 1 } (acc 7 .operator) ∧
    (hkAway live = false ∧ hkAway (slS 9 false) = false ∧ hkAway winH = true ∧ hkAway haltH = true) ∧
    Granted (mgOn winH .operator) 1 .manager req1 { id := 1 } (acc 7 .operator) ∧
    Granted (mgOn winH .operator) 1 .housekeeping req1 { id := 1 } (acc 7 .operator) ∧
    Granted (mgOn haltH .operator) 1 .manager req1 { id := 1 } (acc 7 .operator) ∧
    Granted (mgOn haltH .operator) 1 .housekeeping req1 { id := 1 } (acc 7 .operator) :=
  ⟨granted_of_ok rfl (by decide +kernel), granted_of_ok rfl (by decide +kernel), granted_of_ok rfl (by decide +kernel),
      granted_of_ok rfl (by decide +kernel), by decide +kernel, granted_of_ok rfl (by decide +kernel), granted_of_ok rfl (by decide +kernel),
      granted_of_ok rfl (by decide +kernel), granted_of_ok rfl (by decide +kernel)⟩

theorem test_meets_ManagementActionsUpdatesAndReads_4 :
    (mgOn (rliS) .operator).tiles[(0 : Fin 12)].rli = true ∧ (mgOn (rliS) .operator).tiles[(0 : Fin 12)].st = .locked := by decide +kernel

theorem test_meets_ManagementActionsUpdatesAndReads_5 :
    Granted (mgOn (live) .administrator) 2 .update req1 { id := 1 } (acc 7 .administrator) ∧
    ((mgOn (live) .administrator).sec.window = none ∧ (mgOn (live) .administrator).sec.cmd = .none ∧ (srcB 2 false).fault = false ∧
        manifestAccepted (srcB 2 false).manifest (mgOn (live) .administrator) = true) ∧
    Granted (mgOn (secS (staged 1)) .administrator) 2 .update req1 { id := 1 } (acc 7 .administrator) ∧
    ((mgOn (secS (staged 1)) .administrator).sec.recovery = false ∧ otherCode (mgOn (secS (staged 1)) .administrator) = 1 ∧
        (mgOn (secS (staged 1)) .administrator).sec.cmd = .none) :=
  ⟨granted_of_ok rfl (by decide +kernel), by decide +kernel, granted_of_ok rfl (by decide +kernel), by decide +kernel⟩

theorem test_meets_ManagementActionsUpdatesAndReads_6 :
    (Granted (mgOn ((secS fun x => { x with cmd := .stage (srcB 2 false) false, updState := 1 })) .administrator) 2 .update req1 { id := 1 } (acc 7 .administrator)) ∧
    ((mgOn ((secS fun x => { x with cmd := .stage (srcB 2 false) false, updState := 1 })) .administrator).sec.cmd ≠ .none ∧
        (mgOn ((secS fun x => { x with cmd := .stage (srcB 2 false) false, updState := 1 })) .administrator).sec.cmd = .stage (srcB 2 false) false ∧
        (mgOn ((secS fun x => { x with cmd := .stage (srcB 2 false) false, updState := 1 })) .administrator).sec.window = none) ∧
    Granted (mgOn (iodS 8500 id) .administrator) 2 .update req1 { id := 1 } (acc 7 .administrator) ∧
    ((mgOn (iodS 8500 id) .administrator).sec.cmd = .none ∧ (mgOn (iodS 8500 id) .administrator).sec.recovery = false ∧
        iodCool (mgOn (iodS 8500 id) .administrator) = true ∧
        manifestOf (mgOn (iodS 8500 id) .administrator) (mgOn (iodS 8500 id) .administrator).sec.running = some factoryManifest) :=
  ⟨granted_of_ok rfl (by decide +kernel), ⟨(fun h => by cases h), rfl, rfl⟩, granted_of_ok rfl (by decide +kernel), by decide +kernel⟩

theorem test_meets_ManagementActionsUpdatesAndReads_7 :
    Granted (mgOn live .readOnly) 0 .update req1 { id := 1 } (acc 7 .readOnly) ∧
    Granted (mgOn live .readOnly) 0 .manager req1 { id := 1 } (acc 7 .readOnly) ∧
    Granted (mgOn live .readOnly) 0 (.tile 11) req1 { id := 1 } (acc 7 .readOnly) ∧
    Granted (mgOn live .readOnly) 0 .eventService req1 { id := 1 } (acc 7 .readOnly) :=
  ⟨granted_of_ok rfl (by decide +kernel), granted_of_ok rfl (by decide +kernel), granted_of_ok rfl (by decide +kernel),
      granted_of_ok rfl (by decide +kernel)⟩

theorem test_meets_ManagementActionsUpdatesAndReads_8 :
    ((mgOn live .readOnly).mgmt.conns.filter (·.stream)).length < 4 ∧
    (Granted (mgOn (secS fun x => { x with debug := 0 }) .service) 0 .serviceFacilities req1 { id := 1 } (acc 7 .service)) ∧
    (Granted (mgOn (secS fun x => { x with debug := 1 }) .service) 0 .serviceFacilities req1 { id := 1 } (acc 7 .service)) ∧
    ((mgOn (secS fun x => { x with debug := 1 }) .service).sec.debug ≠ 0 ∧
        (mgOn (secS fun x => { x with debug := 0 }) .service).sec.debug = 0 ∧ (acc 7 .service).role = .service ∧ Proc.vault ≠ .thimble) :=
  ⟨by decide +kernel, granted_of_ok rfl (by decide +kernel), granted_of_ok rfl (by decide +kernel), by decide +kernel⟩

theorem test_meets_SidebandAnswers :
    (live.mod.auxOn = true ∧ live.mod.rails = true ∧ live.mod.sidebandUp = true ∧ live.mod.perst = false ∧ (5 : BitVec 8) ≠ 0 ∧
        (5 : BitVec 8) ≠ 0xFF ∧ (0xFE : BitVec 8) ≠ 0xFF) ∧
    (((sensOne { raw := some 4200, used := some 4200, status := 0 }).hk.at (282 - 1)).used = some 4200 ∧
        ((sensOne { raw := some 4200, used := some 4200, status := 0 }).hk.at (282 - 1)).failed = false ∧
        ((sensOne { raw := none, used := some 4300, status := 2 }).hk.at (282 - 1)).used = some 4300 ∧
        ((sensOne { raw := none, used := some 4300, status := 2 }).hk.at (282 - 1)).failed = true ∧ (live.hk.at (1 - 1)).used = none) ∧
    (smbAlert alertS = true ∧ smbAlert live = false) :=
  ⟨by decide +kernel, by decide +kernel, by decide +kernel⟩

theorem test_meets_MemoryStaysCanonical :
    memS.memoryWf = true ∧ isNext (step memS) = true := by decide +kernel

theorem test_meets_FaultIsLeftOnlyByReset :
    Instr.mayReset .submit = false ∧ (inState .fault).mod.mstate = .fault ∧ isNext (exec .submit (inState .fault)) = true :=
        by decide +kernel

theorem test_meets_FusesOnlyGain :
    fusedDebug (fused live).sec.fuses = 2 ∧
    (Instr.mayReset .submit = false ∧ (secS fun x => { x with debug := 1 }).sec.debug = 1 ∧
        isNext (exec .submit (secS fun x => { x with debug := 1 })) = true) :=
  ⟨by decide +kernel, by decide +kernel⟩

theorem test_meets_MappedPagesStayDisjoint :
    live.pagesOk = true := by decide +kernel

theorem test_meets_IdentityRegistersReadTheFunction :
    (live.mod.stepping = 2 ∧ ({ live with mod := { live.mod with stepping := 1 } } : State).mod.stepping = 1) ∧
    (barUp withVf 63 = true ∧ barUp live 0 = true) :=
  ⟨by decide +kernel, by decide +kernel⟩

theorem test_meets_Raw32OutputsAreClamped :
    (numOutFmt 0x4000000 = 4 ∧ numOutFmt 0x1000000 ≠ 4 ∧ numOutFmt (pieceNum fileN_ 0) = 4 ∧ rqOk fileN_ 0 = true) ∧
    (outputElem 0 0 0 0 5).2 = false :=
  ⟨by decide +kernel, by decide +kernel⟩

/-! ### The spec's worked examples -/

/-- R87–R89 (03): centres, thresholds and decisions of the nominal entry. -/
theorem test_example_levels_nominal :
    levelCentre {} 1 = 186 ∧ levelCentre {} 2 = 310 ∧ levelCentre {} 3 = 434 ∧ threshold {} 1 = 248 ∧ threshold {} 2 = 372 ∧
    decideLevel (thresholds {}) 20 = (2, false) ∧ decideLevel (thresholds {}) 22 = (2, false) ∧
    decideLevel (thresholds {}) 23 = (2, true) := by decide +kernel

/-- R194 (06): half-row B of row 12 of core OC17. -/
theorem test_example_half_row :
    let h : Half := { k := 16257, o := 1024, delta := (List.replicate 33 0).set 20 1 }
    levelCentre h 19 = 2439 ∧ levelCentre h 20 = 2565 ∧ threshold h 19 = 2502 := by decide +kernel

/-- The same half-row fitted from centres on the adopted line, g = 7.8125 and o = 4.00. -/
def lineMeas : HalfMeas := { mu := (List.range 33).map fun (k : Nat) => 262144 + 512000 * (k : Int), sigma := List.replicate 33 26214 }

theorem test_example_fit :
    halvesAgree lineMeas lineMeas = true ∧
    (fitHalf (adoptHalf lineMeas lineMeas)).map (fun h => (h.k, h.o)) = some (16257, 1024) := by decide +kernel

/-- R101 (03): the INT4 × INT4 row group with G = −49. -/
def groupBytes : List Nat := [5, 13, 7, 8] ++ List.replicate 28 0 ++ [2, 15] ++ List.replicate 30 0
def groupU : List Nat := [11, 4, 7, 14] ++ List.replicate 28 8 ++ [0, 13] ++ List.replicate 30 8
def groupBlock : Block :=
  { pat := 0, piece := 0, set := 0, pass := 0, analog := false, wb := 4, groups := 1
    planes := (List.range 4).map fun p => sliceOf groupU p }
def groupLevels : List (Nat × Bool × Bool) :=
  (List.range 132).flatMap fun rh => (List.range 8).map fun k => (popHalf (sliceOf groupBytes k &&& groupBlock.row (rh / 2)) (rh % 2), false, false)

theorem test_example_exact_group :
    recombine 3 0 groupBlock groupLevels 1 0 0 0 = -28 ∧ recombine 3 0 groupBlock groupLevels 1 0 0 1 = -21 ∧
    ((List.range 4).map fun p => levelAt groupLevels p 0 2) = [2, 2, 2, 1] := by decide +kernel

/-- R115, R123, R125 (04): the full chain, 7,900,892 and 112. -/
theorem test_example_chain :
    scaleTerm false (-49) 0x00029C40 = -490000 ∧ scaleTerm false 1311 0x0103C803 = 8390892 ∧
    outputElem 0x1000000 (1000000000 + 46 * 2 ^ 32) 0 0 7900892 = (112, false) ∧
    outputElem 0x4000000 0xFFFFFFFF 0 0 7900892 = (7900892, false) := by decide +kernel

/-- R125, R126 (04): the four rounding cases under both modes, and the UINT8 output. -/
theorem test_example_rounding :
    ((List.map (outputElem 0x01000000 (2 ^ 30 + 38 * 2 ^ 32) 0 0) [32640, 32384, -32896, -32768]) =
      [(127, true), (126, false), (-128, false), (-128, false)]) ∧
    ((List.map (outputElem 0x11000000 (2 ^ 30 + 38 * 2 ^ 32) 0 0) [32640, 32384, -32896, -32768]) =
      [(127, true), (127, false), (-128, true), (-128, false)]) ∧
    outputElem 0x8000000000 (2 ^ 30 + 38 * 2 ^ 32) 0 0 32640 = (128, false) ∧
    outputElem 0x800000000000 (2 ^ 30 + 38 * 2 ^ 32) 0 0 32640 = (255, true) := by decide +kernel

/-- R131, R132 (04): slot 3, items 2, 8 and 11, and item 10 after an error at item 5. -/
theorem test_example_tracking :
    (trackN 0x7E13, trackD 0x7E13, trackLo 0x7E13, trackHi 0x7E13, trackInit 0x7E13) = (4, 2, -2, 3, 0) ∧
    nextExp 0x7E13 127 0 [some 210] = 1 ∧ nextExp 0x7E13 127 1 [some 95, some 120, some 100, some 60] = 0 ∧
    nextExp 0x7E13 127 0 [some 60, some 55, some 50, some 45] = -1 ∧ nextExp 0x7E13 127 0 [none, some 60, some 55, some 50] = -1 ∧
    nextExp 0x7E13 127 0 [none, none, none, none] = 0 := by decide +kernel

/-- R66 (02): V = 102,445 and y = 41,645. -/
theorem test_example_analog :
    rowValue { a := { k := 16380, o := 990 }, b := { k := 16360, o := 1000 } } 131 77 = 102445 ∧
    (102445 - 32 * 1900 : Int) = 41645 := by decide +kernel

/-- R153, R156 and R167 (05): ring (12, 40) of core OC17 takes code 8,966 in range LOW, and its map entry is 1,218. -/
theorem test_example_ring :
    driveRing { table := [0, 0, 9600, 7200, 0], dq := 10000 } (6100 * 4158) =
      ({ table := [0, 0, 9600, 7200, 0], dq := 10000, code := 8966 }, false) ∧
    sheetEntry (Tile.updRing (ringKey 1 12 40) (fun r => { r with dq := 10000, eta := 14000 }) (State.reset.tiles[(4 : Fin 12)]))
      (List.replicate 16 6100) (ringKey 1 12 40) = some (ringKey 1 12 40, 1218) := by decide +kernel

/-- R371 (11): three falls and the first rise; a second fall waits for 10 ms. -/
def hot209 (t : Int) (l : Nat) (f : Option Nat) : Hk :=
  { sensors := (sensorsAt 4500).set 209 { raw := some t, used := some t, status := 0 }, limit := l, lastFall := f, lastChange := f }

theorem test_example_throttle :
    (limitFall 0 (hot209 9520 2700 none)).limit = 2565 ∧ (limitFall 10 (hot209 9530 2565 (some 0))).limit = 2430 ∧
    (limitFall 9 (hot209 9530 2565 (some 0))).limit = 2565 ∧ (limitFall 20 (hot209 9510 2430 (some 10))).limit = 2295 ∧
    (limitRise 410 (hot209 9190 2295 (some 20))).limit = 2349 ∧ (limitRise 110 (hot209 9190 2295 (some 20))).limit = 2295 ∧
    (limitRise 400 (hot209 9201 2295 (some 20))).limit = 2295 := by decide +kernel

/-- R391, R397, R398 (11): 880 W reads 880 in HK_POWER and 176 in PWR_READING. -/
theorem test_example_power :
    let s : State := { live with hk := { live.hk with powers := List.replicate 100 (50332 * 30037 * 2500) } }
    hkRead s 8 = 880 ∧ pwrPower s = 176 := by decide +kernel

/-- R338, R479 (15): the bring-up example's writes of AQ_CTRL and reads of CTX_QUEUE. -/
theorem test_example_bring_up :
    pfRead live 0x0 = 0x72400102 ∧ pfRead live 0x8 = 0x10000400 ∧ pfRead live 0xC = 0 ∧
    (match exec (.aqEnable 0x801) live with | .next t => (pfRead t 0x1000, pfRead t 0x12000) | _ => (0, 0)) = (0x803, 0x9C000800) := by
  decide +kernel

/-- R482 (15): INT_ENABLE = 0x301 with bit 0 of INT_CAUSE already 1 sends one message on vector 1. -/
def intS : State :=
  { live with funcs := live.funcs.set 0 { enabled := true, intCause := 0x11, intVector := 1, msix := [(1, { addr := 0x90000, mask := false })] } }

theorem test_example_interrupt :
    (match exec (.intEnableWrite 0 0x301) intS with | .next t => t.msgs | _ => []) = [(0, 1)] ∧
    (match exec (.intEnableWrite 0 0x302) intS with | .next t => t.msgs | _ => [(9, 9)]) = [] := by decide +kernel

/-- R454–R456 (13): sensor IDs 210, 303 and 311, and the alert response, in the throttle example. -/
def alertEx : State :=
  { live with hk := { hot209 9523 2565 (some 0) with inForce := 2565 }, mgmt := { live.mgmt with smbAddr := 0b10 } }

theorem test_example_sideband :
    (match exec (.getSensorReading 210 true) alertEx with | .next t => t.reply | _ => .none) = .pldm 0 [0, 9523] ∧
    (match exec (.getSensorReading 303 true) alertEx with | .next t => t.reply | _ => .none) = .pldm 0 [0, 1282] ∧
    (match exec (.getStateSensorReadings 311 true) alertEx with | .next t => t.reply | _ => .none) = .pldm 0 [0, 2] ∧
    (match exec .smbusAlertResponse alertEx with | .next t => t.reply | _ => .none) = .smbus 0x5A := by decide +kernel

/-- R70–R77 (02): the dodge and burn entry of row 66, half-row B, of core OC29. -/
theorem test_example_core_register : mgmtWord live 0x47021614 = 16372 * 2 ^ 16 + 993 := by decide +kernel

/-! ### Reset -/

/-- R325, R473, R266: what holds after reset. -/
theorem test_reset_invariants :
    State.reset.memoryWf = true ∧ State.reset.pagesOk = true ∧ State.reset.portsOk = true ∧ State.reset.vfIntOk = true ∧
    State.reset.pending = [] ∧ State.reset.mod.mstate = .powerup ∧ State.reset.mod.perst = true := by decide +kernel

/-- An empty queue idles. -/
theorem test_step_empty : step State.reset = .next State.reset := rfl

/-- The table gives no bits, so no word spells a command. -/
theorem test_no_word : decodeTableWord 32 5 = none ∧ State.reset.withFetchWord 32 5 = State.reset := ⟨rfl, rfl⟩

/-! ### Ill-formed commands are refused -/

theorem test_wf_queue : Instr.wf (.nop 4095 5) = true ∧ Instr.wf (.nop 4096 5) = false ∧ Instr.wf (.createContext (2 ^ 64)) = false := by
  decide +kernel
theorem test_wf_width : widthOk 4 = true ∧ widthOk 3 = false ∧ Instr.wf (.nudge 0 2 0x10000) = false := by decide +kernel
theorem test_wf_read :
    readWithin 0x48 4 0x48 = true ∧ readWithin 0x48 1 0x4B = true ∧ readWithin 0x48 8 0x48 = true ∧ readWithin 0x48 4 0x4C = false ∧
    readWithin 0x48 2 0x49 = false := by decide +kernel
theorem test_wf_cells : hostCells [(2 ^ 64 - 1, 3)] = true ∧ hostCells [(2 ^ 64, 3)] = false := by decide +kernel
theorem test_wf_page : pageOk (.context 1023) = true ∧ pageOk (.context 1024) = false := by decide +kernel
theorem test_wf_bundle : Instr.wf (.stage (srcB 2 false)) = true ∧ Instr.wf (.stage { srcB 2 false with bytes := [] }) = false := by
  decide +kernel
theorem test_wf_token :
    Instr.wf (.debugTokenVerify (token 1 2)) = true ∧ Instr.wf (.debugTokenVerify { token 1 2 with bytes := [] }) = false := by decide +kernel
theorem test_wf_flit :
    flitOk { flit 0 true true true with payload := List.replicate 480 0 } = true ∧
    flitOk { flit 0 true true true with payload := List.replicate 481 0 } = false := by decide +kernel
theorem test_wf_row_meas :
    rowMeasOk { a := lineMeas, b := lineMeas, resid := 0 } = true ∧
    rowMeasOk { a := lineMeas, b := { lineMeas with mu := [] }, resid := 0 } = false := by decide +kernel
theorem test_wf_processor : Proc.has .tile 11 = true ∧ Proc.has .tile 12 = false ∧ Proc.has .tailor 1 = false := by decide +kernel

/-- An ill-formed command for each of the other checks. -/
theorem test_wf_refuses :
    ([.aqEnable 0, .aqDisable 1, .registerWrite 0 1 0 4 0 false, .msixVectorUnmask 3 64, .vfFlr 0, .vfEnableSet 64 true,
      .linkTrainingDone 7 8 true, .atsInvalidate 0 1 4096, .getCertificate 256 0 0, .challenge 0x100 .none 0, .getMeasurements 256 false 0,
      .chunkSend 256 0 true [], .chunkGet 0 65536, .kemCt [], .keyProg 1 0 16, .kSetGo 1 256 0, .kSetStop 1 0 16, .ideStreamInsecure 256,
      .registersAction req1 (2 ^ 32), .serviceMemoryRead req1 ⟨.vault, 0⟩ 0 4097, .getPldmVersion 256 true, .getPldmCommands 256 true,
      .getSensorReading 65536 true, .getStateSensorReadings 65536 true, .getPdr (2 ^ 32) true, .monitorRound [] [], .tileSensorRead 0 [],
      .contactSheetMap 0 [], .switchReconfiguration 0 [(1, 2), (1, 3)], .pieceMove 3 0 [1] [1], .commitRecordProgrammed 7 3,
      .eventReport { evA with cls := 13 } 0, .processorHeartbeatMiss .tile 12 0] : List Instr).all (fun c => !c.wf) = true := by decide +kernel

end Sys2Proof.Tests
end

section
/-! The range of an output element: what each of its clamps keeps (R122, R123, R125). -/
namespace Sys2Proof.Machine

theorem clampInt_eq_max_min {lo hi : Int} (h : lo ≤ hi) (v : Int) : clampInt lo hi v = max lo (min v hi) := by
  unfold clampInt
  split
  case isTrue hlo => omega
  case isFalse hlo => split <;> omega

theorem le_clampInt {lo hi : Int} (h : lo ≤ hi) (v : Int) : lo ≤ clampInt lo hi v :=
  clampInt_eq_max_min h v ▸ Int.le_max_left lo _

theorem clampInt_le {lo hi : Int} (h : lo ≤ hi) (v : Int) : clampInt lo hi v ≤ hi :=
  clampInt_eq_max_min h v ▸ Int.max_le.mpr ⟨h, Int.min_le_right v hi⟩

theorem clampInt_of_mem {lo hi v : Int} (hlo : lo ≤ v) (hhi : v ≤ hi) : clampInt lo hi v = v := by
  rw [clampInt_eq_max_min (Int.le_trans hlo hhi), Int.min_eq_left hhi, Int.max_eq_right hlo]

theorem outLo_le_outHi (fmt : Nat) : outLo fmt ≤ outHi fmt := by
  unfold outLo outHi
  split <;> decide

theorem accClamp_fst_of_snd_eq_false {sum : Int} (h : (accClamp sum).2 = false) : (accClamp sum).1 = sum := by
  simp only [accClamp, Bool.or_eq_false_iff, decide_eq_false_iff_not] at h
  obtain ⟨hlo, hhi⟩ := h
  exact clampInt_of_mem (Int.not_lt.mp hlo) (Int.not_lt.mp hhi)

/-- R123: RAW32 clamps the accumulator value, without requantisation. -/
theorem outputElem_of_raw32 {num : Nat} (h : numOutFmt num = 4) (rq : Nat) (eOut eIn sum : Int) :
    outputElem num rq eOut eIn sum =
      (clampInt (-(2 ^ 31)) (2 ^ 31 - 1) (accClamp sum).1,
       (accClamp sum).2 || (accClamp sum).1 < -(2 ^ 31) || 2 ^ 31 - 1 < (accClamp sum).1) :=
  if_pos h

/-- The requantised value of R125 before its last clamp. -/
def requantised (num rq : Nat) (eOut eIn sum : Int) : Int :=
  roundShift (numRnd num) ((accClamp sum).1 * (rq % 2 ^ 31 : Nat)) (((rq / 2 ^ 32 % 64 : Nat) : Int) + eOut - eIn).toNat + numZout num

/-- R125: every other format clamps the requantised value to the format's range. -/
theorem outputElem_of_not_raw32 {num : Nat} (h : numOutFmt num ≠ 4) (rq : Nat) (eOut eIn sum : Int) :
    outputElem num rq eOut eIn sum =
      (clampInt (outLo (numOutFmt num)) (outHi (numOutFmt num)) (requantised num rq eOut eIn sum),
       (accClamp sum).2 || requantised num rq eOut eIn sum < outLo (numOutFmt num) ||
         outHi (numOutFmt num) < requantised num rq eOut eIn sum) :=
  if_neg h

/-- R126: an element that is not saturated passed the accumulator's clamp, whatever its format. -/
theorem accClamp_snd_of_outputElem_snd_eq_false {num rq : Nat} {eOut eIn sum : Int} (h : (outputElem num rq eOut eIn sum).2 = false) :
    (accClamp sum).2 = false := by
  by_cases hf : numOutFmt num = 4
  · simp only [outputElem_of_raw32 hf, Bool.or_eq_false_iff] at h
    exact h.1.1
  · simp only [outputElem_of_not_raw32 hf, Bool.or_eq_false_iff] at h
    exact h.1.1

/-- R114: the check of a RAW32 piece asks for the pointer that names no requantisation words. -/
theorem rqOk_of_raw32 {f : List Byte} {p : Nat} (h : numOutFmt (pieceNum f p) = 4) : rqOk f p = (pieceRq0 f p == 0xFFFFFFFF) :=
  if_pos h

/-- Settles O60: each clamp of `outputElem` is a maximum of a minimum, and an element that is not saturated passed the
accumulator's. -/
theorem raw32OutputsAreClamped : Obligations.Raw32OutputsAreClamped := by
  intro num rq eOut eIn sum a
  refine ⟨fun hraw => ?raw32, fun hfmt => ?inRange, fun hsat => ?unsaturated, fun f p hraw hok => ?noWords⟩
  case raw32 => rw [outputElem_of_raw32 hraw, clampInt_eq_max_min (by decide)]
  case inRange =>
    rw [outputElem_of_not_raw32 hfmt]
    exact ⟨le_clampInt (outLo_le_outHi _) _, clampInt_le (outLo_le_outHi _) _⟩
  case unsaturated => exact accClamp_fst_of_snd_eq_false (accClamp_snd_of_outputElem_snd_eq_false hsat)
  case noWords => exact beq_iff_eq.mp (rqOk_of_raw32 hraw ▸ hok)

end Sys2Proof.Machine
end

section
/-! The identity registers: what GLB_ID and GLB_FUNC read in each function, and that no write reaches them (R473, R476, R483). -/
namespace Sys2Proof.Machine

/-! ### Reads -/

theorem pfRead_glbId (s : State) : pfRead s 0x0 = glbId s := rfl

theorem vfRead_glbId (s : State) (fn : Fin 64) : vfRead s fn 0x0 = glbId s := rfl

/-- R1, R474: the low bits of GLB_ID are the stepping. -/
theorem glbId_of_stepping {s : State} {k : BitVec 2} (h : s.mod.stepping = k) : glbId s = 0x72400100 + k.toNat := by
  rw [glbId, h]

theorem pfRead_glbFunc (s : State) : pfRead s 0xC = 0 := rfl

theorem vfRead_glbFunc (s : State) (fn : Fin 64) : vfRead s fn 0xC = fn.val := rfl

/-! ### Writes -/

/-- A function that serves memory accesses is not in D3hot. -/
theorem inD3_of_barUp {s : State} {fn : Fin 64} (h : barUp s fn = true) : inD3 s fn = false := by
  simp only [barUp, Bool.and_eq_true, Bool.not_eq_true'] at h
  obtain ⟨_, hd3⟩ := h
  rw [inD3, hd3, Bool.and_false]

/-- A register write to a function that serves memory accesses is never turned into an Unsupported Request (R315). -/
theorem exec_registerWrite_of_barUp {s : State} {fn : Fin 64} (h : barUp s fn = true) (bar off width : Nat) (v : BitVec 64)
    (poisoned : Bool) :
    exec (.registerWrite fn bar off width v poisoned) s = .next (settle s (registerWrite fn bar off width v poisoned s) 0) := by
  change barDone fn s (registerWrite fn bar off width v poisoned s) = _
  rw [barDone, inD3_of_barUp h]
  rfl

/-- A BAR0 offset that neither the PF's nor the VF's registers take from a write ignores it. -/
theorem registerWrite_of_ignored {s : State} {fn : Fin 64} {off : Nat} {v : BitVec 64}
    (hpf : pfWrite off (v.setWidth 32) s = s) (hvf : vfWrite fn off (v.setWidth 32) s = s) :
    registerWrite fn 0 off 4 v false s = s := by
  simp [registerWrite, hpf, hvf]

theorem pfWrite_identity {off : Nat} (h : off ∈ [0x0, 0xC]) (v : Word) (s : State) : pfWrite off v s = s := by
  obtain rfl | rfl : off = 0x0 ∨ off = 0xC := by simpa using h
  · rfl
  · rfl

theorem vfWrite_identity {off : Nat} (h : off ∈ [0x0, 0xC]) (fn : Fin 64) (v : Word) (s : State) : vfWrite fn off v s = s := by
  obtain rfl | rfl : off = 0x0 ∨ off = 0xC := by simpa using h
  · rfl
  · rfl

/-- Settles O59: both reads follow from the stepping and the function's number, and a write to either register makes no change
for `settle` to follow. -/
theorem identityRegistersReadTheFunction : Obligations.IdentityRegistersReadTheFunction := by
  intro s n v
  refine ⟨fun hA1 => ?a1, fun hA2 => ?a2, ?sameId, pfRead_glbFunc s, vfRead_glbFunc s n, Nat.div_eq_of_lt n.isLt,
    fun hup off hoff => ?write⟩
  case a1 => rw [pfRead_glbId, glbId_of_stepping hA1]; rfl
  case a2 => rw [pfRead_glbId, glbId_of_stepping hA2]; rfl
  case sameId => rw [vfRead_glbId, pfRead_glbId]
  case write =>
    rw [exec_registerWrite_of_barUp hup, registerWrite_of_ignored (pfWrite_identity hoff _ s) (vfWrite_identity hoff n _ s)]

end Sys2Proof.Machine
end
